-- ==== Sys2Proof/Word.lean ====
section
/-! DEFINITION. The word types of the SFM-36: bytes of messages and frames, audio samples, and the numbers
that name slots, lines, region entries, scenes and LFOs. -/

namespace Sys2Proof

/-- A byte of a control message, a result record or a link frame (R182). -/
abbrev Byte := BitVec 8

/-- A 24-bit signed audio sample (R55). -/
abbrev Sample := BitVec 24

/-- A time slot of the serial audio interface (R55). -/
abbrev AudioWord := BitVec 32

/-- A set of slots in the mask form of the messages: position n stands for slot n (R182). -/
abbrev SlotSet := BitVec 16

/-- A set of send channels: position c stands for channel c (R182). -/
abbrev SendSet := BitVec 8

/-- A slot number, 0 to 15 (R1). -/
abbrev SlotId := Fin 16

/-- A line number of a slot, 0 to 3 (R2). -/
abbrev LineId := Fin 4

/-- The number of a Region Table entry, 0 to 63 (R30). -/
abbrev EntryId := Fin 64

/-- The number of a scene record, 0 to 31 (R106). -/
abbrev SceneId := Fin 32

/-- The number of an LFO, 0 to 3 (R94). -/
abbrev LfoId := Fin 4

/-- A parameter index, 0 to 11 (R14). -/
abbrev ParamIx := Fin 12

/-- A return pair, 0 to 7 (R1). -/
abbrev PairId := Fin 8

/-- The slots in increasing order. -/
@[irreducible] def allSlots : List SlotId := [0, 1, 2, 3, 4, 5, 6, 7, 8, 9, 10, 11, 12, 13, 14, 15]

/-- The parameter indices in increasing order. -/
@[irreducible] def allParams : List ParamIx := [0, 1, 2, 3, 4, 5, 6, 7, 8, 9, 10, 11]

/-- The lines a slot can have, in line order. -/
@[irreducible] def allLines : List LineId := [0, 1, 2, 3]

end Sys2Proof
end

