-- ==== Sys2Proof/Syntax.lean ====
section
/-! DEFINITION. The commands of the block: one constructor of `Instr` per row of spec/opcode_table.json. -/

namespace Sys2Proof

/-- The two control ports (chapter 9). -/
inductive Port where
  | a
  | b
  deriving DecidableEq, Repr

/-- The other port. -/
def Port.other : Port → Port
  | .a => .b
  | .b => .a

/-- The direction bit of an address byte (9.2). -/
inductive Direction where
  | write
  | read
  deriving DecidableEq, Repr

/-- A byte received on LINK, and whether its stop bit was sampled low (R86). -/
structure LinkByte where
  value : Byte
  framingError : Bool
  deriving DecidableEq, Repr

/-- The pin levels and the supply that the end of STARTING samples (R178): true is high. `linkBusy` says whether a byte is under way on
LINK at that moment: its start bit has fallen and it has not ended (R73, log 43). -/
structure StartPins where
  rate : Bool
  adrA : Bool
  adrB : Bool
  supplyMillivolts : Nat
  linkBusy : Bool
  deriving DecidableEq, Repr

/-- The bytes clocked in a read of a port and the controller's acknowledge of each (R169, log 34). -/
structure ReadClocks where
  port : Port
  acks : List Bool
  deriving DecidableEq, Repr

/-- The CRC byte of the result that a port sends, and whether the controller acknowledges it (R169, log 34). -/
structure LastByte where
  port : Port
  acked : Bool
  deriving DecidableEq, Repr

/-- The rows of the table of operations and events.

A controller command's row carries the port, the message's tag and the message's body bytes; RECALL and TAP carry the
general-call mark as well. `time` is a time of the Tempo Unit in milliseconds (log 4).
The time of a high sample may be left out: it matters in HELD alone. -/
inductive Instr where
  -- slot commands (R151)
  | assign (p : Port) (tag : Byte) (body : List Byte)
  | clear (p : Port) (tag : Byte) (body : List Byte)
  | params (p : Port) (tag : Byte) (body : List Byte)
  | mute (p : Port) (tag : Byte) (body : List Byte)
  | unmute (p : Port) (tag : Byte) (body : List Byte)
  | route (p : Port) (tag : Byte) (body : List Byte)
  | readSlot (p : Port) (tag : Byte) (body : List Byte)
  -- pool and hold commands (R152)
  | readPool (p : Port) (tag : Byte) (body : List Byte)
  | takeHold (p : Port) (tag : Byte) (body : List Byte)
  | releaseHold (p : Port) (tag : Byte) (body : List Byte)
  | setLease (p : Port) (tag : Byte) (body : List Byte)
  -- Scene Store commands (R153)
  | storeScene (p : Port) (tag : Byte) (body : List Byte)
  | writeSceneEntry (p : Port) (tag : Byte) (body : List Byte)
  | eraseScene (p : Port) (tag : Byte) (body : List Byte)
  | readScene (p : Port) (tag : Byte) (body : List Byte)
  -- recall commands (R154)
  | recallScene (p : Port) (tag : Byte) (generalCall : Bool) (body : List Byte)
  | abortMorph (p : Port) (tag : Byte) (body : List Byte)
  | readRecall (p : Port) (tag : Byte) (body : List Byte)
  -- tempo commands (R155)
  | setTempo (p : Port) (tag : Byte) (body : List Byte)
  | setTempoSource (p : Port) (tag : Byte) (body : List Byte)
  | tap (p : Port) (tag : Byte) (generalCall : Bool) (body : List Byte) (time : Nat)
  | readTempo (p : Port) (tag : Byte) (body : List Byte)
  | setTapOptions (p : Port) (tag : Byte) (body : List Byte)
  -- modulation commands (R156)
  | setLfo (p : Port) (tag : Byte) (body : List Byte)
  | seedRandom (p : Port) (tag : Byte) (body : List Byte)
  | setRandomMode (p : Port) (tag : Byte) (body : List Byte)
  -- port commands (R157)
  | readEvents (p : Port) (tag : Byte) (body : List Byte)
  | setEventMask (p : Port) (tag : Byte) (body : List Byte)
  | portReset (p : Port) (tag : Byte) (body : List Byte)
  -- quiet, wake, restart (R159 to R161)
  | quiet (p : Port) (tag : Byte) (body : List Byte)
  | wake (p : Port) (tag : Byte) (body : List Byte)
  | restart (p : Port) (tag : Byte) (body : List Byte)
  | unknownCommand (p : Port) (tag code : Byte) (body : List Byte)
  -- port events (chapter 9)
  | i2cAddress (p : Port) (address : BitVec 7) (direction : Direction)
  | messageEnd (p : Port) (bytes : List Byte)
  | resultSent (r : LastByte)
  | readEnd (r : ReadClocks)
  | busTimeout (p : Port) (bytes : List Byte)
  -- audio events (chapter 3)
  | frameSync
  | frameTaken (words : Vector AudioWord 16)
  | clockLost
  | fadeEnd (slot : SlotId)
  | crossfadeEnd (slot : SlotId) (line : LineId)
  | quietFadeEnd
  -- pool events (chapter 2)
  | regionJobComplete
  | regionLive (entry : EntryId)
  | extensionComplete
  | abandonedPageEnd
  -- propagation events (chapters 4 and 5)
  | slotPropagation
  | lfoPropagation
  | resync
  -- tap events (section 4.3)
  | tapPress (time : Nat)
  | tapRelease (time : Nat)
  | longPress (time : Nat)
  | stuckSwitch (time : Nat)
  | tapFreshExpiry (time : Nat)
  | tapHistoryClear (time : Nat)
  -- link events (section 4.5): the bytes after the sync byte, and the time the last of them is received
  | linkTempoFrame (tempoHigh tempoLow position crc : Byte) (time : Nat)
  | linkStopFrame (zero crc : Byte) (time : Nat)
  | linkBadFrame (bytes : List LinkByte) (time : Nat)
  | linkBreak (time : Nat)
  | linkSilenceTimeout (time : Nat)
  -- hold events (R131)
  | leaseTick
  | holdExpiry (slot : SlotId)
  -- supply and start-up events (chapter 10)
  | supplyLow (millivolts : Nat)
  | supplyNormal (millivolts : Nat)
  | powerOnReset
  | resetLow
  | startUpSweep (resetHigh : Bool) (millivolts : Nat)
  | startUpSweepEnd (pins : StartPins)
  | tapHighSample (time : Nat := 0)
  | busStop (r : ReadClocks)
  deriving DecidableEq, Repr

end Sys2Proof
end

