-- ==== Sys2Proof/Decode.lean ====
section
/-! DEFINITION. The words of the operation table (it gives no row any bits, so no word spells a command) and the command codes
of the control messages (11.4). -/

namespace Sys2Proof

/-- The command a word of the table spells: none, because spec/opcode_table.json gives no row any bits (log 31). -/
def decodeTableWord (_nbits _w : Nat) : Option Instr := none

/-- The command codes of 11.4. -/
def commandCodes : List Byte :=
  [0x01, 0x02, 0x03, 0x04, 0x05, 0x06, 0x07, 0x10, 0x11, 0x12, 0x13, 0x20, 0x21, 0x22, 0x23, 0x24, 0x25, 0x26,
   0x30, 0x31, 0x32, 0x33, 0x34, 0x40, 0x41, 0x42, 0x50, 0x51, 0x52, 0x60, 0x61, 0x62]

/-- The codes accepted at the general-call address (11.4, R166): RECALL and TAP. -/
def generalCallCodes : List Byte := [0x24, 0x32]

end Sys2Proof
end

