-- ==== Sys2Proof/Config.lean ====
section
/-! DEFINITION. What the manual leaves free: the sound of the algorithms, the loops of a tank, the rounding of samples, and the
words the Voice Engine leaves in delay memory. Each is an opaque constant: no proof can see its value. Beside them stand the
types of what drives an algorithm. -/

namespace Sys2Proof

/-! ### What drives an algorithm (R61) -/

/-- The feedback of a slot's lines (R17): held at unity while the slot is frozen, else its feedback or decay parameter. -/
inductive Feedback where
  | unity
  | parameter (value : Int)
  deriving DecidableEq, Repr

/-- A modulation value, kept exactly: `exact` plus, for each (c, phase) of `sines`, c · sin(2π · phase / 4294967296) (log 26). -/
structure ModValue where
  exact : Rat
  sines : List (Rat × Nat)
  deriving DecidableEq, Repr

/-- How a line is read in a sample: its length in samples, and while it crossfades the length at which its retiring region is read
with the weight of that region's signal (R64). -/
structure LineDrive where
  length : Rat
  retiring : Option (Rat × Rat)
  deriving DecidableEq, Repr

/-- What a slot's algorithm runs on in one sample (R61): its input, its active bank, its feedback (R17), its lines (R50, R64, R65)
and its modulation (R101). -/
structure Drive where
  input : Int
  bank : Vector Int 12
  feedback : Feedback
  lines : List LineDrive
  modulation : Option ModValue
  deriving DecidableEq, Repr

/-! ### Free values -/

/-- FREE VALUE (log 9). One sample of the output of a slot's algorithm, before the slot's level and gain. The manual does not cover
the sound of the algorithms (00, section 0.3). `fresh` is new in every block and stands for all that the lines and the algorithm
hold; `slot`, `frame` (0 to 31) and `channel` (0 left, 1 right) say which sample; `drive` is what the algorithm runs on. -/
opaque Config.algorithmOutput (fresh slot frame channel : Nat) (drive : Drive) : Int

/-- FREE VALUE (log 37). The length in samples of the loop of a tank line: `perMs` is the sample rate in samples per millisecond,
`hall` says whether the algorithm is HALL, `line` is 1 to 3 and `size` the size parameter. The manual gives the pages that hold the
loop (R32) and not its length. -/
opaque Config.tankLoop (perMs : Nat) (hall : Bool) (line size : Nat) : Nat

/-- FREE VALUE (log 10). Whether a slot's sample that falls between two whole values after level and gain is rounded up. -/
opaque Config.slotRoundsUp (fresh slot frame channel : Nat) : Bool

/-- FREE VALUE (log 10). Whether a return sample that falls between two whole values after the return gain is rounded up. -/
opaque Config.returnRoundsUp (fresh frame channel : Nat) : Bool

/-- FREE VALUE (log 12). The word at position `word` (0 to 1023) of pool page `page` after the Voice Engine wrote the page in
the block that drew `stamp`. What an algorithm writes where is not specified (02, section 2.1). -/
opaque Config.poolWord (stamp page word : Nat) : BitVec 32

end Sys2Proof
end

