-- ==== Sys2Proof/Machine/State.lean ====
section
/-! DEFINITION. The state of the SFM-36 as plain data, block by block as section 0.2 lists the blocks, and the machine right
after a power-on reset. -/

namespace Sys2Proof.Machine

/-! ### Outcomes -/

/-- What stops the machine. The manual gives the part no fault: every row has an effect or none (log 24). -/
inductive Fault
  deriving DecidableEq, Repr

/-- Why a command has no meaning. -/
inductive Refusal where
  /-- Raised by an arm of `exec` whose row has no meaning yet; no arm does. Safe. -/
  | notModelled (mnemonic : String)
  deriving DecidableEq, Repr

/-! ### Supply and Reset (chapter 10) -/

/-- R176. -/
inductive PowerState where
  | starting
  | ready
  | quiet
  deriving DecidableEq, Repr

/-- R176, R181. -/
inductive SupplyState where
  | normal
  | low
  deriving DecidableEq, Repr

/-- R176: PIN covers both the RESET pin and RESTART. -/
inductive StartKind where
  | power
  | pin
  deriving DecidableEq, Repr

/-- The sample rate fixed by RATE at the end of start-up (R178). -/
inductive Rate where
  | k48
  | k96
  deriving DecidableEq, Repr

/-! ### Effect slots (chapter 1) -/

/-- R1, section 1.2. -/
inductive SlotState where
  | empty
  | preparing
  | running
  | muted
  | fading
  deriving DecidableEq, Repr

/-- The six algorithms (R13). -/
inductive Alg where
  | plate
  | hall
  | tape
  | pingpong
  | chorus
  | flanger
  deriving DecidableEq, Repr

/-- A line's growth (R2); NONE is `steady`. -/
inductive Growth where
  | steady
  | extending
  | relocating
  deriving DecidableEq, Repr

/-- Twelve parameter values, each a signed 16-bit quantity in its own unit (R1, R14). -/
abbrev Bank := Vector Int 12

/-- A bank of zeros. -/
abbrev zeroBank : Bank := Vector.replicate 12 0

/-- A line record (R2). -/
structure Line where
  current : EntryId
  retiring : Option EntryId
  growth : Growth
  deferred : Option Nat
  deriving DecidableEq, Repr

/-- A slot record (R1). `lines` is empty where the manual says absent. -/
structure Slot where
  state : SlotState
  algorithm : Option Alg
  next : Option Alg
  sendSet : SendSet
  returnPair : PairId
  active : Bank
  shadow : Bank
  swapPending : Bool
  lines : List Line
  clamped : Bool
  clip : Bool
  muteWanted : Bool
  deriving DecidableEq, Repr

/-- The last column of R1. -/
def Slot.reset : Slot :=
  { state := .empty, algorithm := none, next := none, sendSet := 0, returnPair := 0, active := zeroBank,
    shadow := zeroBank, swapPending := false, lines := [], clamped := false, clip := false, muteWanted := false }

/-! ### Holds (chapter 7) -/

/-- A hold entry (R130): the holder, and the lease count in units of 250 ms. -/
structure Hold where
  holder : Option Port
  count : Nat
  deriving DecidableEq, Repr

/-- R130. -/
def Hold.none : Hold := { holder := Option.none, count := 0 }

/-! ### Scenes and morphs (chapter 6) -/

/-- A morph entry (R124); the slot is its place in the Morph Table. -/
structure Morph where
  start : Bank
  target : Bank
  total : Nat
  done : Nat
  morphing : BitVec 12
  deriving DecidableEq, Repr

/-- A scene entry (R107), with twelve parameter positions (R185). -/
structure SceneEntry where
  slot : SlotId
  algorithm : Alg
  sendSet : SendSet
  returnPair : PairId
  mute : Bool
  params : Bank
  deriving DecidableEq, Repr

/-- R106. -/
inductive SceneState where
  | empty
  | valid
  | corrupt
  deriving DecidableEq, Repr

/-- A scene record (R106). -/
structure Scene where
  state : SceneState
  entries : List SceneEntry
  tempo : Option Nat
  morphTime : Nat
  check : BitVec 16
  deriving DecidableEq, Repr

/-- The last column of R106. -/
def Scene.reset : Scene := { state := .empty, entries := [], tempo := none, morphTime := 0, check := 0 }

/-- R122. -/
inductive RecallState where
  | idle
  | running
  | done
  | aborted
  deriving DecidableEq, Repr

/-- R122: where a recall came from. -/
inductive Origin where
  | absent
  | a
  | b
  | callA
  | callB
  deriving DecidableEq, Repr

/-- The Recall Record (R122). -/
structure RecallRecord where
  state : RecallState
  scene : Option SceneId
  origin : Origin
  applied : Nat
  skipped : Nat
  failed : Nat
  waiting : SlotSet
  lastAborted : Option SceneId
  deriving DecidableEq, Repr

/-- The last column of R122. -/
def RecallRecord.reset : RecallRecord :=
  { state := .idle, scene := none, origin := .absent, applied := 0, skipped := 0, failed := 0, waiting := 0,
    lastAborted := none }

/-! ### The delay memory pool (chapter 2) -/

/-- The states of a region entry other than FREE-ENTRY (R30). -/
inductive RegionState where
  | zeroing
  | live
  | retiring
  | abandoned
  deriving DecidableEq, Repr

/-- A Region Table entry that is not FREE-ENTRY (R30). -/
structure Region where
  state : RegionState
  first : Nat
  count : Nat
  ext : Option Nat
  owner : Option (SlotId × LineId)
  deriving DecidableEq, Repr

/-- A free run (R31). -/
structure Run where
  first : Nat
  count : Nat
  deriving DecidableEq, Repr

/-- The kinds of clear job (R38). -/
inductive JobKind where
  | region
  | extension
  deriving DecidableEq, Repr

/-- A job of the Clear Queue (R38). `cancelled` marks a job whose page in progress still has to end (R42, R54). -/
structure Job where
  kind : JobKind
  entry : EntryId
  cancelled : Bool
  deriving DecidableEq, Repr

/-- The job in progress: the pages it covers and how many of them are zeroed (R39, R53). -/
structure Progress where
  first : Nat
  pages : Nat
  zeroed : Nat
  deriving DecidableEq, Repr

/-- The contents of the pool's pages, sorted by page: a listed page was last written by the Voice Engine in the block that drew the
stamp beside it, an unlisted page is all zero (log 12). -/
abbrev Memory := List (Nat × Nat)

/-- The Delay Memory Manager and the Clear Engine: Region Table (`none` is FREE-ENTRY), Free Run List, Clear Queue, the job in
progress (the head of the queue, `none` when the engine is idle), the contents of the pages, and the region LIVE reports that the
Slot Controller has not yet taken (R43). -/
structure Pool where
  entries : Vector (Option Region) 64
  runs : List Run
  jobs : List Job
  progress : Option Progress
  written : Memory
  liveReports : List EntryId
  deriving DecidableEq, Repr

/-- R29 after each reset; the pages keep what they hold until the start-up sweep. -/
def Pool.reset (written : Memory) : Pool :=
  { entries := Vector.replicate 64 none, runs := [{ first := 0, count := 4096 }], jobs := [], progress := none,
    written := written, liveReports := [] }

/-! ### Voice Engine and Audio Port (chapter 3) -/

/-- A fade (R60): a gain that moves in a straight line from `start` to `target` over `length` blocks, `left` of them to come. -/
structure Fade where
  start : Rat
  target : Rat
  length : Nat
  left : Nat
  deriving DecidableEq, Repr

/-- A crossfade record of a line (R64): blocks left of 16, and the fixed length in samples at which the line's retiring region is
read (R47). -/
structure Crossfade where
  line : LineId
  left : Nat
  oldLength : Rat
  deriving DecidableEq, Repr

/-- The length a line is read at, in samples, with the length it moves to and the blocks left: the glide state of a time-driven line
(R65); every other line steps and has no blocks left (R20, R40). -/
structure Glide where
  line : LineId
  delay : Rat
  target : Rat
  left : Nat
  deriving DecidableEq, Repr

/-- The value of an LFO's output (R96), kept exactly: a fraction, or sin(2π · phase / 4294967296) (log 26). -/
inductive LfoOutput where
  | exact (value : Rat)
  | sine (phase : Nat)
  deriving DecidableEq, Repr

/-- The modulation a bound slot takes in a block (R101): the LFO, the outputs at its two ends, and the depth parameter. -/
structure Modulation where
  lfo : LfoId
  start : LfoOutput
  finish : LfoOutput
  depth : Int
  deriving DecidableEq, Repr

/-- A voice record (R60) with the slot's begin request, crossfade records, glide states and modulation. -/
structure Voice where
  begun : Bool
  beginRequested : Bool
  gain : Rat
  fade : Option Fade
  inputOpen : Bool
  peak : Bool
  crossfades : List Crossfade
  glides : List Glide
  modulation : Option Modulation
  deriving DecidableEq, Repr

/-- The last column of R60. -/
def Voice.reset : Voice :=
  { begun := false, beginRequested := false, gain := 0, fade := none, inputOpen := false, peak := false,
    crossfades := [], glides := [], modulation := none }

/-- A return gain and its fade (R68, R69). -/
structure GainFade where
  value : Rat
  fade : Option Fade
  deriving DecidableEq, Repr

/-- R68: at 1 with no fade. -/
def GainFade.reset : GainFade := { value := 1, fade := none }

/-- R57. -/
inductive ClockState where
  | present
  | lost
  deriving DecidableEq, Repr

/-- The Audio Port: clock watch (R57), the frame begun and not yet complete (R55), whether the first block end after a return is
still due (R59), the sends taken in the present block, the returns still to be sent, and the words last driven on AUSO. -/
structure Audio where
  clock : ClockState
  missed : Nat
  frameOpen : Bool
  returnDue : Bool
  sends : List (Vector Sample 8)
  returns : List (Vector Sample 16)
  output : Vector AudioWord 16
  deriving DecidableEq, Repr

/-- R57 after reset: LOST, nothing taken, the returns at zero. -/
def Audio.reset : Audio :=
  { clock := .lost, missed := 0, frameOpen := false, returnDue := false, sends := [], returns := [],
    output := Vector.replicate 16 0 }

/-! ### Tempo (chapter 4) -/

/-- R74. -/
inductive SourceMode where
  | auto
  | control
  | tap
  | link
  deriving DecidableEq, Repr

/-- R73: the source in charge. -/
inductive Source where
  | control
  | tap
  | link
  deriving DecidableEq, Repr

/-- R78. -/
inductive PulseState where
  | open
  | timing
  | held
  | stopped
  deriving DecidableEq, Repr

/-- R88. -/
inductive LinkState where
  | silent
  | seeking
  | locked
  | lost
  deriving DecidableEq, Repr

/-- The Link Receiver (R86 to R89): hunting while `assembly` is empty. `silenceStart` is the time of the frame that last started
the silence timer; `cutByte` marks that the byte under way began before the part became READY and is not taken (R73). -/
structure LinkReceiver where
  state : LinkState
  assembly : List Byte
  badRun : Nat
  seekReference : Option Nat
  silenceStart : Nat
  cutByte : Bool
  deriving DecidableEq, Repr

/-- What the Tempo Unit hands to the Modulation Unit (R90, R91). -/
inductive ModEvent where
  | propagation (tempo : Nat)
  | resync
  deriving DecidableEq, Repr

/-- The Tempo Unit (R73), with the propagations and RESYNCs handed over and not yet taken. `freshSince` is the timestamp of the
last tap entered, `edgeTime` that of the pulse's falling edge. -/
structure TempoUnit where
  applied : Nat
  lastPropagated : Nat
  mode : SourceMode
  source : Source
  control : Nat
  tapTempo : Option Nat
  tapFresh : Bool
  freshSince : Nat
  spikeRejection : Bool
  pulse : PulseState
  pulseTimer : Nat
  edgeTime : Nat
  intervals : List Nat
  lastTap : Option Nat
  link : LinkReceiver
  linkTempo : Option Nat
  toSlots : List Nat
  toModulation : List ModEvent
  deriving DecidableEq, Repr

/-- The last column of R73. -/
def TempoUnit.reset : TempoUnit :=
  { applied := 12000, lastPropagated := 12000, mode := .auto, source := .control, control := 12000, tapTempo := none,
    tapFresh := false, freshSince := 0, spikeRejection := true, pulse := .stopped, pulseTimer := 0, edgeTime := 0,
    intervals := [], lastTap := none,
    link := { state := .silent, assembly := [], badRun := 0, seekReference := none, silenceStart := 0, cutByte := false },
    linkTempo := none, toSlots := [], toModulation := [] }

/-! ### Modulation sources (chapter 5) -/

/-- R94. -/
inductive Shape where
  | sine
  | triangle
  | rampUp
  | rampDown
  | stepRandom
  | smoothRandom
  deriving DecidableEq, Repr

/-- An LFO Table entry (R94). The random values are whole numbers of 1/32768 (R97). -/
structure Lfo where
  shape : Shape
  rate : Nat
  division : Nat
  offset : Nat
  phase : Nat
  increment : Nat
  restartPending : Bool
  previous : Int
  current : Int
  output : LfoOutput
  deriving DecidableEq, Repr

/-- R102. -/
inductive RandomMode where
  | seeded
  | live
  deriving DecidableEq, Repr

/-- The Modulation Unit: LFO Table, LFO tempo and Random Generator. -/
structure ModulationUnit where
  lfos : Vector Lfo 4
  lfoTempo : Nat
  lfsr : BitVec 16
  mixing : BitVec 16
  mode : RandomMode
  deriving DecidableEq, Repr

/-- The last column of R94, with the increment of 1 Hz at 48 kHz (log 6). -/
def Lfo.reset : Lfo :=
  { shape := .sine, rate := 100, division := 0, offset := 0, phase := 0, increment := 4294967296 * 32 * 100 / (100 * 48000),
    restartPending := false, previous := 0, current := 0, output := .exact 0 }

/-- R94, R102 after reset. -/
def ModulationUnit.reset : ModulationUnit :=
  { lfos := Vector.replicate 4 Lfo.reset, lfoTempo := 12000, lfsr := 0x9C3B, mixing := 0, mode := .live }

/-! ### Control ports (chapter 9) -/

/-- A command as it stands in a port's command queue (R162, R166). -/
structure Command where
  tag : Byte
  code : Byte
  generalCall : Bool
  body : List Byte
  deriving DecidableEq, Repr

/-- The statuses a result can carry (8.3.2). -/
inductive Status where
  | done
  | accepted
  | unknown
  | badLen
  | quiet
  | range
  | held
  | state
  | load
  | noRoom
  | noEntry
  | empty
  | corrupt
  | badFrame
  | tooLong
  | badCrc
  | notGeneral
  | aborted
  | none
  deriving DecidableEq, Repr

/-- A result record without its closing CRC (R145, 11.2). -/
structure Result where
  tag : Byte
  code : Byte
  status : Status
  body : List Byte
  deriving DecidableEq, Repr

/-- What a read sends (R169, R170, R175): the oldest result, the idle record, the 0xFF bytes after a result sent whole, the 0xFF bytes
after a PORT RESET discarded the result, or nothing once the controller has not acknowledged a byte and SDA is released. -/
inductive Sending where
  | result (r : Result)
  | idle (r : Result)
  | whole
  | voided
  | released
  deriving DecidableEq, Repr

/-- A port's link state (R164). -/
inductive PortLink where
  | idle
  | addressed
  | receiving
  | sending (record : Sending)
  | ignoring
  deriving DecidableEq, Repr

/-- A control port (R162), with its lease length (R130). `sent` holds the bytes put out on SDA in the latest read (R169). -/
structure PortState where
  ownAddress : BitVec 7
  link : PortLink
  sent : List Byte
  buffer : List Byte
  callMark : Bool
  tooLong : Bool
  commands : List Command
  results : List Result
  flags : BitVec 14
  mask : BitVec 14
  callEnable : Bool
  lease : Nat
  deriving DecidableEq, Repr

/-- The third column of R162, and R130. -/
def PortState.reset : PortState :=
  { ownAddress := 0x34, link := .idle, sent := [], buffer := [], callMark := false, tooLong := false, commands := [], results := [],
    flags := 0, mask := 0, callEnable := true, lease := 40 }

/-! ### The machine -/

/-- The state of the SFM-36. `sweep` counts the pages the start-up sweep has zeroed, `none` while it is not running (R178). -/
structure State where
  -- Supply and Reset
  power : PowerState
  supply : SupplyState
  startKind : StartKind
  sweep : Option Nat
  rate : Rate
  -- Port A, Port B
  portA : PortState
  portB : PortState
  -- Slot Controller
  lastServed : Port
  slots : Vector Slot 16
  holds : Vector Hold 16
  morphs : Vector (Option Morph) 16
  entries : Vector (Option SceneEntry) 16
  recallRecord : RecallRecord
  -- Delay Memory Manager and Clear Engine
  pool : Pool
  -- Voice Engine, and its reports not yet taken
  voices : Vector Voice 16
  supplyGain : GainFade
  quietGain : GainFade
  stopped : Bool
  fadeReports : List SlotId
  crossfadeReports : List (SlotId × LineId)
  quietReport : Bool
  -- Audio Port
  audio : Audio
  -- Tempo Unit
  tempo : TempoUnit
  -- Modulation Unit
  modulation : ModulationUnit
  -- Scene Store
  scenes : Vector Scene 32
  -- the model's own: the counter that free values are drawn with (log 9), and the queue of commands not yet taken
  fresh : Nat
  pending : List Instr
  deriving DecidableEq, Repr

/-- The machine right after a power-on reset: at the entry of STARTING (R177), every block at its reset value. -/
def State.reset : State :=
  { power := .starting, supply := .normal, startKind := .power, sweep := none, rate := .k48,
    portA := PortState.reset, portB := PortState.reset,
    lastServed := .b, slots := Vector.replicate 16 Slot.reset, holds := Vector.replicate 16 Hold.none,
    morphs := Vector.replicate 16 none, entries := Vector.replicate 16 none, recallRecord := RecallRecord.reset,
    pool := Pool.reset [],
    voices := Vector.replicate 16 Voice.reset, supplyGain := GainFade.reset, quietGain := GainFade.reset, stopped := false,
    fadeReports := [], crossfadeReports := [], quietReport := false,
    audio := Audio.reset, tempo := TempoUnit.reset, modulation := ModulationUnit.reset,
    scenes := Vector.replicate 32 Scene.reset, fresh := 0, pending := [] }

end Sys2Proof.Machine
end

