-- ==== Sys2Proof/Machine/Params.lean ====
section
/-! DEFINITION. The algorithms' tables (section 1.3), tempo division (section 1.5.2), line sizes (section 2.3) and the load
budget (section 1.5.1). -/

namespace Sys2Proof.Machine

/-! ### Whole-number arithmetic -/

/-- The quotient rounded up. -/
def ceilDiv (a b : Nat) : Nat := (a + b - 1) / b

/-- The quotient rounded to the nearest whole number, a half rounded up. -/
def roundDiv (a b : Nat) : Nat := (2 * a + b) / (2 * b)

/-- The quotient of a signed number rounded to the nearest whole number, a half rounded up (R125). -/
def roundDivInt (a : Int) (b : Nat) : Int := (2 * a + b) / (2 * b)

/-- `value` brought into `lo` to `hi`. -/
def clip (lo hi value : Nat) : Nat := max lo (min hi value)

/-! ### The sample rate -/

/-- Samples per millisecond: fs / 1000. -/
def Rate.perMs : Rate → Nat
  | .k48 => 48
  | .k96 => 96

/-- fs in hertz. -/
def Rate.hertz (r : Rate) : Nat := r.perMs * 1000

/-- A time in milliseconds as blocks of 32 samples, rounded up: ceil(time × fs / 32000) (R65, R115). -/
def Rate.blocks (r : Rate) (ms : Nat) : Nat := ceilDiv (ms * r.perMs) 32

/-- The load budget (R23). -/
def Rate.budget : Rate → Nat
  | .k48 => 64
  | .k96 => 32

/-! ### The algorithms -/

/-- R13: load units. -/
def Alg.load : Alg → Nat
  | .plate => 6
  | .hall => 8
  | .tape => 2
  | .pingpong => 3
  | .chorus => 2
  | .flanger => 2

/-- R13: the number of lines. -/
def Alg.lineCount : Alg → Nat
  | .plate => 4
  | .hall => 4
  | .tape => 1
  | .pingpong => 2
  | .chorus => 1
  | .flanger => 1

/-- R13: TAPE and PINGPONG have time-driven lines, a division, and a glide (R20). -/
def Alg.timeDriven : Alg → Bool
  | .tape => true
  | .pingpong => true
  | _ => false

/-- R17: the algorithms with a freeze parameter. -/
def Alg.hasFreeze : Alg → Bool
  | .chorus => false
  | .flanger => false
  | _ => true

/-- R101: the index of LFO select. -/
def Alg.lfoSelectIx : Alg → ParamIx
  | .plate => 6
  | .hall => 6
  | _ => 5

/-- R101: the index of the depth parameter. -/
def Alg.depthIx : Alg → ParamIx
  | .plate => 5
  | .hall => 5
  | .tape => 4
  | .pingpong => 4
  | .chorus => 1
  | .flanger => 1

/-- R17: the index of the slot's feedback or decay parameter. -/
def Alg.feedbackIx : Alg → ParamIx
  | .plate => 0
  | .hall => 0
  | .tape => 1
  | .pingpong => 1
  | .chorus => 4
  | .flanger => 2

/-- Section 1.3.1: the index of level. -/
def Alg.levelIx : Alg → ParamIx
  | .flanger => 6
  | _ => 7

/-- The index of time (TAPE, PINGPONG), division, glide, freeze, and PINGPONG's ratio; the index of PLATE's and HALL's
predelay and size; the index of CHORUS's and FLANGER's base delay. -/
abbrev timeIx : ParamIx := 0
abbrev divisionIx : ParamIx := 2
abbrev glideIx : ParamIx := 6
abbrev freezeIx : ParamIx := 8
abbrev ratioIx : ParamIx := 9
abbrev predelayIx : ParamIx := 1
abbrev sizeIx : ParamIx := 2
abbrev baseDelayIx : ParamIx := 0

/-- Section 1.3.1: the range of a parameter, or `none` where the algorithm does not list the index (R14). -/
def Alg.range : Alg → ParamIx → Option (Int × Int)
  | .plate, ix =>
    match ix with
    | 0 => some (100, 20000)
    | 1 => some (0, 250)
    | 2 => some (1, 16)
    | 3 => some (0, 100)
    | 4 => some (0, 100)
    | 5 => some (0, 100)
    | 6 => some (0, 4)
    | 7 => some (-127, 0)
    | 8 => some (0, 1)
    | 9 => none
    | 10 => some (20, 500)
    | 11 => some (1000, 20000)
  | .hall, ix =>
    match ix with
    | 0 => some (100, 20000)
    | 1 => some (0, 250)
    | 2 => some (1, 16)
    | 3 => some (0, 100)
    | 4 => some (0, 100)
    | 5 => some (0, 100)
    | 6 => some (0, 4)
    | 7 => some (-127, 0)
    | 8 => some (0, 1)
    | 9 => some (0, 100)
    | 10 => some (20, 500)
    | 11 => some (1000, 20000)
  | .tape, ix =>
    match ix with
    | 0 => some (1, 10000)
    | 1 => some (0, 99)
    | 2 => some (0, 9)
    | 3 => some (0, 100)
    | 4 => some (0, 100)
    | 5 => some (0, 4)
    | 6 => some (0, 500)
    | 7 => some (-127, 0)
    | 8 => some (0, 1)
    | 9 => some (0, 100)
    | 10 => some (20, 500)
    | 11 => some (1000, 20000)
  | .pingpong, ix =>
    match ix with
    | 0 => some (1, 5000)
    | 1 => some (0, 99)
    | 2 => some (0, 9)
    | 3 => some (0, 100)
    | 4 => some (0, 100)
    | 5 => some (0, 4)
    | 6 => some (0, 500)
    | 7 => some (-127, 0)
    | 8 => some (0, 1)
    | 9 => some (25, 100)
    | 10 => some (20, 500)
    | 11 => some (1000, 20000)
  | .chorus, ix =>
    match ix with
    | 0 => some (5, 40)
    | 1 => some (0, 100)
    | 2 => some (1, 4)
    | 3 => some (0, 100)
    | 4 => some (0, 50)
    | 5 => some (0, 4)
    | 6 => some (0, 100)
    | 7 => some (-127, 0)
    | 8 => none
    | 9 => none
    | 10 => none
    | 11 => none
  | .flanger, ix =>
    match ix with
    | 0 => some (1, 100)
    | 1 => some (0, 100)
    | 2 => some (-99, 99)
    | 3 => some (0, 100)
    | 4 => some (0, 100)
    | 5 => some (0, 4)
    | 6 => some (-127, 0)
    | 7 => some (0, 1)
    | 8 => none
    | 9 => none
    | 10 => none
    | 11 => none

/-- Section 1.3.1: the defaults, 0 at every position the algorithm does not list (R15). -/
def Alg.defaults : Alg → Bank
  | .plate => #v[2500, 20, 8, 40, 70, 10, 4, 0, 0, 0, 80, 12000]
  | .hall => #v[3500, 20, 12, 30, 70, 10, 4, 0, 0, 50, 80, 12000]
  | .tape => #v[500, 35, 0, 60, 0, 4, 50, 0, 0, 20, 100, 8000]
  | .pingpong => #v[375, 40, 0, 100, 0, 4, 50, 0, 0, 100, 100, 10000]
  | .chorus => #v[12, 40, 2, 80, 0, 0, 50, 0, 0, 0, 0, 0]
  | .flanger => #v[20, 50, 50, 50, 50, 1, 0, 0, 0, 0, 0, 0]

/-- R14: whether the algorithm lists the index. -/
def Alg.lists (a : Alg) (ix : ParamIx) : Bool := (a.range ix).isSome

/-- R14: whether the algorithm lists the index with a range that holds the value. -/
def Alg.admits (a : Alg) (ix : ParamIx) (value : Int) : Bool :=
  match a.range ix with
  | some (lo, hi) => lo ≤ value && value ≤ hi
  | none => false

/-- R125: the discrete parameters: LFO select, freeze, voices, through-zero and division. -/
def Alg.discrete (a : Alg) (ix : ParamIx) : Bool :=
  ix == a.lfoSelectIx || (a.hasFreeze && ix == freezeIx) || (a.timeDriven && ix == divisionIx)
    || (a == .chorus && ix == 2) || (a == .flanger && ix == 7)

/-- R185: the bank with 0 at each position the algorithm does not list. -/
def Alg.listedOnly (a : Alg) (b : Bank) : Bank :=
  allParams.foldl (fun acc ix => if a.lists ix then acc else acc.set ix 0) b

/-! ### Tempo division (R26) -/

/-- The multiple of a quarter note as a fraction; code 0 is FREE and stands for no multiple. -/
def divisionMultiple : Nat → Nat × Nat
  | 1 => (4, 1)
  | 2 => (2, 1)
  | 3 => (3, 2)
  | 4 => (1, 1)
  | 5 => (2, 3)
  | 6 => (3, 4)
  | 7 => (1, 2)
  | 8 => (1, 3)
  | 9 => (1, 4)
  | _ => (1, 1)

/-- The largest value of an algorithm's time parameter. -/
def Alg.timeMax : Alg → Nat
  | .pingpong => 5000
  | _ => 10000

/-- R26: round(60000 × 100 / tempo × multiple) ms, a half rounded up, clipped to the time parameter's range. -/
def derivedTime (a : Alg) (tempo division : Nat) : Nat :=
  clip 1 a.timeMax (roundDiv (6000000 * (divisionMultiple division).1) (tempo * (divisionMultiple division).2))

/-- The division code of a bank of a TAPE or PINGPONG slot. -/
def Bank.division (b : Bank) : Nat := b[divisionIx].toNat

/-- R26: a TAPE or PINGPONG bank whose division is not FREE. -/
def Alg.locked (a : Alg) (b : Bank) : Bool := a.timeDriven && b.division != 0

/-- The bank with the derived time written into it when it is tempo-locked (R27). -/
def Alg.withDerived (a : Alg) (tempo : Nat) (b : Bank) : Bank :=
  if a.locked b then b.set timeIx (derivedTime a tempo b.division) else b

/-! ### Line sizes (R32, R33) -/

/-- R13: the time of a time-driven line: the time parameter, or for PINGPONG's right line round(time × ratio / 100) and at
least 1 (log 19). -/
def Alg.lineTime (a : Alg) (b : Bank) (line : LineId) : Nat :=
  if a == .pingpong && line == 1 then max 1 (roundDiv (b[timeIx].toNat * b[ratioIx].toNat) 100) else b[timeIx].toNat

/-- R32: the pages of tank lines 1 to 3 per unit of size at 48 kHz. -/
def Alg.tankPages : Alg → LineId → Nat
  | .plate, 1 => 2
  | .plate, 2 => 3
  | .plate, 3 => 5
  | .hall, 1 => 3
  | .hall, 2 => 5
  | .hall, 3 => 8
  | _, _ => 0

/-- R32: the pages that hold what a line's parameters ask. -/
def requiredPages (r : Rate) (a : Alg) (b : Bank) (line : LineId) : Nat :=
  match a with
  | .tape => ceilDiv (a.lineTime b line * r.perMs + 32) 1024
  | .pingpong => ceilDiv (a.lineTime b line * r.perMs + 32) 1024
  | .plate => (r.perMs / 48) * (if line = 0 then 12 else a.tankPages line * b[sizeIx].toNat)
  | .hall => (r.perMs / 48) * (if line = 0 then 12 else a.tankPages line * b[sizeIx].toNat)
  | .chorus => (r.perMs / 48) * 2
  | .flanger => r.perMs / 48

/-- R33: the allocation size of a line for a need, with headroom for a time-driven line. -/
def allocationSize (a : Alg) (need : Nat) : Nat :=
  if a.timeDriven then min (ceilDiv (need * 5) 4) 1024 else need

/-- R13: the lines of an algorithm, in order. -/
def Alg.lines (a : Alg) : List LineId := allLines.take a.lineCount

/-- The allocation sizes of all lines of an algorithm for a bank, in line order (R33). -/
def allocationSizes (r : Rate) (a : Alg) (b : Bank) : List Nat :=
  a.lines.map fun l => allocationSize a (requiredPages r a b l)

/-- R44, R20: whether a written index enters the required pages of a line. -/
def Alg.entersNeed (a : Alg) (line : LineId) (ix : ParamIx) : Bool :=
  match a with
  | .tape => ix == timeIx
  | .pingpong => ix == timeIx || (line == 1 && ix == ratioIx)
  | .plate => line != 0 && ix == sizeIx
  | .hall => line != 0 && ix == sizeIx
  | .chorus => false
  | .flanger => false

/-- R32: the usable length in samples of a region of p pages. -/
def usableLength (pages : Nat) : Nat := pages * 1024 - 32

/-- The length in samples that a line's parameters ask: the time of a time-driven line (R65), the loop of a tank line (R50, log 37),
the predelay or the base delay (R20). A tank's loop lies within the pages that hold it (R32). -/
def lineAsked (r : Rate) (a : Alg) (b : Bank) (line : LineId) : Rat :=
  match a with
  | .tape => (a.lineTime b line * r.perMs : Nat)
  | .pingpong => (a.lineTime b line * r.perMs : Nat)
  | .plate =>
    if line = 0 then (b[predelayIx].toNat * r.perMs : Nat)
    else (min (Config.tankLoop r.perMs false line.val b[sizeIx].toNat) (usableLength (requiredPages r a b line)) : Nat)
  | .hall =>
    if line = 0 then (b[predelayIx].toNat * r.perMs : Nat)
    else (min (Config.tankLoop r.perMs true line.val b[sizeIx].toNat) (usableLength (requiredPages r a b line)) : Nat)
  | .chorus => (b[baseDelayIx].toNat * r.perMs : Nat)
  | .flanger => (b[baseDelayIx].toNat * r.perMs : Nat) / 10

/-- R20, R65: the blocks of a glide: the glide parameter for a time-driven line; every other line steps. -/
def Alg.glideBlocks (a : Alg) (r : Rate) (b : Bank) : Nat := if a.timeDriven then r.blocks b[glideIx].toNat else 0

/-! ### Load (R23) -/

/-- R23: the units a slot counts. -/
def Slot.load (sl : Slot) : Nat :=
  match sl.state with
  | .empty => 0
  | .fading => max (sl.algorithm.elim 0 Alg.load) (sl.next.elim 0 Alg.load)
  | _ => sl.algorithm.elim 0 Alg.load

/-- R23: the load tally. -/
def State.loadTally (s : State) : Nat := (allSlots.map fun n => s.slots[n].load).sum

/-- R24: the tally a decision would leave with slot `n` counting `units`. -/
def State.tallyWith (s : State) (n : SlotId) (units : Nat) : Nat := s.loadTally - s.slots[n].load + units

/-- R24: whether slot `n` may come to count `units`. -/
def State.loadFits (s : State) (n : SlotId) (units : Nat) : Bool := s.tallyWith n units ≤ s.rate.budget

end Sys2Proof.Machine
end

