-- ==== Sys2Proof/Machine/Flags.lean ====
section
/-! DEFINITION. Ports and the slot tables as the operations update them, event flags, credits and attention lines (chapter 9). -/

namespace Sys2Proof.Machine

/-! ### One home, one update for each table -/

/-- The record of a port. -/
def State.port (s : State) : Port → PortState
  | .a => s.portA
  | .b => s.portB

/-- Replaces the record of a port. -/
def State.setPort (s : State) (p : Port) (v : PortState) : State :=
  match p with
  | .a => { s with portA := v }
  | .b => { s with portB := v }

/-- Replaces a slot record. -/
def State.setSlot (s : State) (n : SlotId) (v : Slot) : State := { s with slots := s.slots.set n v }

/-- Replaces a hold entry. -/
def State.setHold (s : State) (n : SlotId) (v : Hold) : State := { s with holds := s.holds.set n v }

/-- Replaces a slot's place in the Morph Table. -/
def State.setMorph (s : State) (n : SlotId) (v : Option Morph) : State := { s with morphs := s.morphs.set n v }

/-- Replaces a slot's place in the Pending Entry Table. -/
def State.setEntry (s : State) (n : SlotId) (v : Option SceneEntry) : State := { s with entries := s.entries.set n v }

/-- Replaces a voice record. -/
def State.setVoice (s : State) (n : SlotId) (v : Voice) : State := { s with voices := s.voices.set n v }

/-- Replaces a scene record. -/
def State.setScene (s : State) (k : SceneId) (v : Scene) : State := { s with scenes := s.scenes.set k v }

/-! ### Event flags (9.7) -/

/-- The fourteen event flags (9.7). -/
inductive Flag where
  | slotReady
  | slotEmpty
  | recallDone
  | tempoChanged
  | tempoSource
  | tapFault
  | linkLost
  | poolShort
  | storeFault
  | holdLost
  | audioLost
  | clip
  | supplyLow
  | gcMissed
  deriving DecidableEq, Repr

/-- The flag's position in the event flag word (11.2). -/
def Flag.position : Flag → Nat
  | .slotReady => 0
  | .slotEmpty => 1
  | .recallDone => 2
  | .tempoChanged => 3
  | .tempoSource => 4
  | .tapFault => 5
  | .linkLost => 6
  | .poolShort => 7
  | .storeFault => 8
  | .holdLost => 9
  | .audioLost => 10
  | .clip => 11
  | .supplyLow => 12
  | .gcMissed => 13

/-- The flag alone, as a set of flags. -/
def Flag.bit (f : Flag) : BitVec 14 := 1#14 <<< f.position

/-- Sets a flag in a port; a flag already set stays set (R172). -/
def PortState.raise (f : Flag) (v : PortState) : PortState := { v with flags := v.flags ||| f.bit }

/-- Whether a flag stands in a port. -/
def PortState.hasFlag (f : Flag) (v : PortState) : Bool := v.flags &&& f.bit != 0

/-- Raises a flag in one port. -/
def State.raise (s : State) (p : Port) (f : Flag) : State := s.setPort p ((s.port p).raise f)

/-- Raises a flag in both ports. -/
def State.raiseBoth (s : State) (f : Flag) : State := { s with portA := s.portA.raise f, portB := s.portB.raise f }

/-- The event flag word (11.2): the flags, 0 at position 14, and the audio clock state at position 15. -/
def State.flagWord (s : State) (p : Port) : BitVec 16 :=
  (s.port p).flags.setWidth 16 ||| (if s.audio.clock = .present then 0x8000 else 0)

/-! ### Credits (R167) and attention (R174) -/

/-- R167: 1 while a write transaction holds its reserved credit. -/
def PortState.reserved (v : PortState) : Nat :=
  match v.link with
  | .addressed => 1
  | .receiving => 1
  | _ => 0

/-- R167: reserved credits, queued commands and waiting results together. -/
def PortState.creditsInUse (v : PortState) : Nat := v.reserved + v.commands.length + v.results.length

/-- R167: the free credits of eight. -/
def PortState.creditsFree (v : PortState) : Nat := 8 - v.creditsInUse

/-- R174: the attention line is low while a result waits or a flag of the mask stands. -/
def PortState.attentionLow (v : PortState) : Bool := !v.results.isEmpty || v.flags &&& v.mask != 0

/-- Places a result at the tail of a port's result queue (R145, R166). -/
def State.placeResult (s : State) (p : Port) (r : Result) : State :=
  s.setPort p { s.port p with results := (s.port p).results ++ [r] }

/-! ### Sets of slots -/

/-- The set that holds slot `n` alone. -/
def slotBit (n : SlotId) : SlotSet := 1#16 <<< n.val

/-- Whether slot `n` is in the set. -/
def slotIn (w : SlotSet) (n : SlotId) : Bool := w.getLsbD n.val

/-- The slots of a set in increasing order. -/
def slotsOf (w : SlotSet) : List SlotId := allSlots.filter (slotIn w)

/-- The set of the slots that satisfy a test. -/
def slotSet (f : SlotId → Bool) : SlotSet := allSlots.foldl (fun w n => if f n then w ||| slotBit n else w) 0

end Sys2Proof.Machine
end

