-- ==== Sys2Proof/Machine/Operands.lean ====
section
/-! DEFINITION. The encodings of message and record fields (chapter 11): what a body byte stands for, and the bytes that stand
for a value. -/

namespace Sys2Proof.Machine

/-! ### Whole fields (R182) -/

/-- A two-byte field, most significant byte first. -/
def word16 (hi lo : Byte) : Nat := hi.toNat * 256 + lo.toNat

/-- A two-byte field as a bit pattern. -/
def bits16 (hi lo : Byte) : BitVec 16 := hi ++ lo

/-- A one-byte unsigned field. -/
def byte1 (n : Nat) : List Byte := [BitVec.ofNat 8 n]

/-- A two-byte unsigned field, most significant byte first. -/
def byte2 (n : Nat) : List Byte := [BitVec.ofNat 8 (n / 256), BitVec.ofNat 8 n]

/-- A two-byte mask. -/
def maskBytes (w : BitVec 16) : List Byte := [w.extractLsb' 8 8, w.extractLsb' 0 8]

/-- A parameter value as it is sent: 16-bit two's complement (R182). -/
def paramBytes (v : Int) : List Byte := maskBytes (BitVec.ofInt 16 v)

/-- A bank as it is sent, indices 0 to 11. -/
def bankBytes (b : Bank) : List Byte := b.toList.flatMap paramBytes

/-- A yes/no field (R182). -/
def boolByte (b : Bool) : Byte := if b then 1 else 0

/-- A parameter value as it is read: 16-bit two's complement. -/
def paramValue (hi lo : Byte) : Int := (bits16 hi lo).toInt

/-! ### Fields of command bodies (R183): `none` is out of range -/

/-- A slot number, 0 to 15. -/
def slotField (b : Byte) : Option SlotId := if h : b.toNat < 16 then some ⟨b.toNat, h⟩ else none

/-- A scene number, 0 to 31. -/
def sceneField (b : Byte) : Option SceneId := if h : b.toNat < 32 then some ⟨b.toNat, h⟩ else none

/-- An LFO index, 0 to 3. -/
def lfoField (b : Byte) : Option LfoId := if h : b.toNat < 4 then some ⟨b.toNat, h⟩ else none

/-- A parameter index, 0 to 11. -/
def paramField (b : Byte) : Option ParamIx := if h : b.toNat < 12 then some ⟨b.toNat, h⟩ else none

/-- A return pair, 0 to 7. -/
def pairField (b : Byte) : Option PairId := if h : b.toNat < 8 then some ⟨b.toNat, h⟩ else none

/-- A boolean byte: 0 or 1. -/
def boolField (b : Byte) : Option Bool :=
  match b.toNat with
  | 0 => some false
  | 1 => some true
  | _ => none

/-- An algorithm code; the code for none is out of range (R183). -/
def algField (b : Byte) : Option Alg :=
  match b.toNat with
  | 1 => some .plate
  | 2 => some .hall
  | 3 => some .tape
  | 4 => some .pingpong
  | 5 => some .chorus
  | 6 => some .flanger
  | _ => none

/-- A source mode (11.5). -/
def modeField (b : Byte) : Option SourceMode :=
  match b.toNat with
  | 0 => some .auto
  | 1 => some .control
  | 2 => some .tap
  | 3 => some .link
  | _ => none

/-- An LFO shape (11.5). -/
def shapeField (b : Byte) : Option Shape :=
  match b.toNat with
  | 0 => some .sine
  | 1 => some .triangle
  | 2 => some .rampUp
  | 3 => some .rampDown
  | 4 => some .stepRandom
  | 5 => some .smoothRandom
  | _ => none

/-- A random mode (11.5). -/
def randomField (b : Byte) : Option RandomMode :=
  match b.toNat with
  | 0 => some .seeded
  | 1 => some .live
  | _ => none

/-- A value within `lo` to `hi`. -/
def within (lo hi n : Nat) : Option Nat := if lo ≤ n ∧ n ≤ hi then some n else none

/-- A tempo, 3000 to 30000. -/
def tempoField (hi lo : Byte) : Option Nat := within 3000 30000 (word16 hi lo)

/-- The tempo of WRITE SCENE ENTRY: 0 is the absent mark (R183). -/
def sceneTempoField (hi lo : Byte) : Option (Option Nat) :=
  if word16 hi lo = 0 then some none else (tempoField hi lo).map some

/-- A morph time or default morph time, 0 to 8000. -/
def morphField (hi lo : Byte) : Option Nat := within 0 8000 (word16 hi lo)

/-- The morph time of RECALL: 0xFFFF is the scene-default mark, here `none` inside (R183). -/
def recallMorphField (hi lo : Byte) : Option (Option Nat) :=
  if word16 hi lo = 0xFFFF then some none else (morphField hi lo).map some

/-! ### PARAMS (R147, R149) -/

/-- The index and value pairs of a PARAMS body after its slot byte, as they stand; `none` when a part pair is left over. -/
def pairsOf : List Byte → Option (List (Byte × Int))
  | [] => some []
  | ix :: hi :: lo :: rest => (pairsOf rest).map ((ix, paramValue hi lo) :: ·)
  | _ => none

/-- R147: a PARAMS body of a slot byte and 1 to 8 whole pairs. -/
def paramsBody : List Byte → Option (Byte × List (Byte × Int))
  | [] => none
  | slot :: rest =>
    match pairsOf rest with
    | some prs => if 1 ≤ prs.length ∧ prs.length ≤ 8 then some (slot, prs) else none
    | none => none

/-- R149: every index of the pairs lies within 0 to 11. -/
def indexedPairs : List (Byte × Int) → Option (List (ParamIx × Int))
  | [] => some []
  | (ix, v) :: rest =>
    match paramField ix, indexedPairs rest with
    | some i, some tail => some ((i, v) :: tail)
    | _, _ => none

/-! ### Scene entries (11.3, R107, R185) -/

/-- The twelve values of 24 bytes, two each. -/
def bankField (bytes : List Byte) : Bank :=
  allParams.foldl
    (fun (acc : Bank) (ix : ParamIx) => acc.set ix (paramValue (bytes.getD (2 * ix.val) 0) (bytes.getD (2 * ix.val + 1) 0))) zeroBank

/-- R107: every listed position is within its range and every other position is 0. -/
def Alg.bankOk (a : Alg) (b : Bank) : Bool :=
  allParams.all fun ix => if a.lists ix then a.admits ix b[ix] else b[ix] == 0

/-- A scene entry of 29 bytes, or `none` where it breaks R107. -/
def entryField : List Byte → Option SceneEntry
  | slot :: alg :: sends :: pair :: mute :: rest =>
    match slotField slot, algField alg, pairField pair, boolField mute with
    | some n, some a, some r, some m =>
      if a.bankOk (bankField rest) then
        some { slot := n, algorithm := a, sendSet := sends, returnPair := r, mute := m, params := bankField rest }
      else none
    | _, _, _, _ => none
  | _ => none

/-! ### Codes of the records (11.3, 11.5) -/

/-- Slot state codes (11.5). -/
def SlotState.code : SlotState → Byte
  | .empty => 0
  | .preparing => 1
  | .running => 2
  | .muted => 3
  | .fading => 4

/-- Algorithm codes (11.5). -/
def Alg.code : Alg → Byte
  | .plate => 1
  | .hall => 2
  | .tape => 3
  | .pingpong => 4
  | .chorus => 5
  | .flanger => 6

/-- Growth codes (11.5). -/
def Growth.code : Growth → Byte
  | .steady => 0
  | .extending => 1
  | .relocating => 2

/-- Scene state codes (11.5). -/
def SceneState.code : SceneState → Byte
  | .empty => 0
  | .valid => 1
  | .corrupt => 2

/-- Recall state codes (11.5). -/
def RecallState.code : RecallState → Byte
  | .idle => 0
  | .running => 1
  | .done => 2
  | .aborted => 3

/-- Origin codes (11.5). -/
def Origin.code : Origin → Byte
  | .absent => 0
  | .a => 1
  | .b => 2
  | .callA => 3
  | .callB => 4

/-- The tempo mark of a recall's result (R116). -/
inductive TempoMark where
  | none
  | taken
  | ignored
  deriving DecidableEq, Repr

/-- Tempo mark codes (11.5). -/
def TempoMark.code : TempoMark → Byte
  | .none => 0
  | .taken => 1
  | .ignored => 2

/-- Source mode codes (11.5). -/
def SourceMode.code : SourceMode → Byte
  | .auto => 0
  | .control => 1
  | .tap => 2
  | .link => 3

/-- Current source codes (11.5). -/
def Source.code : Source → Byte
  | .control => 1
  | .tap => 2
  | .link => 3

/-- Pulse state codes (11.5). -/
def PulseState.code : PulseState → Byte
  | .open => 0
  | .timing => 1
  | .held => 2
  | .stopped => 3

/-- Link state codes (11.5). -/
def LinkState.code : LinkState → Byte
  | .silent => 0
  | .seeking => 1
  | .locked => 2
  | .lost => 3

/-- Status values (11.5). -/
def Status.code : Status → Byte
  | .done => 0x00
  | .accepted => 0x01
  | .unknown => 0x10
  | .badLen => 0x11
  | .quiet => 0x12
  | .range => 0x13
  | .held => 0x14
  | .state => 0x15
  | .load => 0x16
  | .noRoom => 0x17
  | .noEntry => 0x18
  | .empty => 0x19
  | .corrupt => 0x1A
  | .badFrame => 0x20
  | .tooLong => 0x21
  | .badCrc => 0x22
  | .notGeneral => 0x23
  | .aborted => 0x24
  | .none => 0x2F

/-- A scene entry as its 29 bytes stand (11.3). -/
def SceneEntry.bytes (e : SceneEntry) : List Byte :=
  byte1 e.slot.val ++ [e.algorithm.code, e.sendSet] ++ byte1 e.returnPair.val ++ [boolByte e.mute] ++ bankBytes e.params

/-! ### Cyclic redundancy checks -/

/-- One shift of the CRC-8 register with polynomial x^8 + x^5 + x^4 + 1 (R87, R166). -/
def crc8Shift (c : BitVec 8) : BitVec 8 := if c.msb then (c <<< 1) ^^^ 0x31 else c <<< 1

/-- The CRC-8 register after a byte, most significant bit first. -/
def crc8Byte (c : BitVec 8) (b : Byte) : BitVec 8 := Nat.repeat crc8Shift 8 (c ^^^ b)

/-- CRC-8 of a list of bytes, initial value 0 (R87, R166). -/
def crc8 (bytes : List Byte) : Byte := bytes.foldl crc8Byte 0

/-- One shift of a CRC-16 register with polynomial x^16 + x^12 + x^5 + 1 (R103, R108). -/
def crc16Shift (c : BitVec 16) : BitVec 16 := if c.msb then (c <<< 1) ^^^ 0x1021 else c <<< 1

/-- The CRC-16 register after a byte, most significant bit first: the byte enters the upper 8 bits (R103, R108). -/
def crc16Byte (c : BitVec 16) (b : Byte) : BitVec 16 := Nat.repeat crc16Shift 8 (c ^^^ (b.setWidth 16 <<< 8))

/-- CRC-16 of a list of bytes, initial value 0xFFFF (R108). -/
def crc16 (bytes : List Byte) : BitVec 16 := bytes.foldl crc16Byte 0xFFFF

/-- A result record as it is sent: tag, code, status, body length, body, CRC-8 (11.2). -/
def Result.bytes (r : Result) : List Byte :=
  [r.tag, r.code, r.status.code] ++ byte1 r.body.length ++ r.body
    ++ [crc8 ([r.tag, r.code, r.status.code] ++ byte1 r.body.length ++ r.body)]

end Sys2Proof.Machine
end

