-- ==== Sys2Proof/Machine/Pool.lean ====
section
/-! DEFINITION. The Delay Memory Manager and the Clear Engine (chapter 2): pages, free runs, placement, giving back, clear jobs. -/

namespace Sys2Proof.Machine

/-! ### The contents of the pages (R29, log 12) -/

/-- The canonical form: pages strictly rising. -/
def Memory.wf : Memory → Bool
  | [] => true
  | [_] => true
  | a :: b :: rest => a.1 < b.1 && Memory.wf (b :: rest)

/-- Zeroes `count` pages from `first`. -/
def Memory.zeroPages (m : Memory) (first count : Nat) : Memory :=
  m.filter fun c => c.1 < first || first + count ≤ c.1

/-- The Voice Engine writes `count` pages from `first`, in the block that drew `stamp`. -/
def Memory.writePages (m : Memory) (first count stamp : Nat) : Memory :=
  m.filter (fun c => c.1 < first) ++ (List.range' first count).map (fun page => (page, stamp))
    ++ m.filter (fun c => first + count ≤ c.1)

/-- The stamp of a page, `none` for a page that is all zero. -/
def Memory.stamp (m : Memory) (page : Nat) : Option Nat := (m.find? fun c => c.1 == page).map (·.2)

/-- The sample word at a position of a page. -/
def Memory.readWord (m : Memory) (page word : Nat) : BitVec 32 :=
  match m.stamp page with
  | none => 0
  | some stamp => Config.poolWord stamp page word

/-! ### The Free Run List (R31) -/

/-- R31: enters freed pages at their place and merges them with the runs that touch them. -/
def insertRun (r : Run) : List Run → List Run
  | [] => [r]
  | h :: t =>
    if r.first + r.count < h.first then r :: h :: t
    else if r.first + r.count = h.first then { first := r.first, count := r.count + h.count } :: t
    else if h.first + h.count = r.first then insertRun { first := h.first, count := h.count + r.count } t
    else h :: insertRun r t

/-- R31: takes the low end of a run, or the whole of it. -/
def takeFrom (r : Run) (size : Nat) (rest : List Run) : List Run :=
  if r.count = size then rest else { first := r.first + size, count := r.count - size } :: rest

/-- R34: the lowest run of at least `size` pages gives its low end: the first page taken, and the runs left. -/
def takeLowest (size : Nat) : List Run → Option (Nat × List Run)
  | [] => none
  | r :: rest =>
    if size ≤ r.count then some (r.first, takeFrom r size rest)
    else (takeLowest size rest).map fun t => (t.1, r :: t.2)

/-- R45: the run that begins at `page` gives `size` pages, if it has them. -/
def takeAt (page size : Nat) : List Run → Option (List Run)
  | [] => none
  | r :: rest =>
    if r.first = page then (if size ≤ r.count then some (takeFrom r size rest) else none)
    else (takeAt page size rest).map (r :: ·)

/-- R53: free pages. -/
def Pool.freePages (p : Pool) : Nat := (p.runs.map (·.count)).sum

/-- R53: the largest free run, 0 when there is none. -/
def Pool.largestRun (p : Pool) : Nat := p.runs.foldl (fun m r => max m r.count) 0

/-- The entries in increasing order. -/
@[irreducible] def allEntries : List EntryId := List.finRange 64

/-- R53: free entries. -/
def Pool.freeEntries (p : Pool) : Nat := (allEntries.filter fun e => p.entries[e].isNone).length

/-- Frees pages, merging them with their neighbours (R31). -/
def Pool.free (p : Pool) (first count : Nat) : Pool :=
  if count = 0 then p else { p with runs := insertRun { first := first, count := count } p.runs }

/-- Replaces a Region Table entry. -/
def Pool.setEntry (p : Pool) (e : EntryId) (r : Option Region) : Pool := { p with entries := p.entries.set e r }

/-- R30: the pages of a region with its pending extension. -/
def Region.size (r : Region) : Nat := r.count + r.ext.getD 0

/-- The state of an entry, `none` for FREE-ENTRY. -/
def Pool.stateOf (p : Pool) (e : EntryId) : Option RegionState := p.entries[e].map (·.state)

/-- The page count of an entry, 0 for FREE-ENTRY. -/
def Pool.countOf (p : Pool) (e : EntryId) : Nat := p.entries[e].elim 0 (·.count)

/-- The page count and pending extension of an entry together. -/
def Pool.sizeOf (p : Pool) (e : EntryId) : Nat := p.entries[e].elim 0 Region.size

/-! ### Clear jobs (2.6) -/

/-- Whether the job of an entry is in progress and not cancelled. -/
def Pool.inProgress (p : Pool) (kind : JobKind) (e : EntryId) : Bool :=
  p.progress.isSome && p.jobs.head? == some { kind := kind, entry := e, cancelled := false }

/-- Appends a job to the Clear Queue (R38). -/
def Pool.addJob (p : Pool) (kind : JobKind) (e : EntryId) : Pool :=
  { p with jobs := p.jobs ++ [{ kind := kind, entry := e, cancelled := false }] }

/-- R41: removes a queued job. -/
def Pool.removeJob (p : Pool) (kind : JobKind) (e : EntryId) : Pool :=
  { p with jobs := p.jobs.filter (· != { kind := kind, entry := e, cancelled := false }) }

/-- R42: the job in progress is cancelled and ends with its page. -/
def Pool.cancelHead (p : Pool) : Pool :=
  match p.jobs with
  | [] => p
  | j :: rest => { p with jobs := { j with cancelled := true } :: rest }

/-- The pages a job covers: the first of them, and their number (R38). -/
def Pool.jobPages (p : Pool) (j : Job) : Nat × Nat :=
  match p.entries[j.entry], j.kind with
  | some r, .region => (r.first, r.count)
  | some r, .extension => (r.first + r.count, r.ext.getD 0)
  | none, _ => (0, 0)

/-- R39: an idle engine starts the oldest job. -/
def Pool.startJob (p : Pool) : Pool :=
  match p.progress, p.jobs with
  | none, j :: _ => { p with progress := some { first := (p.jobPages j).1, pages := (p.jobPages j).2, zeroed := 0 } }
  | _, _ => p

/-- R53: the pages still to be zeroed: the whole of each job not started, and what is left of the job in progress unless its entry is
ABANDONED (log 23). -/
def Pool.queuedPages (p : Pool) : Nat :=
  match p.progress, p.jobs with
  | some pr, j :: rest =>
    (if p.stateOf j.entry = some .abandoned then 0 else pr.pages - pr.zeroed) + (rest.map fun k => (p.jobPages k).2).sum
  | _, jobs => (jobs.map fun k => (p.jobPages k).2).sum

/-- One page of the job in progress, not its last, is zeroed (R39; log 3). The last page is a row of its own. -/
def Pool.pageTick (p : Pool) : Pool :=
  match p.progress, p.jobs with
  | some pr, j :: _ =>
    if !j.cancelled && pr.zeroed + 1 < pr.pages then
      { p with progress := some { pr with zeroed := pr.zeroed + 1 },
               written := p.written.zeroPages (pr.first + pr.zeroed) 1 }
    else p
  | _, _ => p

/-! ### Placement (2.4) -/

/-- Why a region cannot be placed (R34). -/
inductive PlaceFail where
  | noRoom
  | noEntry
  deriving DecidableEq, Repr

/-- The status of a failed allocation. -/
def PlaceFail.status : PlaceFail → Status
  | .noRoom => .noRoom
  | .noEntry => .noEntry

/-- R34: places one region of `size` pages for a line, ZEROING, first fit and lowest entry. No job is queued here. -/
def Pool.place (p : Pool) (size : Nat) (n : SlotId) (l : LineId) : Except PlaceFail (Pool × EntryId) :=
  match takeLowest size p.runs with
  | none => .error .noRoom
  | some (first, runs) =>
    match allEntries.find? fun e => p.entries[e].isNone with
    | none => .error .noEntry
    | some e =>
      .ok ({ p with runs := runs }.setEntry e
            (some { state := .zeroing, first := first, count := size, ext := none, owner := some (n, l) }), e)

/-- R35: places the lines of a request one after the other. -/
def Pool.placeAll (n : SlotId) : List (LineId × Nat) → Pool → Except PlaceFail (Pool × List EntryId)
  | [], p => .ok (p, [])
  | (l, size) :: rest, p =>
    match p.place size n l with
    | .error f => .error f
    | .ok (p1, e) =>
      match Pool.placeAll n rest p1 with
      | .error f => .error f
      | .ok (p2, es) => .ok (p2, e :: es)

/-- R35: a request for a slot's lines, whole or not at all; on success one region job per region joins the queue in line order. -/
def Pool.allocate (p : Pool) (n : SlotId) (sizes : List Nat) : Except PlaceFail (Pool × List EntryId) :=
  match Pool.placeAll n (allLines.zip sizes) p with
  | .error f => .error f
  | .ok (p1, es) => .ok (es.foldl (fun q e => q.addJob .region e) p1, es)

/-- R45: growth in place to `target` pages: the extra pages just after a LIVE region become its pending extension. -/
def Pool.extend (p : Pool) (e : EntryId) (target : Nat) : Option Pool :=
  match p.entries[e] with
  | some r =>
    if r.state = .live ∧ r.ext = none ∧ r.count < target then
      match takeAt (r.first + r.count) (target - r.count) p.runs with
      | some runs =>
        some (({ p with runs := runs }.setEntry e (some { r with ext := some (target - r.count) })).addJob .extension e)
      | none => none
    else none
  | none => none

/-- R46: the old region of a relocation. -/
def Pool.retire (p : Pool) (e : EntryId) : Pool :=
  match p.entries[e] with
  | some r => p.setEntry e (some { r with state := .retiring })
  | none => p

/-! ### Giving back (2.5) -/

/-- R36: returns a region's pages, with any pending extension, to the Free Run List as one run. -/
def Pool.release (p : Pool) (e : EntryId) (r : Region) : Pool := (p.setEntry e none).free r.first r.size

/-- R37: the manager deals with a region given back by its state and jobs. A report of it still in flight no longer concerns any
line (R43, log 16). -/
def Pool.giveBack (p : Pool) (e : EntryId) : Pool :=
  match p.entries[e] with
  | none => p
  | some r =>
    match r.state with
    | .abandoned => p
    | .zeroing =>
      if p.inProgress .region e then
        { p.cancelHead with liveReports := p.liveReports.filter (· != e) }.setEntry e
          (some { r with state := .abandoned, owner := none })
      else ({ p.removeJob .region e with liveReports := p.liveReports.filter (· != e) }).release e r
    | .live =>
      match r.ext with
      | none => ({ p with liveReports := p.liveReports.filter (· != e) }).release e r
      | some x =>
        if p.inProgress .extension e then
          ({ p.cancelHead with liveReports := p.liveReports.filter (· != e) }.setEntry e
            (some { state := .abandoned, first := r.first + r.count, count := x, ext := none, owner := none })).free
            r.first r.count
        else ({ p.removeJob .extension e with liveReports := p.liveReports.filter (· != e) }).release e r
    | .retiring => ({ p with liveReports := p.liveReports.filter (· != e) }).release e r

/-! ### Ends of jobs (2.6) -/

/-- R39: the last page of a region job ends: the entry becomes LIVE and its report goes to the Slot Controller; the engine starts
the next job. -/
def Pool.regionJobDone (p : Pool) : Pool :=
  match p.progress, p.jobs with
  | some pr, { kind := .region, entry := e, cancelled := false } :: rest =>
    match p.entries[e] with
    | some r =>
      if r.state = .zeroing then
        Pool.startJob
          { p.setEntry e (some { r with state := .live }) with
            jobs := rest, progress := none, written := p.written.zeroPages pr.first pr.pages,
            liveReports := p.liveReports ++ [e] }
      else p
    | none => p
  | _, _ => p

/-- R40: an extension job completes: its pages join the page count. Answers the owner of the line as well. -/
def Pool.extensionDone (p : Pool) : Option (Pool × Option (SlotId × LineId)) :=
  match p.progress, p.jobs with
  | some pr, { kind := .extension, entry := e, cancelled := false } :: rest =>
    match p.entries[e] with
    | some r =>
      if r.state = .live then
        some (Pool.startJob
          { p.setEntry e (some { r with count := r.size, ext := none }) with
            jobs := rest, progress := none, written := p.written.zeroPages pr.first pr.pages }, r.owner)
      else none
    | none => none
  | _, _ => none

/-- R42: the page in progress of a cancelled job ends: the pages of an ABANDONED entry are freed, the job leaves the queue and the
engine starts the next. The job of an extension that WAKE merged ends the same way and frees nothing (R54, log 23). -/
def Pool.cancelledPageEnd (p : Pool) : Pool :=
  match p.progress, p.jobs with
  | some pr, { kind := _, entry := e, cancelled := true } :: rest =>
    let q := { p with jobs := rest, progress := none, written := p.written.zeroPages (pr.first + pr.zeroed) 1 }
    match p.entries[e] with
    | some r => if r.state = .abandoned then (q.release e r).startJob else q.startJob
    | none => q.startJob
  | _, _ => p

/-- R54: a LIVE region is to be zeroed again: its pending extension joins the page count, its extension job is dropped, and a region
job for the whole joins the queue. -/
def Pool.rezero (p : Pool) (e : EntryId) : Pool :=
  match p.entries[e] with
  | some r =>
    if r.state = .live then
      let q := if p.inProgress .extension e then p.cancelHead else p.removeJob .extension e
      ({ q with liveReports := q.liveReports.filter (· != e) }.setEntry e
        (some { r with state := .zeroing, count := r.size, ext := none })).addJob .region e
    else p
  | none => p

/-- The Voice Engine writes the pages of a region it reads and writes: LIVE or RETIRING, within the page count (R30, R39). -/
def Pool.writeRegion (p : Pool) (e : EntryId) (stamp : Nat) : Pool :=
  match p.entries[e] with
  | some r =>
    if r.state = .live ∨ r.state = .retiring then { p with written := p.written.writePages r.first r.count stamp } else p
  | none => p

end Sys2Proof.Machine
end

