-- ==== Sys2Proof/Machine/Slots.lean ====
section
/-! DEFINITION. The Slot Controller's shared operations on a slot: its claim on delay memory, growth, fades requested, entry to
EMPTY, fade ends, and its place in the Recall Record and the Morph Table (chapters 1, 2, 3 and 6). -/

namespace Sys2Proof.Machine

/-! ### The Recall Record's waiting set (R122, R123) -/

/-- R122: the record becomes DONE when nothing waits. -/
def State.recallDone (s : State) : State :=
  { s with recallRecord := { s.recallRecord with state := .done } }.raiseBoth .recallDone

/-- R123: slot `n` leaves the waiting set of a RUNNING record; the last one to leave makes it DONE. -/
def State.leaveWaiting (s : State) (n : SlotId) : State :=
  if s.recallRecord.state = .running ∧ slotIn s.recallRecord.waiting n then
    let w := s.recallRecord.waiting &&& ~~~slotBit n
    let t := { s with recallRecord := { s.recallRecord with waiting := w } }
    if w = 0 then t.recallDone else t
  else s

/-- R123: a pool failure moves a waiting slot from applied to failed. -/
def State.recallFailed (s : State) (n : SlotId) : State :=
  if s.recallRecord.state = .running ∧ slotIn s.recallRecord.waiting n then
    { s with recallRecord := { s.recallRecord with
        applied := s.recallRecord.applied - 1, failed := s.recallRecord.failed + 1 } }.leaveWaiting n
  else s

/-- R123, R126: removes the slot's morph entry if there is one. -/
def State.removeMorph (s : State) (n : SlotId) : State :=
  match s.morphs[n] with
  | none => s
  | some _ => (s.setMorph n none).leaveWaiting n

/-- R126: takes indices out of the slot's morphing set; an entry left with none is removed. -/
def State.endMorphing (s : State) (n : SlotId) (ixs : List ParamIx) : State :=
  match s.morphs[n] with
  | none => s
  | some m =>
    let set := ixs.foldl (fun (w : BitVec 12) (ix : ParamIx) => w &&& ~~~(1#12 <<< ix.val)) m.morphing
    if set = 0 then s.removeMorph n else s.setMorph n (some { m with morphing := set })

/-- R121, R123: a controller's ASSIGN or CLEAR removes the slot's pending entry. -/
def State.removeEntry (s : State) (n : SlotId) : State :=
  match s.entries[n] with
  | none => s
  | some _ => (s.setEntry n none).leaveWaiting n

/-! ### The Voice Engine's part (R60, R63) -/

/-- R60: the slot leaves RUNNING, MUTED and FADING, or a begin request is cancelled; its reports in flight no longer concern it
(log 16). -/
def State.endVoice (s : State) (n : SlotId) : State :=
  { s.setVoice n { s.voices[n] with
      begun := false, beginRequested := false, gain := 0, fade := none, inputOpen := false, crossfades := [], glides := [],
      modulation := none } with
    fadeReports := s.fadeReports.filter (· != n), crossfadeReports := s.crossfadeReports.filter (·.1 != n) }

/-- R17: whether the active bank's freeze is 1. -/
def Slot.frozen (sl : Slot) : Bool :=
  match sl.algorithm with
  | some a => a.hasFreeze && sl.active[freezeIx] == 1
  | none => false

/-- R17: the feedback of the slot's lines. -/
def Slot.feedback (sl : Slot) : Feedback :=
  if sl.frozen then .unity else .parameter (sl.algorithm.elim 0 fun a => sl.active[a.feedbackIx])

/-- R61: whether the send set reaches the algorithm. -/
def Slot.inputWanted (sl : Slot) : Bool := sl.state == .running && !sl.frozen

/-- The input of a begun slot follows its state and freeze (R8, R9, R61). -/
def State.followInput (s : State) (n : SlotId) : State :=
  s.setVoice n { s.voices[n] with inputOpen := s.voices[n].begun && s.slots[n].inputWanted }

/-- R63: a request replaces the fade in progress and starts from the present gain. A slot that is not begun is not faded. -/
def State.requestFade (s : State) (n : SlotId) (target : Rat) (length : Nat) : State :=
  if s.voices[n].begun then
    s.setVoice n { s.voices[n] with
      fade := some { start := s.voices[n].gain, target := target, length := length, left := length } }
  else s

/-! ### Lines and regions -/

/-- Replaces a line record of a slot. -/
def State.setLine (s : State) (n : SlotId) (l : LineId) (v : Line) : State :=
  s.setSlot n { s.slots[n] with lines := s.slots[n].lines.set l.val v }

/-- Replaces the pool. -/
def State.setPool (s : State) (p : Pool) : State := { s with pool := p }

/-- The regions a line refers to (R46). -/
def Line.regions (ln : Line) : List EntryId := ln.current :: ln.retiring.toList

/-- Gives every region of the slot's lines back (R37). -/
def State.giveBackLines (s : State) (lines : List Line) : State :=
  s.setPool ((lines.flatMap Line.regions).foldl Pool.giveBack s.pool)

/-- R2: the line records of freshly allocated regions. -/
def newLines (es : List EntryId) : List Line :=
  es.map fun e => { current := e, retiring := none, growth := .steady, deferred := none }

/-- R32, R44: a line's need, from the shadow bank. -/
def State.need (s : State) (n : SlotId) (l : LineId) : Nat :=
  match s.slots[n].algorithm with
  | some a => requiredPages s.rate a s.slots[n].shadow l
  | none => 0

/-- R50: the region a line is heard from: the retiring one while the current region of a relocation is being zeroed. -/
def Pool.heardFrom (p : Pool) (ln : Line) : EntryId :=
  match ln.growth, p.stateOf ln.current, ln.retiring with
  | .relocating, some .zeroing, some old => old
  | _, _, _ => ln.current

/-- R44: the pages a line has been promised. -/
def Pool.promise (p : Pool) (ln : Line) : Nat :=
  match ln.growth with
  | .extending => p.sizeOf ln.current
  | _ => p.countOf ln.current

/-- R50: whether a line of the slot is short. -/
def State.lineShort (s : State) (n : SlotId) (l : LineId) : Bool :=
  match s.slots[n].lines[l.val]? with
  | some ln => s.pool.countOf (s.pool.heardFrom ln) < s.need n l
  | none => false

/-- R50: sets or clears the slot's clamped flag. -/
def State.updateClamped (s : State) (n : SlotId) : State :=
  s.setSlot n { s.slots[n] with clamped := allLines.any (s.lineShort n) }

/-! ### Entry to EMPTY (R3) -/

/-- R3: the slot's regions go back, its record is cleared but for send set, return pair and clip, its morph and pending entry go,
the Voice Engine ends it, it leaves the waiting set, and SLOT_EMPTY is raised. -/
def State.emptySlot (s : State) (n : SlotId) : State :=
  let s1 := (s.giveBackLines s.slots[n].lines).endVoice n
  let s2 := s1.setSlot n { s1.slots[n] with
    state := .empty, algorithm := none, next := none, lines := [], clamped := false, muteWanted := false,
    swapPending := false, active := zeroBank, shadow := zeroBank }
  (((s2.setMorph n none).setEntry n none).leaveWaiting n).raiseBoth .slotEmpty

/-! ### Growth (2.7) -/

/-- R45, R46, R51: a growth of a line with growth NONE: in place, or by relocation, or failed. -/
def State.startGrowth (s : State) (n : SlotId) (l : LineId) (need : Nat) : State :=
  match s.slots[n].lines[l.val]?, s.slots[n].algorithm with
  | some ln, some a =>
    match s.pool.extend ln.current (allocationSize a need) with
    | some p => (s.setPool p).setLine n l { ln with growth := .extending, deferred := none }
    | none =>
      match s.pool.place (allocationSize a need) n l with
      | .ok (p, e) =>
        (s.setPool ((p.retire ln.current).addJob .region e)).setLine n l
          { current := e, retiring := some ln.current, growth := .relocating, deferred := none }
      | .error _ => (s.raiseBoth .poolShort).setLine n l { ln with growth := .steady, deferred := none }
  | _, _ => s

/-- R52: replaces the region of a line of a PREPARING slot; a failure empties the slot with POOL_SHORT. -/
def State.replaceRegion (s : State) (n : SlotId) (l : LineId) (need : Nat) : State :=
  match s.slots[n].lines[l.val]?, s.slots[n].algorithm with
  | some ln, some a =>
    match (s.pool.giveBack ln.current).place (allocationSize a need) n l with
    | .ok (p, e) =>
      (s.setPool (p.addJob .region e)).setLine n l { current := e, retiring := none, growth := .steady, deferred := none }
    | .error _ =>
      (((s.setPool (s.pool.giveBack ln.current)).raiseBoth .poolShort).recallFailed n).emptySlot n
  | _, _ => s

/-- R44: the outcome of a need above the promise. -/
def State.needAbove (s : State) (n : SlotId) (l : LineId) (ln : Line) (need : Nat) : State :=
  if ln.growth = .steady then
    (if s.slots[n].state = .preparing then s.replaceRegion n l need else s.startGrowth n l need)
  else if ln.deferred.elim true (· < need) then s.setLine n l { ln with deferred := some need }
  else s

/-- R44: evaluates the need of one line of a RUNNING, MUTED or PREPARING slot, and the clamped flag with it. -/
def State.evalNeed (s : State) (n : SlotId) (l : LineId) : State :=
  if s.slots[n].state = .running ∨ s.slots[n].state = .muted ∨ s.slots[n].state = .preparing then
    match s.slots[n].lines[l.val]? with
    | some ln =>
      if s.pool.promise ln < s.need n l then (s.needAbove n l ln (s.need n l)).updateClamped n else s.updateClamped n
    | none => s
  else s

/-- R44: evaluates the lines whose required pages one of the written indices enters (log 27), in line order: the manual gives no
order among them (DESIGN CHOICE, log 40). -/
def State.evalWritten (s : State) (n : SlotId) (ixs : List ParamIx) : State :=
  match s.slots[n].algorithm with
  | some a => (allLines.filter fun l => ixs.any (a.entersNeed l)).foldl (fun t l => t.evalNeed n l) s
  | none => s

/-- R49: a line's growth ends, and its deferred requirement is acted on. -/
def State.growthEnd (s : State) (n : SlotId) (l : LineId) : State :=
  match s.slots[n].lines[l.val]? with
  | some ln =>
    let t := s.setLine n l { ln with growth := .steady, deferred := none }
    match ln.deferred with
    | some d =>
      if s.slots[n].state ≠ .fading ∧ t.pool.countOf ln.current < d then (t.startGrowth n l d).updateClamped n
      else t.updateClamped n
    | none => t.updateClamped n
  | none => s

/-! ### Writing the shadow bank -/

/-- Writes a bank into the shadow bank and sets swap pending. -/
def State.writeShadow (s : State) (n : SlotId) (b : Bank) : State :=
  s.setSlot n { s.slots[n] with shadow := b, swapPending := true }

/-! ### Preparing a slot (R4, R7, R12, R119, R121) -/

/-- The slot becomes PREPARING with algorithm `a` on freshly allocated regions: both banks take the defaults, then the shadow bank
takes `shadow` (R15). -/
def State.prepare (s : State) (n : SlotId) (a : Alg) (shadow : Bank) (es : List EntryId) : State :=
  (s.endVoice n).setSlot n { s.slots[n] with
    state := .preparing, algorithm := some a, next := none, active := a.defaults, shadow := shadow, swapPending := true,
    lines := newLines es, clamped := false }

/-- The routing and mute wanted that a scene entry carries (R119, R121). -/
def State.takeRouting (s : State) (n : SlotId) (e : SceneEntry) : State :=
  s.setSlot n { s.slots[n] with sendSet := e.sendSet, returnPair := e.returnPair, muteWanted := e.mute }

/-- The values a scene entry writes: its parameters, with the derived time when its division is not FREE (R27, R107). -/
def State.entryBank (s : State) (e : SceneEntry) : Bank :=
  e.algorithm.withDerived s.tempo.applied (e.algorithm.listedOnly e.params)

/-! ### Fades to FADING, and fade ends (R9, R12, R121) -/

/-- R9: the slot becomes FADING towards `next`, its morph entry is removed, and its end fade is requested. -/
def State.beginFading (s : State) (n : SlotId) (next : Option Alg) : State :=
  ((((s.setSlot n { s.slots[n] with state := .fading, next := next }).removeMorph n).requestFade n 0 16).followInput n)

/-- R12, R121: what the fade end allocates: the shadow bank of the next algorithm, from the pending entry or the defaults. -/
def State.nextBank (s : State) (n : SlotId) (a : Alg) : Bank :=
  match s.entries[n] with
  | some e => s.entryBank e
  | none => a.defaults

/-- R121: the pending entry's routing is taken and the entry is removed. -/
def State.takePending (s : State) (n : SlotId) : State :=
  match s.entries[n] with
  | some e => (s.takeRouting n e).setEntry n none
  | none => s

/-- R12: the fade end of a FADING slot, reported or forced. -/
def State.fadeEnded (s : State) (n : SlotId) : State :=
  let t := (s.giveBackLines s.slots[n].lines).endVoice n
  match s.slots[n].next with
  | none => t.emptySlot n
  | some a =>
    match t.pool.allocate n (allocationSizes s.rate a (s.nextBank n a)) with
    | .ok (p, es) => ((t.setPool p).prepare n a (s.nextBank n a) es).takePending n
    | .error _ => ((t.raiseBoth .poolShort).recallFailed n).emptySlot n

/-- R179: the fade end of every slot still FADING is forced, in increasing slot order. -/
def State.forceFadeEnds (s : State) : State :=
  allSlots.foldl (fun t n => if t.slots[n].state = .fading then t.fadeEnded n else t) s

/-- The Clear Engine takes up the jobs the decision queued (R39, R144, log 22). -/
def State.startClearing (s : State) : State := s.setPool s.pool.startJob

end Sys2Proof.Machine
end

