-- ==== Sys2Proof/Machine/Ops.lean ====
section
/-! DEFINITION. The operations every command shares: the arbiter, the taking of a command and the placing of its result (chapter 8),
holds (chapter 7), scene verification (R109), the entry to STARTING (R177), and the answer of a step. -/

namespace Sys2Proof.Machine

/-- What a command or a step answers. -/
abbrev Answer := Host.Outcome State Fault Refusal

/-! ### The arbiter (R143) -/

/-- R143: the port the arbiter chooses: the other one when both queues hold a command, the one that holds a command otherwise. -/
def State.arbiterPort (s : State) : Option Port :=
  match s.portA.commands, s.portB.commands with
  | [], [] => none
  | _ :: _, [] => some .a
  | [], _ :: _ => some .b
  | _ :: _, _ :: _ => some s.lastServed.other

/-- R143: the port and the oldest command of the queue the arbiter chooses. -/
def State.arbiterChoice (s : State) : Option (Port × Command) :=
  match s.arbiterPort with
  | none => none
  | some p => (s.port p).commands.head?.map fun c => (p, c)

/-- Whether a whole transaction that writes the command to the port would be acknowledged, framed and queued now: no transaction is
under way, a credit is free, and a general call is enabled and carries TAP or RECALL (R163, R166). -/
def State.wouldQueue (s : State) (p : Port) (c : Command) : Bool :=
  (s.port p).link == .idle && 0 < (s.port p).creditsFree && c.body.length ≤ 60
    && (!c.generalCall || ((s.port p).callEnable && generalCallCodes.contains c.code))

/-- R143: the command leaves the queue it stands at the head of, and its port becomes the last-served port. -/
def State.serve (s : State) (p : Port) : State :=
  { s.setPort p { s.port p with commands := (s.port p).commands.tail } with lastServed := p }

/-- The arbiter takes the command for decision: it is the arbiter's choice; or both queues are empty, and the command is written to
the port in a whole transaction of its own and taken at once (log 1). `none` when the arbiter does not take it, and in STARTING. -/
def State.takeCommand (s : State) (p : Port) (c : Command) : Option State :=
  if s.power = .starting then none
  else if s.arbiterChoice = some (p, c) then some (s.serve p)
  else if s.arbiterPort = none ∧ s.wouldQueue p c then some { s with lastServed := p }
  else none

/-- What a decision leaves: the state, the result's status and its body (R145). -/
structure Verdict where
  state : State
  status : Status
  body : List Byte
  deriving DecidableEq, Repr

/-- A refusal: nothing is changed and the body is empty (R145, R146). -/
def State.refuse (s : State) (st : Status) : Verdict := { state := s, status := st, body := [] }

/-- A command taken with DONE. -/
def State.answerDone (s : State) (body : List Byte := []) : Verdict := { state := s, status := .done, body := body }

/-- A command taken with ACCEPTED. -/
def State.answerAccepted (s : State) (body : List Byte := []) : Verdict := { state := s, status := .accepted, body := body }

/-- R145: the result of a decision, with the command's tag and code. -/
def Verdict.result (v : Verdict) (c : Command) : Result :=
  { tag := c.tag, code := c.code, status := v.status, body := v.body }

/-- R143, R145: the command is taken and decided, and its result is placed in the issuing port's result queue. A row whose command the
arbiter does not take changes nothing (log 1). -/
def runCommand (p : Port) (c : Command) (decision : State → Verdict) (s : State) : Answer :=
  match s.takeCommand p c with
  | none => .next s
  | some t => .next ((decision t).state.placeResult p ((decision t).result c))

/-- A command at the port's own address. -/
def ownCommand (tag code : Byte) (body : List Byte) : Command :=
  { tag := tag, code := code, generalCall := false, body := body }

/-! ### Holds (chapter 7) -/

/-- R136: whether the slot is held by the port other than `p`. -/
def State.heldByOther (s : State) (p : Port) (n : SlotId) : Bool := s.holds[n].holder == some p.other

/-- R135: the slots of a list that the other port holds. -/
def State.conflicts (s : State) (p : Port) (slots : List SlotId) : SlotSet :=
  slotSet fun n => slots.contains n && s.heldByOther p n

/-- R136: the refusal with HELD, whose body is the conflict list. -/
def State.refuseHeld (s : State) (p : Port) (slots : List SlotId) : Verdict :=
  { state := s, status := .held, body := maskBytes (s.conflicts p slots) }

/-- R137: a slot the port holds takes the port's lease length anew. -/
def State.renew (s : State) (p : Port) (n : SlotId) : State :=
  if s.holds[n].holder = some p then s.setHold n { holder := some p, count := (s.port p).lease } else s

/-- R135: the hold report. -/
def State.holdReport (s : State) (p : Port) : List Byte :=
  maskBytes (slotSet fun n => s.holds[n].holder == some p)
    ++ maskBytes (slotSet fun n => s.holds[n].holder == some p.other) ++ byte1 (s.port p).lease

/-- R130: releases a hold. -/
def State.releaseHoldOf (s : State) (n : SlotId) : State := s.setHold n Hold.none

/-- R133, R142: releases every hold of the port among the slots listed. -/
def State.releaseHolds (s : State) (p : Port) (slots : List SlotId) : State :=
  slots.foldl (fun t n => if t.holds[n].holder = some p then t.releaseHoldOf n else t) s

/-- R131: a hold expires: its holder becomes none and HOLD_LOST is set in the holder's port alone. -/
def State.expireHold (s : State) (n : SlotId) : State :=
  match s.holds[n].holder with
  | some p => (s.releaseHoldOf n).raise p .holdLost
  | none => s

/-! ### The Scene Store (6.1) -/

/-- R108: the bytes the check value covers. -/
def Scene.contents (k : Scene) : List Byte :=
  byte1 k.entries.length ++ k.entries.flatMap SceneEntry.bytes ++ byte2 (k.tempo.getD 0) ++ byte2 k.morphTime

/-- R108: the check value computed afresh. -/
def Scene.freshCheck (k : Scene) : BitVec 16 := crc16 k.contents

/-- R108: the record as the Scene Store writes it, VALID and with its check value. -/
def Scene.sealed (k : Scene) : Scene := { k with state := .valid, check := k.freshCheck }

/-- R109: a VALID record whose contents do not match its check value. -/
def Scene.mismatched (k : Scene) : Bool := k.state == .valid && k.check != k.freshCheck

/-- R109: verifies a VALID record; a mismatch makes it CORRUPT with STORE_FAULT in both ports. -/
def State.verifyScene (s : State) (k : SceneId) : State :=
  if s.scenes[k].mismatched then (s.setScene k { s.scenes[k] with state := .corrupt }).raiseBoth .storeFault else s

/-- The records in increasing order. -/
@[irreducible] def allScenes : List SceneId := List.finRange 32

/-- R110: the records a sweep makes CORRUPT. -/
def State.sweepRecords (s : State) : State :=
  allScenes.foldl (fun t k => if t.scenes[k].mismatched then t.setScene k { t.scenes[k] with state := .corrupt } else t) s

/-- R110: the store sweep; STORE_FAULT is raised once if any record becomes CORRUPT. -/
def State.storeSweep (s : State) : State :=
  if allScenes.any (fun k => s.scenes[k].mismatched) then s.sweepRecords.raiseBoth .storeFault else s

/-! ### Entry to STARTING (R177) -/

/-- R177: every block takes its reset value. What outlives the reset is handed in or kept: the scene records, the contents of the
delay memory pages (R29), the waiting rows and the counter of free values. -/
def State.enterStarting (s : State) (kind : StartKind) (scenes : Vector Scene 32) : State :=
  { State.reset with
    startKind := kind, scenes := scenes, pool := Pool.reset s.pool.written, fresh := s.fresh, pending := s.pending }

end Sys2Proof.Machine
end

