-- ==== Sys2Proof/Machine/Tempo.lean ====
section
/-! DEFINITION. The Tempo Unit (chapter 4): source arbiter, Tap Classifier, Tap History, Link Receiver, propagation; the tempo commands
(R155), and the rows of the tap and link inputs. -/

namespace Sys2Proof.Machine

/-- Replaces the Tempo Unit. -/
def State.setTempo (s : State) (u : TempoUnit) : State := { s with tempo := u }

/-! ### Sources (4.2) and propagation (4.7) -/

/-- R75: the source the arbiter chooses. -/
def TempoUnit.choice (u : TempoUnit) : Source :=
  match u.mode with
  | .control => .control
  | .tap => .tap
  | .link => .link
  | .auto => if u.link.state = .locked then .link else if u.tapTempo.isSome && u.tapFresh then .tap else .control

/-- The value a source offers. -/
def TempoUnit.offer (u : TempoUnit) : Source → Option Nat
  | .control => some u.control
  | .tap => u.tapTempo
  | .link => u.linkTempo

/-- The distance of two tempos. -/
def tempoDistance (a b : Nat) : Nat := (a - b) + (b - a)

/-- R91: propagates the applied tempo when it differs by 5 or more from the last propagated one. -/
def State.propagate (s : State) : State :=
  if 5 ≤ tempoDistance s.tempo.applied s.tempo.lastPropagated then
    (s.setTempo { s.tempo with
      lastPropagated := s.tempo.applied, toSlots := s.tempo.toSlots ++ [s.tempo.applied],
      toModulation := s.tempo.toModulation ++ [.propagation s.tempo.applied] }).raiseBoth .tempoChanged
  else s

/-- R75: writes the applied tempo; a write that changes it is handed to the propagation check. -/
def State.applyTempo (s : State) (value : Option Nat) : State :=
  match value with
  | none => s
  | some v => if v = s.tempo.applied then s else (s.setTempo { s.tempo with applied := v }).propagate

/-- R75: sets the current source; a change of it raises TEMPO_SOURCE. -/
def State.chooseSource (s : State) : State :=
  if s.tempo.choice = s.tempo.source then s
  else (s.setTempo { s.tempo with source := s.tempo.choice }).raiseBoth .tempoSource

/-- R75: the source arbiter is re-evaluated. -/
def State.reevaluate (s : State) : State :=
  let t := s.chooseSource
  t.applyTempo (t.tempo.offer t.tempo.source)

/-- R76: a new control tempo. -/
def State.writeControl (s : State) (tempo : Nat) : State := (s.setTempo { s.tempo with control := tempo }).reevaluate

/-! ### Tap History (4.4) -/

/-- R83: the tap tempo of a list of intervals. -/
def tapTempoOf (intervals : List Nat) : Nat := roundDiv (6000000 * intervals.length) intervals.sum

/-- R82: whether an interval differs from the mean of the intervals held by more than a quarter of it, compared exactly. -/
def farFromMean (i : Nat) (intervals : List Nat) : Bool :=
  intervals.sum < 4 * tempoDistance (i * intervals.length) intervals.sum

/-- R82: the intervals after a tap whose interval is within 200 to 2000. -/
def nextIntervals (i : Nat) (intervals : List Nat) : List Nat :=
  if intervals.isEmpty then [i]
  else if farFromMean i intervals then [i]
  else if 4 ≤ intervals.length then intervals.drop (intervals.length - 3) ++ [i]
  else intervals ++ [i]

/-- The Tap History with no interval. -/
def TempoUnit.restarted (u : TempoUnit) : TempoUnit := { u with intervals := [] }

/-- R82, R83: a tap with timestamp `t` is entered: the first tap, a bounce, or an interval appended or restarted. An interval above
2000, which the clearing of R84 leaves no tap to meet, starts a new history (log 4). -/
def State.enterTap (s : State) (t : Nat) : State :=
  let u := s.tempo
  let entered := { u with lastTap := some t, tapFresh := true, freshSince := t }
  match u.lastTap with
  | none => if u.tapFresh then s.setTempo entered else (s.setTempo entered).reevaluate
  | some last =>
    if t < last + 200 then s
    else if last + 2000 < t then
      (if u.tapFresh then s.setTempo entered.restarted else (s.setTempo entered.restarted).reevaluate)
    else
      (s.setTempo { entered with
        intervals := nextIntervals (t - last) u.intervals,
        tapTempo := some (tapTempoOf (nextIntervals (t - last) u.intervals)) }).reevaluate

/-- R80, R84: the Tap History is cleared. -/
def TempoUnit.clearHistory (u : TempoUnit) : TempoUnit := { u with intervals := [], lastTap := none }

/-- R90: hands a RESYNC to the Modulation Unit. -/
def State.handResync (s : State) : State :=
  s.setTempo { s.tempo with toModulation := s.tempo.toModulation ++ [.resync] }

/-! ### Link Receiver (4.5) -/

/-- Replaces the Link Receiver. -/
def State.setLink (s : State) (k : LinkReceiver) : State := s.setTempo { s.tempo with link := k }

/-- R87, R89: leaves LOCKED for LOST with LINK_LOST. -/
def State.linkLost (s : State) : State :=
  ((s.setLink { s.tempo.link with state := .lost, badRun := 0 }).raiseBoth .linkLost).reevaluate

/-- R87, R88: a bad frame. -/
def State.linkBad (s : State) : State :=
  let run := min 3 (s.tempo.link.badRun + 1)
  match s.tempo.link.state with
  | .locked => if run = 3 then s.linkLost else s.setLink { s.tempo.link with badRun := run }
  | .seeking =>
    s.setLink { s.tempo.link with
      badRun := run, seekReference := if run = 3 then none else s.tempo.link.seekReference }
  | .silent => s.setLink { s.tempo.link with badRun := run }
  | .lost => s.setLink { s.tempo.link with badRun := run }

/-- R89: the receiver is LOCKED and takes the link tempo; the arbiter is re-evaluated, and position 0 hands a RESYNC when LINK is in
charge (log 20). -/
def State.linkLocked (s : State) (tempo position time : Nat) : State :=
  let t := (s.setTempo { s.tempo with
    linkTempo := some tempo,
    link := { s.tempo.link with state := .locked, badRun := 0, seekReference := none, silenceStart := time } }).reevaluate
  if position = 0 ∧ t.tempo.source = .link then t.handResync else t

/-- R88: a valid TEMPO frame received at `time`. -/
def State.linkTempo (s : State) (tempo position time : Nat) : State :=
  match s.tempo.link.state with
  | .locked => s.linkLocked tempo position time
  | .seeking =>
    match s.tempo.link.seekReference with
    | some ref =>
      if time - ref ≤ 500 then s.linkLocked tempo position time
      else s.setLink { s.tempo.link with badRun := 0, seekReference := some time }
    | none => s.setLink { s.tempo.link with badRun := 0, seekReference := some time }
  | .silent => s.setLink { s.tempo.link with state := .seeking, badRun := 0, seekReference := some time }
  | .lost => s.setLink { s.tempo.link with state := .seeking, badRun := 0, seekReference := some time }

/-- R88: a valid STOP frame takes the receiver to SILENT without LINK_LOST; leaving LOCKED re-evaluates the arbiter. -/
def State.linkStop (s : State) : State :=
  let t := s.setLink { s.tempo.link with state := .silent, badRun := 0, seekReference := none }
  if s.tempo.link.state = .locked then t.reevaluate else t

/-- R87: a complete frame is checked; the first check that fails makes it a bad frame. -/
def State.linkFrame (s : State) (frame : List Byte) (time : Nat) : State :=
  match frame with
  | [sync, hi, lo, position, crc] =>
    if crc = crc8 [sync, hi, lo, position] ∧ 3000 ≤ word16 hi lo ∧ word16 hi lo ≤ 30000 ∧ position.toNat ≤ 95 then
      s.linkTempo (word16 hi lo) position.toNat time
    else s.linkBad
  | [sync, zero, crc] => if crc = crc8 [sync, zero] ∧ zero = 0 then s.linkStop else s.linkBad
  | _ => s.linkBad

/-- R86: how many bytes the frame in the assembly takes. -/
def frameLength (assembly : List Byte) : Nat := if assembly.head? = some 0xF5 then 5 else 3

/-- R86: a byte received while hunting: a sync byte starts a frame, a break in LOCKED acts as R89 gives, any other is discarded. The
break counts no bad frame (DESIGN CHOICE, log 41). -/
def State.linkHunt (s : State) (b : LinkByte) : State :=
  if b.framingError then (if b.value = 0 ∧ s.tempo.link.state = .locked then s.linkLost else s)
  else if b.value = 0xF5 ∨ b.value = 0xF6 then s.setLink { s.tempo.link with assembly := [b.value] }
  else s

/-- R86: a byte received while assembling. A framing error ends the frame as a bad frame; a break takes LOCKED to LOST (R89).
Such a break is both a bad frame (R86, R87) and the loss (R89), in no stated order: the model makes the loss alone, with the run at 0
(DESIGN CHOICE, log 41). -/
def State.linkAssemble (s : State) (b : LinkByte) (time : Nat) : State :=
  let frame := s.tempo.link.assembly ++ [b.value]
  let hunting := s.setLink { s.tempo.link with assembly := [] }
  if b.framingError then
    (if b.value = 0 ∧ s.tempo.link.state = .locked then hunting.linkLost else hunting.linkBad)
  else if frame.length = frameLength frame then hunting.linkFrame frame time
  else s.setLink { s.tempo.link with assembly := frame }

/-- R86: a byte received on LINK. The byte whose start bit fell before READY is not taken (R73, log 43). -/
def State.linkByte (s : State) (b : LinkByte) (time : Nat) : State :=
  if s.tempo.link.cutByte then s.setLink { s.tempo.link with cutByte := false }
  else if s.tempo.link.assembly.isEmpty then s.linkHunt b
  else s.linkAssemble b time

/-- The bytes of a row, the last of them received at `time`; nothing is taken in STARTING (R73). -/
def State.linkBytes (s : State) (bytes : List LinkByte) (time : Nat) : State :=
  if s.power = .starting then s else bytes.foldl (fun t b => t.linkByte b time) s

/-- A byte with a good stop bit. -/
def goodByte (b : Byte) : LinkByte := { value := b, framingError := false }

/-! ### The tempo commands (R155) -/

/-- SET TEMPO (R76). -/
def setTempoDecision (body : List Byte) (s : State) : Verdict :=
  match body with
  | [hi, lo] =>
    match tempoField hi lo with
    | some v => (s.writeControl v).answerDone
    | none => s.refuse .range
  | _ => s.refuse .badLen

def execSetTempo (p : Port) (tag : Byte) (body : List Byte) (s : State) : Answer :=
  runCommand p (ownCommand tag 0x30 body) (setTempoDecision body) s

/-- SET TEMPO SOURCE (R74). -/
def setTempoSourceDecision (body : List Byte) (s : State) : Verdict :=
  match body with
  | [m] =>
    match modeField m with
    | some mode => (s.setTempo { s.tempo with mode := mode }).reevaluate.answerDone
    | none => s.refuse .range
  | _ => s.refuse .badLen

def execSetTempoSource (p : Port) (tag : Byte) (body : List Byte) (s : State) : Answer :=
  runCommand p (ownCommand tag 0x31 body) (setTempoSourceDecision body) s

/-- TAP (R85): a tap with the decision's time as its timestamp. -/
def tapDecision (body : List Byte) (time : Nat) (s : State) : Verdict :=
  match body with
  | [] => (s.enterTap time).answerDone
  | _ => s.refuse .badLen

def execTap (p : Port) (tag : Byte) (generalCall : Bool) (body : List Byte) (time : Nat) (s : State) : Answer :=
  runCommand p { tag := tag, code := 0x32, generalCall := generalCall, body := body } (tapDecision body time) s

/-- The tempo report (R93, 11.3). -/
def TempoUnit.report (u : TempoUnit) : List Byte :=
  byte2 u.applied ++ byte2 u.lastPropagated ++ [u.mode.code, u.source.code] ++ byte2 u.control ++ byte2 (u.tapTempo.getD 0)
    ++ [boolByte u.tapFresh] ++ byte1 u.intervals.length ++ [boolByte u.spikeRejection, u.pulse.code, u.link.state.code]
    ++ byte1 u.link.badRun ++ byte2 (u.linkTempo.getD 0)

/-- READ TEMPO (R93). -/
def readTempoDecision (body : List Byte) (s : State) : Verdict :=
  match body with
  | [] => s.answerDone s.tempo.report
  | _ => s.refuse .badLen

def execReadTempo (p : Port) (tag : Byte) (body : List Byte) (s : State) : Answer :=
  runCommand p (ownCommand tag 0x33 body) (readTempoDecision body) s

/-- SET TAP OPTIONS (R79). -/
def setTapOptionsDecision (body : List Byte) (s : State) : Verdict :=
  match body with
  | [b] =>
    match boolField b with
    | some on => (s.setTempo { s.tempo with spikeRejection := on }).answerDone
    | none => s.refuse .range
  | _ => s.refuse .badLen

def execSetTapOptions (p : Port) (tag : Byte) (body : List Byte) (s : State) : Answer :=
  runCommand p (ownCommand tag 0x34 body) (setTapOptionsDecision body) s

/-! ### The footswitch (4.3): an event the classifier's state does not admit changes nothing (log 2) -/

/-- R78: a falling edge at `time`, in OPEN. -/
def execTapPress (time : Nat) (s : State) : Answer :=
  if s.power ≠ .starting ∧ s.tempo.pulse = .open then
    .next (s.setTempo { s.tempo with pulse := .timing, pulseTimer := 1, edgeTime := time })
  else .next s

/-- R78, R79: a release at `time`: the low time L is the time since the falling edge. In TIMING the pulse is a spike or a tap; in HELD
there is no classification. -/
def execTapRelease (time : Nat) (s : State) : Answer :=
  if s.power ≠ .starting ∧ s.tempo.pulse = .timing ∧ s.tempo.edgeTime < time ∧ time - s.tempo.edgeTime < 600 then
    let t := s.setTempo { s.tempo with pulse := .open, pulseTimer := time - s.tempo.edgeTime }
    .next (if s.tempo.spikeRejection ∧ time - s.tempo.edgeTime < 8 then t else t.enterTap s.tempo.edgeTime)
  else if s.power ≠ .starting ∧ s.tempo.pulse = .held ∧ s.tempo.edgeTime + 600 ≤ time ∧ time < s.tempo.edgeTime + 3000 then
    .next (s.setTempo { s.tempo with pulse := .open, pulseTimer := time - s.tempo.edgeTime })
  else .next s

/-- R80: the timer reaches 600 in TIMING, 599 ms after the falling edge: the Tap History is cleared and a RESYNC handed over. -/
def execLongPress (time : Nat) (s : State) : Answer :=
  if s.power ≠ .starting ∧ s.tempo.pulse = .timing ∧ s.tempo.edgeTime + 599 ≤ time then
    .next (s.setTempo { s.tempo.clearHistory with pulse := .held, pulseTimer := 600 }).handResync
  else .next s

/-- R81: the timer reaches 3000 in HELD, 2999 ms after the falling edge. -/
def execStuckSwitch (time : Nat) (s : State) : Answer :=
  if s.power ≠ .starting ∧ s.tempo.pulse = .held ∧ s.tempo.edgeTime + 2999 ≤ time then
    .next ((s.setTempo { s.tempo with pulse := .stopped, pulseTimer := 3000 }).raiseBoth .tapFault)
  else .next s

/-- R78: the pulse timer at a high sample at `time` in HELD: the low samples since the falling edge, one a millisecond. It stands within
what HELD admits, 600 to 2999 (log 4). -/
def TempoUnit.heldTimer (u : TempoUnit) (time : Nat) : Nat := max 600 (min 2999 (time - u.edgeTime))

/-- TAP_HIGH_SAMPLE: a high sample at `time` ends HELD, with no classification, or STOPPED (R78). -/
def execTapHighSample (s : State) (time : Nat := 0) : Answer :=
  if s.power ≠ .starting ∧ s.tempo.pulse = .held then
    .next (s.setTempo { s.tempo with pulse := .open, pulseTimer := s.tempo.heldTimer time })
  else if s.power ≠ .starting ∧ s.tempo.pulse = .stopped then .next (s.setTempo { s.tempo with pulse := .open })
  else .next s

/-- R77: 30000 ms after the timestamp of the last tap entered. -/
def execTapFreshExpiry (time : Nat) (s : State) : Answer :=
  if s.power ≠ .starting ∧ s.tempo.tapFresh = true ∧ s.tempo.freshSince + 30000 ≤ time then
    .next (s.setTempo { s.tempo with tapFresh := false }).reevaluate
  else .next s

/-- R84: 2000 ms since the last tap with no tap entered. -/
def execTapHistoryClear (time : Nat) (s : State) : Answer :=
  if s.power ≠ .starting ∧ s.tempo.lastTap.any (fun last => last + 2000 ≤ time) then
    .next (s.setTempo s.tempo.clearHistory)
  else .next s

/-! ### The link (4.5) -/

/-- A TEMPO frame: the sync byte 0xF5 and four bytes, checked as R87 gives. -/
def execLinkTempoFrame (tempoHigh tempoLow position crc : Byte) (time : Nat) (s : State) : Answer :=
  .next (s.linkBytes ([0xF5, tempoHigh, tempoLow, position, crc].map goodByte) time)

/-- A STOP frame: the sync byte 0xF6 and two bytes, checked as R87 gives. -/
def execLinkStopFrame (zero crc : Byte) (time : Nat) (s : State) : Answer :=
  .next (s.linkBytes ([0xF6, zero, crc].map goodByte) time)

/-- The bytes of a bad frame, as received: a framing error inside it, or a check of R87 that fails. -/
def execLinkBadFrame (bytes : List LinkByte) (time : Nat) (s : State) : Answer :=
  .next (s.linkBytes bytes time)

/-- A break: a byte of value 0 with a framing error (R86, R89). -/
def execLinkBreak (time : Nat) (s : State) : Answer :=
  .next (s.linkBytes [{ value := 0, framingError := true }] time)

/-- R89: the silence timer runs out, 500 ms after the last valid TEMPO frame in LOCKED. -/
def execLinkSilenceTimeout (time : Nat) (s : State) : Answer :=
  if s.power ≠ .starting ∧ s.tempo.link.state = .locked ∧ s.tempo.link.silenceStart + 500 ≤ time then .next s.linkLost
  else .next s

end Sys2Proof.Machine
end

