-- ==== Sys2Proof/Machine/Modulation.lean ====
section
/-! DEFINITION. The Modulation Unit (chapter 5): LFOs, the Random Generator, the modulation commands (R156), and the rows of
propagation and RESYNC. -/

namespace Sys2Proof.Machine

/-- Replaces the Modulation Unit. -/
def State.setModulation (s : State) (m : ModulationUnit) : State := { s with modulation := m }

/-- Counts in one cycle of phase (5.2). -/
abbrev cycleCounts : Nat := 4294967296

/-! ### Phase (5.2) -/

/-- R95, R98: the increment: 4294967296 × 32 × r / (100 × fs) truncated, where r is the rate of a FREE LFO and the exact fraction
tempo / (60 × multiple) of a tempo-locked one. -/
def lfoIncrement (r : Rate) (rate division tempo : Nat) : Nat :=
  if division = 0 then cycleCounts * 32 * rate / (100 * r.hertz)
  else
    cycleCounts * 32 * (tempo * (divisionMultiple division).2) / (60 * (divisionMultiple division).1 * 100 * r.hertz)

/-- R95: a phase offset in degrees as counts, truncated. -/
def offsetPhase (degrees : Nat) : Nat := degrees * cycleCounts / 360

/-- R99, R100: the LFO restarts at its offset. -/
def Lfo.restart (f : Lfo) : Lfo := { f with phase := offsetPhase f.offset, restartPending := true }

/-- The phase as a fraction of a cycle. -/
def Lfo.fraction (f : Lfo) : Rat := (f.phase : Rat) / (cycleCounts : Rat)

/-- R96: the output of the shape at the phase (log 26). -/
def Lfo.shapeOutput (f : Lfo) : LfoOutput :=
  let p := f.fraction
  match f.shape with
  | .sine => .sine f.phase
  | .triangle => .exact (if p < 1 / 4 then 4 * p else if p < 3 / 4 then 2 - 4 * p else 4 * p - 4)
  | .rampUp => .exact (2 * p - 1)
  | .rampDown => .exact (1 - 2 * p)
  | .stepRandom => .exact ((f.current : Rat) / 32768)
  | .smoothRandom => .exact (((f.previous : Rat) + ((f.current : Rat) - (f.previous : Rat)) * p) / 32768)

/-- R97: whether a cycle start makes the LFO draw. -/
def Shape.random : Shape → Bool
  | .stepRandom => true
  | .smoothRandom => true
  | _ => false

/-! ### Random Generator (5.5) -/

/-- R102: one shift: the exclusive-or of bits 0, 2, 3 and 5 enters at bit 15, every bit moves towards bit 0. -/
def lfsrShift (w : BitVec 16) : BitVec 16 :=
  (w >>> 1) ||| (if (w.getLsbD 0 ^^ w.getLsbD 2 ^^ w.getLsbD 3 ^^ w.getLsbD 5) then 0x8000 else 0)

/-- R102: the LFSR after the sixteen shifts of a draw. -/
def lfsrDraw (w : BitVec 16) : BitVec 16 := Nat.repeat lfsrShift 16 w

/-- R102: the draw: the LFSR in SEEDED, exclusive-or the mixing register in LIVE. -/
def ModulationUnit.drawn (m : ModulationUnit) : BitVec 16 :=
  match m.mode with
  | .seeded => lfsrDraw m.lfsr
  | .live => lfsrDraw m.lfsr ^^^ m.mixing

/-- R103: in LIVE mode the mixing register absorbs the feed byte. -/
def ModulationUnit.absorb (m : ModulationUnit) (b : Byte) : ModulationUnit :=
  match m.mode with
  | .seeded => m
  | .live => { m with mixing := crc16Byte m.mixing b }

/-! ### The step (R95) -/

/-- R95: the LFO's phase after a step, with restart pending cleared, and whether the step is a cycle start. -/
def Lfo.advance (f : Lfo) : Lfo × Bool :=
  if f.restartPending then ({ f with restartPending := false }, true)
  else if cycleCounts ≤ f.phase + f.increment then ({ f with phase := f.phase + f.increment - cycleCounts }, true)
  else ({ f with phase := f.phase + f.increment }, false)

/-- R97: the LFO takes a draw. -/
def Lfo.take (f : Lfo) (d : BitVec 16) : Lfo := { f with previous := f.current, current := d.toInt }

/-- R95: the step of LFO `k`: advance, draw at a cycle start of a random shape, output. -/
def ModulationUnit.stepLfo (m : ModulationUnit) (k : LfoId) : ModulationUnit :=
  let f := (m.lfos[k]).advance
  if f.2 && f.1.shape.random then
    { m with lfsr := lfsrDraw m.lfsr,
             lfos := m.lfos.set k { f.1.take m.drawn with output := (f.1.take m.drawn).shapeOutput } }
  else { m with lfos := m.lfos.set k { f.1 with output := f.1.shapeOutput } }

/-- The LFOs in index order. -/
@[irreducible] def allLfos : List LfoId := [0, 1, 2, 3]

/-- R95: LFO 0, 1, 2 and 3 step in that order. -/
def ModulationUnit.stepAll (m : ModulationUnit) : ModulationUnit := allLfos.foldl ModulationUnit.stepLfo m

/-- Changes every LFO. -/
def ModulationUnit.mapLfos (m : ModulationUnit) (g : Lfo → Lfo) : ModulationUnit :=
  allLfos.foldl (fun (u : ModulationUnit) (k : LfoId) => { u with lfos := u.lfos.set k (g u.lfos[k]) }) m

/-! ### Binding (R101) -/

/-- R101: the LFO a slot is bound to by its active bank. -/
def Slot.boundLfo (sl : Slot) : Option LfoId :=
  match sl.state, sl.algorithm with
  | .empty, _ => none
  | _, none => none
  | _, some a =>
    let v := sl.active[a.lfoSelectIx]
    if h : 0 ≤ v ∧ v.toNat < 4 then some ⟨v.toNat, h.2⟩ else none

/-- R140: the slots bound to an LFO. -/
def State.boundTo (s : State) (k : LfoId) : List SlotId := allSlots.filter fun n => s.slots[n].boundLfo == some k

/-! ### The modulation commands (R156) -/

/-- R100: the entry as SET LFO writes it: the four fields, a restart when shape or offset changed, random values cleared when the
shape changed, and the increment recomputed when the division changed or the rate of a FREE LFO did. -/
def Lfo.set (f : Lfo) (r : Rate) (tempo : Nat) (shape : Shape) (rate division offset : Nat) : Lfo :=
  let g := { f with shape := shape, rate := rate, division := division, offset := offset }
  let g := if shape ≠ f.shape ∨ offset ≠ f.offset then g.restart else g
  let g := if shape ≠ f.shape then { g with previous := 0, current := 0 } else g
  if division ≠ f.division ∨ (division = 0 ∧ rate ≠ f.rate) then { g with increment := lfoIncrement r rate division tempo }
  else g

/-- SET LFO (R100, R140). -/
def setLfoDecision (p : Port) (body : List Byte) (s : State) : Verdict :=
  match body with
  | [lfo, shape, rateHi, rateLo, division, offHi, offLo] =>
    match lfoField lfo, shapeField shape, within 1 2000 (word16 rateHi rateLo), within 0 9 division.toNat,
        within 0 359 (word16 offHi offLo) with
    | some k, some sh, some rate, some dv, some off =>
      if (s.boundTo k).any (s.heldByOther p) then s.refuseHeld p (s.boundTo k)
      else
        (s.setModulation { s.modulation with
          lfos := s.modulation.lfos.set k ((s.modulation.lfos[k]).set s.rate s.modulation.lfoTempo sh rate dv off) }).answerDone
    | _, _, _, _, _ => s.refuse .range
  | _ => s.refuse .badLen

def execSetLfo (p : Port) (tag : Byte) (body : List Byte) (s : State) : Answer :=
  runCommand p (ownCommand tag 0x40 body) (setLfoDecision p body) s

/-- SEED RANDOM (R104). -/
def seedRandomDecision (body : List Byte) (s : State) : Verdict :=
  match body with
  | [hi, lo] =>
    if bits16 hi lo = 0 then s.refuse .range
    else (s.setModulation { s.modulation with lfsr := bits16 hi lo, mixing := 0 }).answerDone
  | _ => s.refuse .badLen

def execSeedRandom (p : Port) (tag : Byte) (body : List Byte) (s : State) : Answer :=
  runCommand p (ownCommand tag 0x41 body) (seedRandomDecision body) s

/-- SET RANDOM MODE (R105). -/
def setRandomModeDecision (body : List Byte) (s : State) : Verdict :=
  match body with
  | [b] =>
    match randomField b with
    | some mode => (s.setModulation { s.modulation with mode := mode }).answerDone
    | none => s.refuse .range
  | _ => s.refuse .badLen

def execSetRandomMode (p : Port) (tag : Byte) (body : List Byte) (s : State) : Answer :=
  runCommand p (ownCommand tag 0x42 body) (setRandomModeDecision body) s

/-! ### Propagation and RESYNC (R98, R99) -/

/-- R98: the LFO tempo and the increments of the tempo-locked LFOs after a propagation. -/
def ModulationUnit.propagated (m : ModulationUnit) (r : Rate) (tempo : Nat) : ModulationUnit :=
  { m with lfoTempo := tempo }.mapLfos fun f =>
    if f.division = 0 then f else { f with increment := lfoIncrement r f.rate f.division tempo }

/-- R99: every tempo-locked LFO restarts. -/
def ModulationUnit.resynced (m : ModulationUnit) : ModulationUnit :=
  m.mapLfos fun f => if f.division = 0 then f else f.restart

/-- LFO_PROPAGATION: the Modulation Unit takes the oldest event handed to it, when that is a propagation. -/
def execLfoPropagation (s : State) : Answer :=
  match s.tempo.toModulation with
  | .propagation tempo :: rest =>
    .next ((s.setTempo { s.tempo with toModulation := rest }).setModulation (s.modulation.propagated s.rate tempo))
  | _ => .next s

/-- RESYNC: the Modulation Unit takes the oldest event handed to it, when that is a RESYNC. -/
def execResync (s : State) : Answer :=
  match s.tempo.toModulation with
  | .resync :: rest => .next ((s.setTempo { s.tempo with toModulation := rest }).setModulation s.modulation.resynced)
  | _ => .next s

end Sys2Proof.Machine
end

