-- ==== Sys2Proof/Machine/SlotCommands.lean ====
section
/-! DEFINITION. The slot commands (R151): ASSIGN, CLEAR, PARAMS, MUTE, UNMUTE, ROUTE, READ SLOT. -/

namespace Sys2Proof.Machine

/-! ### ASSIGN -/

/-- The result body of ASSIGN (R151): the slot's state and the load tally, both after the decision. -/
def State.assignBody (s : State) (n : SlotId) : List Byte := [(s.slots[n]).state.code] ++ byte1 s.loadTally

/-- R4, R7: the allocation of a new algorithm at its default sizes; `take` makes the slot of the regions placed. -/
def State.allocateFor (s : State) (n : SlotId) (a : Alg) (take : State → List EntryId → State) : Verdict :=
  match s.pool.allocate n (allocationSizes s.rate a a.defaults) with
  | .error f => s.refuse f.status
  | .ok (p, es) =>
    let t := (take (s.setPool p) es).startClearing
    t.answerAccepted (t.assignBody n)

/-- R4: ASSIGN on an EMPTY slot. -/
def State.assignEmpty (s : State) (n : SlotId) (a : Alg) : Verdict :=
  if s.loadFits n a.load then
    s.allocateFor n a fun t es =>
      let u := t.prepare n a a.defaults es
      u.setSlot n { u.slots[n] with muteWanted := false }
  else s.refuse .load

/-- R7: ASSIGN of another algorithm on a PREPARING slot: the old regions go back after the new ones are placed. -/
def State.assignReplace (s : State) (n : SlotId) (a : Alg) : Verdict :=
  if s.loadFits n a.load then
    s.allocateFor n a fun t es => (t.giveBackLines s.slots[n].lines).prepare n a a.defaults es
  else s.refuse .load

/-- R7, R10: ASSIGN of the slot's own algorithm: the defaults go into the shadow bank, the morph entry goes, every line's need is
evaluated. -/
def State.assignSame (s : State) (n : SlotId) (a : Alg) : Verdict :=
  let t := ((((s.removeMorph n).writeShadow n a.defaults).evalWritten n allParams)).startClearing
  t.answerDone (t.assignBody n)

/-- R9: ASSIGN of another algorithm on a RUNNING or MUTED slot. -/
def State.assignFade (s : State) (n : SlotId) (old a : Alg) : Verdict :=
  if s.loadFits n (max old.load a.load) then
    let t := s.beginFading n (some a)
    t.answerAccepted (t.assignBody n)
  else s.refuse .load

/-- R11: ASSIGN on a FADING slot replaces the next algorithm and removes a pending entry. -/
def State.assignNext (s : State) (n : SlotId) (old a : Alg) : Verdict :=
  if s.loadFits n (max old.load a.load) then
    let t := (s.setSlot n { s.slots[n] with next := some a }).removeEntry n
    t.answerAccepted (t.assignBody n)
  else s.refuse .load

/-- R4, R7, R9 to R11: ASSIGN by the slot's state. -/
def State.assignByState (s : State) (n : SlotId) (a : Alg) : Verdict :=
  match s.slots[n].state, s.slots[n].algorithm with
  | .preparing, old => if old = some a then s.assignSame n a else s.assignReplace n a
  | .running, some old => if old = a then s.assignSame n a else s.assignFade n old a
  | .muted, some old => if old = a then s.assignSame n a else s.assignFade n old a
  | .fading, some old => s.assignNext n old a
  | _, _ => s.assignEmpty n a

/-- A taken command of the holder renews its hold (R137). -/
def Verdict.renewed (v : Verdict) (p : Port) (n : SlotId) : Verdict :=
  if v.status = .done ∨ v.status = .accepted then { v with state := v.state.renew p n } else v

/-- ASSIGN: length, power, range, hold, then the slot's state, load and pool (R146, R151). -/
def assignDecision (p : Port) (body : List Byte) (s : State) : Verdict :=
  match body with
  | [slot, alg] =>
    if s.power = .quiet then s.refuse .quiet
    else
      match slotField slot, algField alg with
      | some n, some a => if s.heldByOther p n then s.refuseHeld p [n] else (s.assignByState n a).renewed p n
      | _, _ => s.refuse .range
  | _ => s.refuse .badLen

def execAssign (p : Port) (tag : Byte) (body : List Byte) (s : State) : Answer :=
  runCommand p (ownCommand tag 0x01 body) (assignDecision p body) s

/-! ### CLEAR -/

/-- The result body of CLEAR (R151). -/
def State.clearBody (s : State) (n : SlotId) : List Byte := [(s.slots[n]).state.code]

/-- R3, R6, R9, R11: CLEAR by the slot's state. -/
def State.clearByState (s : State) (n : SlotId) : Verdict :=
  match s.slots[n].state with
  | .empty => s.answerDone (s.clearBody n)
  | .preparing => let t := s.emptySlot n; t.answerDone (t.clearBody n)
  | .running => let t := s.beginFading n none; t.answerAccepted (t.clearBody n)
  | .muted => let t := s.beginFading n none; t.answerAccepted (t.clearBody n)
  | .fading =>
    let t := (s.setSlot n { s.slots[n] with next := none }).removeEntry n
    t.answerAccepted (t.clearBody n)

/-- CLEAR (R151). -/
def clearDecision (p : Port) (body : List Byte) (s : State) : Verdict :=
  match body with
  | [slot] =>
    if s.power = .quiet then s.refuse .quiet
    else
      match slotField slot with
      | some n => if s.heldByOther p n then s.refuseHeld p [n] else (s.clearByState n).renewed p n
      | none => s.refuse .range
  | _ => s.refuse .badLen

def execClear (p : Port) (tag : Byte) (body : List Byte) (s : State) : Answer :=
  runCommand p (ownCommand tag 0x02 body) (clearDecision p body) s

/-! ### PARAMS -/

/-- Writes the pairs into a bank in message order; the later pair of one index stands (R18). -/
def Bank.write (b : Bank) (prs : List (ParamIx × Int)) : Bank :=
  prs.foldl (fun (acc : Bank) (pr : ParamIx × Int) => acc.set pr.1 pr.2) b

/-- R18, R28: whether every pair suits the algorithm, and no pair writes the time of a slot the message leaves tempo-locked. -/
def Alg.pairsOk (a : Alg) (b : Bank) (prs : List (ParamIx × Int)) : Bool :=
  prs.all (fun pr => a.admits pr.1 pr.2) && !(a.locked (b.write prs) && prs.any (·.1 == timeIx))

/-- R18, R27, R28: the indices a PARAMS writes: those of its pairs, and time when the message leaves the slot tempo-locked. -/
def Alg.writtenBy (a : Alg) (b : Bank) (prs : List (ParamIx × Int)) : List ParamIx :=
  prs.map (·.1) ++ (if a.locked (b.write prs) then [timeIx] else [])

/-- R44: the indices whose lines a PARAMS has evaluated: those it writes, and time where it writes the division (log 27). -/
def Alg.evaluatedBy (a : Alg) (b : Bank) (prs : List (ParamIx × Int)) : List ParamIx :=
  a.writtenBy b prs ++ (if a.timeDriven && prs.any (·.1 == divisionIx) then [timeIx] else [])

/-- R18: the pairs and the derived time are written, the indices written leave the morph (log 18), needs are evaluated. -/
def State.writeParams (s : State) (n : SlotId) (a : Alg) (prs : List (ParamIx × Int)) : State :=
  (((s.writeShadow n (a.withDerived s.tempo.applied (s.slots[n].shadow.write prs))).endMorphing n
    (a.writtenBy s.slots[n].shadow prs)).evalWritten n (a.evaluatedBy s.slots[n].shadow prs)).startClearing

/-- R18, R150: PARAMS by the slot's state. -/
def State.paramsByState (s : State) (n : SlotId) (prs : List (ParamIx × Int)) : Verdict :=
  match s.slots[n].state, s.slots[n].algorithm with
  | .empty, _ => s.refuse .state
  | .fading, _ => s.refuse .state
  | _, none => s.refuse .state
  | _, some a => if a.pairsOk s.slots[n].shadow prs then (s.writeParams n a prs).answerDone else s.refuse .range

/-- PARAMS (R18, R147, R149, R151). -/
def paramsDecision (p : Port) (body : List Byte) (s : State) : Verdict :=
  match paramsBody body with
  | some (slot, raw) =>
    match slotField slot, indexedPairs raw with
    | some n, some prs => if s.heldByOther p n then s.refuseHeld p [n] else (s.paramsByState n prs).renewed p n
    | _, _ => s.refuse .range
  | none => s.refuse .badLen

def execParams (p : Port) (tag : Byte) (body : List Byte) (s : State) : Answer :=
  runCommand p (ownCommand tag 0x03 body) (paramsDecision p body) s

/-! ### MUTE and UNMUTE -/

/-- R8, R63, R70: the Voice Engine is told of a change between RUNNING and MUTED: the slot's 8-block fade is requested and its input
follows. While the Voice Engine is stopped in QUIET the voice record stays as it was at the stop until WAKE (R70, log 36). -/
def State.soundMute (s : State) (n : SlotId) (target : Rat) : State :=
  if s.stopped then s else (s.requestFade n target 8).followInput n

/-- R8: MUTE as it changes the slot. -/
def State.muteSlot (s : State) (n : SlotId) : State :=
  match s.slots[n].state with
  | .running =>
    (s.setSlot n { s.slots[n] with muteWanted := true, state := .muted }).soundMute n 0
  | .preparing => s.setSlot n { s.slots[n] with muteWanted := true }
  | _ => s

/-- R8: UNMUTE as it changes the slot. -/
def State.unmuteSlot (s : State) (n : SlotId) : State :=
  match s.slots[n].state with
  | .muted =>
    (s.setSlot n { s.slots[n] with muteWanted := false, state := .running }).soundMute n 1
  | .preparing => s.setSlot n { s.slots[n] with muteWanted := false }
  | _ => s

/-- R150: whether the slot's state admits MUTE, UNMUTE and PARAMS. -/
def Slot.admitsChange (sl : Slot) : Bool := sl.state != .empty && sl.state != .fading

/-- MUTE and UNMUTE share their checks (R151). -/
def muteChecks (p : Port) (body : List Byte) (change : State → SlotId → State) (s : State) : Verdict :=
  match body with
  | [slot] =>
    match slotField slot with
    | some n =>
      if s.heldByOther p n then s.refuseHeld p [n]
      else if s.slots[n].admitsChange then (change s n).answerDone.renewed p n
      else s.refuse .state
    | none => s.refuse .range
  | _ => s.refuse .badLen

def execMute (p : Port) (tag : Byte) (body : List Byte) (s : State) : Answer :=
  runCommand p (ownCommand tag 0x04 body) (muteChecks p body State.muteSlot) s

def execUnmute (p : Port) (tag : Byte) (body : List Byte) (s : State) : Answer :=
  runCommand p (ownCommand tag 0x05 body) (muteChecks p body State.unmuteSlot) s

/-! ### ROUTE -/

/-- R21: the send set and the return pair are written. -/
def State.routeSlot (s : State) (n : SlotId) (sends : SendSet) (pair : PairId) : State :=
  s.setSlot n { s.slots[n] with sendSet := sends, returnPair := pair }

/-- ROUTE (R21, R151). -/
def routeDecision (p : Port) (body : List Byte) (s : State) : Verdict :=
  match body with
  | [slot, sends, pair] =>
    match slotField slot, pairField pair with
    | some n, some r =>
      if s.heldByOther p n then s.refuseHeld p [n]
      else if s.slots[n].state = .fading then s.refuse .state
      else (s.routeSlot n sends r).answerDone.renewed p n
    | _, _ => s.refuse .range
  | _ => s.refuse .badLen

def execRoute (p : Port) (tag : Byte) (body : List Byte) (s : State) : Answer :=
  runCommand p (ownCommand tag 0x06 body) (routeDecision p body) s

/-! ### READ SLOT -/

/-- R184: the field of a line position. -/
def State.lineField (s : State) (n : SlotId) (l : LineId) : List Byte :=
  match s.slots[n].lines[l.val]? with
  | some ln => byte2 (s.pool.countOf ln.current) ++ [ln.growth.code]
  | none => byte2 0 ++ [0xFF]

/-- The flags byte of the slot readout (11.3). -/
def Slot.flagByte (sl : Slot) : Byte :=
  boolByte sl.swapPending ||| (boolByte sl.clamped <<< 1) ||| (boolByte sl.clip <<< 2) ||| (boolByte sl.muteWanted <<< 3)

/-- The slot readout (11.3, R184), 67 bytes. -/
def State.slotReadout (s : State) (n : SlotId) : List Byte :=
  let sl := s.slots[n]
  [sl.state.code, sl.algorithm.elim 0 Alg.code, sl.next.elim 0xFF Alg.code, sl.sendSet] ++ byte1 sl.returnPair.val
    ++ bankBytes sl.active ++ bankBytes sl.shadow ++ [sl.flagByte] ++ byte1 sl.lines.length
    ++ allLines.flatMap (s.lineField n)

/-- R22: the clip flag is cleared after the readout, unless the other port holds the slot. -/
def State.clearClip (s : State) (p : Port) (n : SlotId) : State :=
  if s.heldByOther p n then s else s.setSlot n { s.slots[n] with clip := false }

/-- READ SLOT (R22, R151). -/
def readSlotDecision (p : Port) (body : List Byte) (s : State) : Verdict :=
  match body with
  | [slot] =>
    match slotField slot with
    | some n => (s.clearClip p n).answerDone (s.slotReadout n)
    | none => s.refuse .range
  | _ => s.refuse .badLen

def execReadSlot (p : Port) (tag : Byte) (body : List Byte) (s : State) : Answer :=
  runCommand p (ownCommand tag 0x07 body) (readSlotDecision p body) s

end Sys2Proof.Machine
end

