-- ==== Sys2Proof/Machine/Holds.lean ====
section
/-! DEFINITION. Holds and the pool report (R152): READ POOL, TAKE HOLD, RELEASE HOLD, SET LEASE, and the lease tick (R131). -/

namespace Sys2Proof.Machine

/-- The pool report (R53, 11.3). -/
def Pool.report (p : Pool) : List Byte :=
  byte2 p.freePages ++ byte2 p.largestRun ++ byte1 p.runs.length ++ byte1 p.freeEntries ++ byte2 p.queuedPages

/-- READ POOL (R53). -/
def readPoolDecision (body : List Byte) (s : State) : Verdict :=
  match body with
  | [] => s.answerDone s.pool.report
  | _ => s.refuse .badLen

def execReadPool (p : Port) (tag : Byte) (body : List Byte) (s : State) : Answer :=
  runCommand p (ownCommand tag 0x10 body) (readPoolDecision body) s

/-- R132: every listed slot becomes or stays held by the port, with its lease length. -/
def State.takeHolds (s : State) (p : Port) (slots : List SlotId) : State :=
  slots.foldl (fun t n => t.setHold n { holder := some p, count := (t.port p).lease }) s

/-- TAKE HOLD (R132): all of the list or none of it. -/
def takeHoldDecision (p : Port) (body : List Byte) (s : State) : Verdict :=
  match body with
  | [hi, lo] =>
    let slots := slotsOf (bits16 hi lo)
    if slots.any (s.heldByOther p) then s.refuseHeld p slots
    else (s.takeHolds p slots).answerDone ((s.takeHolds p slots).holdReport p)
  | _ => s.refuse .badLen

def execTakeHold (p : Port) (tag : Byte) (body : List Byte) (s : State) : Answer :=
  runCommand p (ownCommand tag 0x11 body) (takeHoldDecision p body) s

/-- R133: the listed slots the port holds, and the others. -/
def State.heldOf (s : State) (p : Port) (slots : List SlotId) : List SlotId :=
  slots.filter fun n => s.holds[n].holder == some p

/-- RELEASE HOLD (R133). -/
def releaseHoldDecision (p : Port) (body : List Byte) (s : State) : Verdict :=
  match body with
  | [hi, lo] =>
    let slots := slotsOf (bits16 hi lo)
    let released := (s.heldOf p slots).length
    let t := s.releaseHolds p slots
    t.answerDone (byte1 released ++ byte1 (slots.length - released) ++ t.holdReport p)
  | _ => s.refuse .badLen

def execReleaseHold (p : Port) (tag : Byte) (body : List Byte) (s : State) : Answer :=
  runCommand p (ownCommand tag 0x12 body) (releaseHoldDecision p body) s

/-- SET LEASE (R134). -/
def setLeaseDecision (p : Port) (body : List Byte) (s : State) : Verdict :=
  match body with
  | [units] =>
    match within 4 240 units.toNat with
    | some n =>
      let t := s.setPort p { s.port p with lease := n }
      t.answerDone (t.holdReport p)
    | none => s.refuse .range
  | _ => s.refuse .badLen

def execSetLease (p : Port) (tag : Byte) (body : List Byte) (s : State) : Answer :=
  runCommand p (ownCommand tag 0x13 body) (setLeaseDecision p body) s

/-! ### The lease tick (R131) -/

/-- R131: a hold's share of a tick: its count falls by 1, and at 0 the hold expires. -/
def State.tickHold (s : State) (n : SlotId) : State :=
  if s.holds[n].holder = none then s
  else if s.holds[n].count ≤ 1 then s.expireHold n
  else s.setHold n { s.holds[n] with count := s.holds[n].count - 1 }

/-- LEASE_TICK: every held slot's count falls by 1, and the holds that reach 0 expire at the tick (R131, log 5). -/
def execLeaseTick (s : State) : Answer :=
  if s.power = .starting then .next s else .next (allSlots.foldl State.tickHold s)

/-- HOLD_EXPIRY: the count of one held slot, at its last unit, reaches 0 and the hold expires (R131, log 5). -/
def execHoldExpiry (n : SlotId) (s : State) : Answer :=
  if s.power ≠ .starting ∧ s.holds[n].holder ≠ none ∧ s.holds[n].count ≤ 1 then .next (s.expireHold n) else .next s

end Sys2Proof.Machine
end

