-- ==== Sys2Proof/Machine/Scenes.lean ====
section
/-! DEFINITION. Scenes, recalls and morphs (chapter 6): the Scene Store commands (R153), the recall commands (R154), and the Morph
Unit's step (R125). -/

namespace Sys2Proof.Machine

/-! ### The Scene Store commands (6.2) -/

/-- R111: the entry a slot gives, from its active bank. -/
def State.captureEntry (s : State) (n : SlotId) : Option SceneEntry :=
  match s.slots[n].state, s.slots[n].algorithm with
  | .empty, _ => none
  | _, none => none
  | _, some a =>
    some { slot := n, algorithm := a, sendSet := s.slots[n].sendSet, returnPair := s.slots[n].returnPair,
           mute := s.slots[n].muteWanted, params := a.listedOnly s.slots[n].active }

/-- STORE SCENE (R111). -/
def storeSceneDecision (body : List Byte) (s : State) : Verdict :=
  match body with
  | [scene, hi, lo, flag, timeHi, timeLo] =>
    match sceneField scene, boolField flag, morphField timeHi timeLo with
    | some k, some keep, some time =>
      let slots := slotsOf (bits16 hi lo)
      let entries := slots.filterMap s.captureEntry
      if entries.isEmpty then s.refuse .empty
      else
        (s.setScene k (Scene.sealed
          { state := .valid, entries := entries, tempo := if keep then some s.tempo.applied else none, morphTime := time,
            check := 0 })).answerDone (byte1 entries.length ++ byte1 (slots.length - entries.length))
    | _, _, _ => s.refuse .range
  | _ => s.refuse .badLen

def execStoreScene (p : Port) (tag : Byte) (body : List Byte) (s : State) : Answer :=
  runCommand p (ownCommand tag 0x20 body) (storeSceneDecision body) s

/-- R112: an entry is placed in slot order; one already held for its slot is replaced. -/
def placeEntry (e : SceneEntry) : List SceneEntry → List SceneEntry
  | [] => [e]
  | h :: t => if e.slot < h.slot then e :: h :: t else if e.slot = h.slot then e :: t else h :: placeEntry e t

/-- R112: a record that takes an entry, a tempo and a default morph time. -/
def State.writeEntry (s : State) (k : SceneId) (tempo : Option Nat) (time : Nat) (e : SceneEntry) : Verdict :=
  let entries := placeEntry e s.scenes[k].entries
  (s.setScene k (Scene.sealed { state := .valid, entries := entries, tempo := tempo, morphTime := time, check := 0 })).answerDone
    (byte1 entries.length)

/-- WRITE SCENE ENTRY (R112). -/
def writeSceneEntryDecision (body : List Byte) (s : State) : Verdict :=
  match body with
  | scene :: tempoHi :: tempoLo :: timeHi :: timeLo :: rest =>
    if rest.length = 29 then
      match sceneField scene, sceneTempoField tempoHi tempoLo, morphField timeHi timeLo, entryField rest with
      | some k, some tempo, some time, some e =>
        match s.scenes[k].state with
        | .empty => s.writeEntry k tempo time e
        | .valid => if s.scenes[k].mismatched then (s.verifyScene k).refuse .corrupt else s.writeEntry k tempo time e
        | .corrupt => s.refuse .corrupt
      | _, _, _, _ => s.refuse .range
    else s.refuse .badLen
  | _ => s.refuse .badLen

def execWriteSceneEntry (p : Port) (tag : Byte) (body : List Byte) (s : State) : Answer :=
  runCommand p (ownCommand tag 0x21 body) (writeSceneEntryDecision body) s

/-- ERASE SCENE (R113). -/
def eraseSceneDecision (body : List Byte) (s : State) : Verdict :=
  match body with
  | [scene] =>
    match sceneField scene with
    | some k => (s.setScene k Scene.reset).answerDone
    | none => s.refuse .range
  | _ => s.refuse .badLen

def execEraseScene (p : Port) (tag : Byte) (body : List Byte) (s : State) : Answer :=
  runCommand p (ownCommand tag 0x22 body) (eraseSceneDecision body) s

/-- R185: the header of a READ SCENE result: state, count, tempo and default morph time, 6 bytes, sent alone where there is no entry at
the position. R153's catalogue gives "state and count only" there. R114, the command's rule in the opcode table, and R185 give the 6 bytes,
and chapter 11, of whose layouts every byte at a port has one, has none of state and count alone: the model follows them (DEDUCED,
log 42). -/
def Scene.header (k : Scene) : List Byte :=
  [k.state.code] ++ byte1 k.entries.length ++ byte2 (k.tempo.getD 0) ++ byte2 k.morphTime

/-- R114, R185: the refusal with CORRUPT carries the state alone. -/
def State.refuseCorrupt (s : State) : Verdict := { state := s, status := .corrupt, body := [SceneState.corrupt.code] }

/-- READ SCENE (R114). -/
def readSceneDecision (body : List Byte) (s : State) : Verdict :=
  match body with
  | [scene, position] =>
    match sceneField scene, within 0 15 position.toNat with
    | some k, some at_ =>
      match s.scenes[k].state with
      | .empty => s.answerDone s.scenes[k].header
      | .valid =>
        if s.scenes[k].mismatched then (s.verifyScene k).refuseCorrupt
        else s.answerDone (s.scenes[k].header ++ (s.scenes[k].entries[at_]?).elim [] SceneEntry.bytes)
      | .corrupt => s.refuseCorrupt
    | _, _ => s.refuse .range
  | _ => s.refuse .badLen

def execReadScene (p : Port) (tag : Byte) (body : List Byte) (s : State) : Answer :=
  runCommand p (ownCommand tag 0x23 body) (readSceneDecision body) s

/-! ### Recall: the entries (R117 to R120) -/

/-- R139: whether an entry's slot is skipped: held by the other port, or by either for a general call. -/
def State.skips (s : State) (p : Port) (generalCall : Bool) (n : SlotId) : Bool :=
  if generalCall then s.holds[n].holder.isSome else s.heldByOther p n

/-- R117: the entry's slot joins the waiting set. -/
def State.joinWaiting (s : State) (n : SlotId) : State :=
  { s with recallRecord := { s.recallRecord with waiting := s.recallRecord.waiting ||| slotBit n } }

/-- R124: the indices a morph moves: listed, with a target that differs from the start, and not the time of a locked entry. -/
def Alg.morphingSet (a : Alg) (start target : Bank) : List ParamIx :=
  allParams.filter fun ix => a.lists ix && target[ix] != start[ix] && !(a.locked target && ix == timeIx)

/-- A set of parameter indices as bits. -/
def paramSet (ixs : List ParamIx) : BitVec 12 := ixs.foldl (fun (w : BitVec 12) (ix : ParamIx) => w ||| (1#12 <<< ix.val)) 0

/-- The indices of a set, in increasing order. -/
def paramsOf (w : BitVec 12) : List ParamIx := allParams.filter fun ix => w.getLsbD ix.val

/-- Copies the positions listed from one bank to another. -/
def Bank.copy (b source : Bank) (ixs : List ParamIx) : Bank :=
  ixs.foldl (fun (acc : Bank) (ix : ParamIx) => acc.set ix source[ix]) b

/-- R124: a morph entry is made, every listed index outside its set takes its target in the shadow bank at once, and the lines' needs are
evaluated for them (R44). The target of a locked entry's time is its derived time (R107; log 18). -/
def State.makeMorph (s : State) (n : SlotId) (a : Alg) (target : Bank) (steps : Nat) : State :=
  let moving := a.morphingSet s.slots[n].active target
  let still := allParams.filter fun ix => a.lists ix && !moving.contains ix
  ((s.setMorph n (some
      { start := s.slots[n].active, target := target, total := steps, done := 0, morphing := paramSet moving })).writeShadow n
    (s.slots[n].shadow.copy target still)).evalWritten n still

/-- R118: the parameters as a cut: every value goes into the shadow bank and the morph entry is removed. -/
def State.cutParams (s : State) (n : SlotId) (target : Bank) : State :=
  ((s.removeMorph n).writeShadow n target).evalWritten n allParams

/-- R118: routing is written and mute wanted applied at once. -/
def State.recallRouting (s : State) (n : SlotId) (e : SceneEntry) : State :=
  let t := s.routeSlot n e.sendSet e.returnPair
  if e.mute then t.muteSlot n else t.unmuteSlot n

/-- The outcome of an entry: the state, and whether it was applied (or failed). -/
abbrev EntryOutcome := State × Bool

/-- R118: an entry on a RUNNING or MUTED slot with its own algorithm: a morph, or a cut. -/
def State.recallSame (s : State) (n : SlotId) (e : SceneEntry) (steps : Nat) : EntryOutcome :=
  let t := s.recallRouting n e
  let target := s.entryBank e
  if 1 ≤ steps ∧ e.algorithm.morphingSet t.slots[n].active target ≠ [] then
    ((t.makeMorph n e.algorithm target steps).joinWaiting n, true)
  else (t.cutParams n target, true)

/-- R119: the lines of an entry are asked for at the entry's sizes. -/
def State.allocateEntry (s : State) (n : SlotId) (e : SceneEntry) : Except PlaceFail (Pool × List EntryId) :=
  s.pool.allocate n (allocationSizes s.rate e.algorithm (s.entryBank e))

/-- R119: an entry on an EMPTY slot. -/
def State.recallEmpty (s : State) (n : SlotId) (e : SceneEntry) : EntryOutcome :=
  if s.loadFits n e.algorithm.load then
    match s.allocateEntry n e with
    | .ok (p, es) => ((((s.setPool p).prepare n e.algorithm (s.entryBank e) es).takeRouting n e).joinWaiting n, true)
    | .error _ => (s, false)
  else (s, false)

/-- R119, R52: an entry on a PREPARING slot with its own algorithm. No check is made of it; where a line's replacement region cannot be
placed, the slot is EMPTY with POOL_SHORT and SLOT_EMPTY, and the recall counts it failed (R52, R123; DEDUCED, log 17). -/
def State.recallPreparing (s : State) (n : SlotId) (e : SceneEntry) : EntryOutcome :=
  let t := ((s.takeRouting n e).writeShadow n (s.entryBank e)).evalWritten n allParams
  if t.slots[n].state = .preparing then (t.joinWaiting n, true) else (t, false)

/-- R119: an entry on a PREPARING slot with another algorithm. -/
def State.recallReplace (s : State) (n : SlotId) (e : SceneEntry) : EntryOutcome :=
  if s.loadFits n e.algorithm.load then
    match s.allocateEntry n e with
    | .ok (p, es) =>
      (((((s.setPool p).giveBackLines s.slots[n].lines).prepare n e.algorithm (s.entryBank e) es).takeRouting n e).joinWaiting n,
        true)
    | .error _ => (s, false)
  else (s, false)

/-- R120: an entry through the fade of a RUNNING or MUTED slot. -/
def State.recallFade (s : State) (n : SlotId) (e : SceneEntry) (old : Alg) : EntryOutcome :=
  if s.loadFits n (max old.load e.algorithm.load) then
    (((s.beginFading n (some e.algorithm)).setEntry n (some e)).joinWaiting n, true)
  else (s, false)

/-- R120: an entry on a FADING slot. -/
def State.recallFading (s : State) (n : SlotId) (e : SceneEntry) (old : Alg) : EntryOutcome :=
  if s.loadFits n (max old.load e.algorithm.load) then
    (((s.setSlot n { s.slots[n] with next := some e.algorithm }).setEntry n (some e)).joinWaiting n, true)
  else (s, false)

/-- R118 to R120: an entry that is not skipped, by the slot's state. -/
def State.recallByState (s : State) (e : SceneEntry) (steps : Nat) : EntryOutcome :=
  let n := e.slot
  match s.slots[n].state, s.slots[n].algorithm with
  | .preparing, old => if old = some e.algorithm then s.recallPreparing n e else s.recallReplace n e
  | .running, some old => if old = e.algorithm then s.recallSame n e steps else s.recallFade n e old
  | .muted, some old => if old = e.algorithm then s.recallSame n e steps else s.recallFade n e old
  | .fading, some old => s.recallFading n e old
  | _, _ => s.recallEmpty n e

/-- R117: an entry is skipped, applied or failed, and counted so. A recall at the port's own address renews its own hold
(R139). -/
def State.recallEntry (p : Port) (generalCall : Bool) (steps : Nat) (s : State) (e : SceneEntry) : State :=
  if s.skips p generalCall e.slot then
    { s with recallRecord := { s.recallRecord with skipped := s.recallRecord.skipped + 1 } }
  else
    let r := s.recallByState e steps
    let t := if generalCall then r.1 else r.1.renew p e.slot
    if r.2 then { t with recallRecord := { t.recallRecord with applied := t.recallRecord.applied + 1 } }
    else { t with recallRecord := { t.recallRecord with failed := t.recallRecord.failed + 1 } }

/-! ### Recall: the decision (R115) -/

/-- R122: the origin of a recall. -/
def recallOrigin : Port → Bool → Origin
  | .a, false => .a
  | .b, false => .b
  | .a, true => .callA
  | .b, true => .callB

/-- R128, R129: a RUNNING recall is aborted. -/
def State.abortRecall (s : State) : State :=
  if s.recallRecord.state = .running then
    { s with recallRecord := { s.recallRecord with
        state := .aborted, lastAborted := s.recallRecord.scene } }.raiseBoth .recallDone
  else s

/-- R122: the record takes a new recall. -/
def State.openRecall (s : State) (k : SceneId) (o : Origin) : State :=
  { s with recallRecord := { s.recallRecord with
      state := .running, scene := some k, origin := o, applied := 0, skipped := 0, failed := 0, waiting := 0 } }

/-- R116: the scene's tempo is offered. -/
def State.offerTempo (s : State) (tempo : Option Nat) : State × TempoMark :=
  match tempo with
  | none => (s, .none)
  | some v => if s.tempo.mode = .control then (s.writeControl v, .taken) else (s, .ignored)

/-- R115: an accepted recall, in the order of its rule. -/
def State.carryOutRecall (s : State) (p : Port) (generalCall : Bool) (k : SceneId) (time : Option Nat) : Verdict :=
  let scene := s.scenes[k]
  let opened := s.abortRecall.openRecall k (recallOrigin p generalCall)
  let offered := opened.offerTempo scene.tempo
  let steps := s.rate.blocks (time.getD scene.morphTime)
  let settled := scene.entries.foldl (State.recallEntry p generalCall steps) offered.1
  let t := (if settled.recallRecord.waiting = 0 then settled.recallDone else settled).startClearing
  t.answerAccepted
    (byte1 t.recallRecord.applied ++ byte1 t.recallRecord.skipped ++ byte1 t.recallRecord.failed ++ [offered.2.code])

/-- RECALL (R115, R148, R154). -/
def recallDecision (p : Port) (generalCall : Bool) (body : List Byte) (s : State) : Verdict :=
  match body with
  | [scene, timeHi, timeLo] =>
    if s.power = .quiet then s.refuse .quiet
    else
      match sceneField scene, recallMorphField timeHi timeLo with
      | some k, some time =>
        match s.scenes[k].state with
        | .empty => s.refuse .empty
        | .valid =>
          if s.scenes[k].mismatched then (s.verifyScene k).refuse .corrupt
          else s.carryOutRecall p generalCall k time
        | .corrupt => s.refuse .corrupt
      | _, _ => s.refuse .range
  | _ => s.refuse .badLen

def execRecall (p : Port) (tag : Byte) (generalCall : Bool) (body : List Byte) (s : State) : Answer :=
  runCommand p { tag := tag, code := 0x24, generalCall := generalCall, body := body } (recallDecision p generalCall body) s

/-- R127: the morph entries of the listed slots are removed. -/
def State.abortMorphs (s : State) (slots : List SlotId) : State := slots.foldl State.removeMorph s

/-- R137: renews the listed slots the port holds. -/
def State.renewAll (s : State) (p : Port) (slots : List SlotId) : State := slots.foldl (fun t n => t.renew p n) s

/-- ABORT MORPH (R127, R136). -/
def abortMorphDecision (p : Port) (body : List Byte) (s : State) : Verdict :=
  match body with
  | [hi, lo] =>
    let slots := slotsOf (bits16 hi lo)
    if slots.any (s.heldByOther p) then s.refuseHeld p slots
    else
      ((s.abortMorphs slots).renewAll p slots).answerDone (byte1 (slots.filter fun n => s.morphs[n].isSome).length)
  | _ => s.refuse .badLen

def execAbortMorph (p : Port) (tag : Byte) (body : List Byte) (s : State) : Answer :=
  runCommand p (ownCommand tag 0x25 body) (abortMorphDecision p body) s

/-- The recall record as it is read (11.3). -/
def RecallRecord.report (r : RecallRecord) : List Byte :=
  [r.state.code] ++ r.scene.elim [0xFF] (fun k => byte1 k.val) ++ [r.origin.code] ++ byte1 r.applied ++ byte1 r.skipped
    ++ byte1 r.failed ++ maskBytes r.waiting ++ r.lastAborted.elim [0xFF] (fun k => byte1 k.val)

/-- READ RECALL (R122). -/
def readRecallDecision (body : List Byte) (s : State) : Verdict :=
  match body with
  | [] => { s with recallRecord := { s.recallRecord with lastAborted := none } }.answerDone s.recallRecord.report
  | _ => s.refuse .badLen

def execReadRecall (p : Port) (tag : Byte) (body : List Byte) (s : State) : Answer :=
  runCommand p (ownCommand tag 0x26 body) (readRecallDecision body) s

/-! ### The Morph Unit's step (R125) -/

/-- R125: the value of a parameter at step `k` of `total`. -/
def Alg.morphValue (a : Alg) (m : Morph) (k : Nat) (ix : ParamIx) : Int :=
  if a.discrete ix then (if k < ceilDiv m.total 2 then m.start[ix] else m.target[ix])
  else m.start[ix] + roundDivInt ((m.target[ix] - m.start[ix]) * k) m.total

/-- R125: the shadow bank with the step's values. The time of a bank left tempo-locked is not morphed: a step that writes the division
writes the derived time of that division with it, and any other leaves the derived time that stands (log 18). -/
def Alg.morphBank (a : Alg) (tempo : Nat) (m : Morph) (k : Nat) (b : Bank) : Bank :=
  let written := (paramsOf m.morphing).foldl (fun (acc : Bank) (ix : ParamIx) => acc.set ix (a.morphValue m k ix)) b
  if a.locked written then
    (if m.morphing.getLsbD divisionIx.val then a.withDerived tempo written else written.set timeIx b[timeIx])
  else written

/-- R125, R44: the indices the step writes: its morphing set, but for the time of a bank left tempo-locked, which is written with the
division. -/
def Alg.stepWrites (a : Alg) (tempo : Nat) (m : Morph) (k : Nat) (b : Bank) : List ParamIx :=
  allParams.filter fun ix =>
    m.morphing.getLsbD (if a.locked (a.morphBank tempo m k b) && ix == timeIx then divisionIx.val else ix.val)

/-- R125: one step of the slot's morph entry. -/
def State.morphStep (s : State) (n : SlotId) : State :=
  match s.morphs[n], s.slots[n].algorithm with
  | some m, some a =>
    let k := m.done + 1
    let t := ((s.setMorph n (some { m with done := k })).writeShadow n
      (a.morphBank s.tempo.applied m k s.slots[n].shadow)).evalWritten n
        (a.stepWrites s.tempo.applied m k s.slots[n].shadow)
    if m.total ≤ k then t.removeMorph n else t
  | _, _ => s

/-- R66: every entry of the Morph Table advances by one step, in slot order: the manual gives no order among the slots, and the order
decides who gets pool pages when two steps ask for growth (DESIGN CHOICE, log 40). -/
def State.morphSteps (s : State) : State := allSlots.foldl State.morphStep s

end Sys2Proof.Machine
end

