-- ==== Sys2Proof/Machine/Ports.lean ====
section
/-! DEFINITION. The control ports (chapter 9): the port commands (R157), UNKNOWN (R147), and the rows of the bus: address, message
end, result sent, read end, stop, timeout. -/

namespace Sys2Proof.Machine

/-! ### READ EVENTS, SET EVENT MASK, PORT RESET, unknown codes -/

/-- READ EVENTS (R157, R172): the flags are copied into the result and cleared. -/
def readEventsDecision (p : Port) (body : List Byte) (s : State) : Verdict :=
  match body with
  | [] => (s.setPort p { s.port p with flags := 0 }).answerDone (maskBytes (s.flagWord p))
  | _ => s.refuse .badLen

def execReadEvents (p : Port) (tag : Byte) (body : List Byte) (s : State) : Answer :=
  runCommand p (ownCommand tag 0x50 body) (readEventsDecision p body) s

/-- The event mask of a body: positions 14 and 15 must be 0 (R183). -/
def maskField (hi lo : Byte) : Option (BitVec 14) :=
  if (bits16 hi lo).getLsbD 14 || (bits16 hi lo).getLsbD 15 then none else some ((bits16 hi lo).setWidth 14)

/-- SET EVENT MASK (R157, R173). -/
def setEventMaskDecision (p : Port) (body : List Byte) (s : State) : Verdict :=
  match body with
  | [hi, lo, enable] =>
    match maskField hi lo, boolField enable with
    | some m, some on => (s.setPort p { s.port p with mask := m, callEnable := on }).answerDone
    | _, _ => s.refuse .range
  | _ => s.refuse .badLen

def execSetEventMask (p : Port) (tag : Byte) (body : List Byte) (s : State) : Answer :=
  runCommand p (ownCommand tag 0x51 body) (setEventMaskDecision p body) s

/-- R175: a result being sent is discarded; the read goes on with bytes of 0xFF. -/
def PortLink.voided : PortLink → PortLink
  | .sending (.result _) => .sending .voided
  | k => k

/-- R157, R162, R175: what a PORT RESET does to the issuing port's record. -/
def PortState.portReset (v : PortState) : PortState :=
  { v with link := v.link.voided, commands := [], results := [], flags := 0, mask := 0, callEnable := true, lease := 40 }

/-- PORT RESET (R142, R157, R175). -/
def portResetDecision (p : Port) (body : List Byte) (s : State) : Verdict :=
  match body with
  | [] => ((s.releaseHolds p allSlots).setPort p (s.port p).portReset).answerDone
  | _ => s.refuse .badLen

def execPortReset (p : Port) (tag : Byte) (body : List Byte) (s : State) : Answer :=
  runCommand p (ownCommand tag 0x52 body) (portResetDecision p body) s

/-- R147: a code that is not in the list is refused with UNKNOWN. A known code makes another row (log 1). -/
def execUnknownCommand (p : Port) (tag code : Byte) (body : List Byte) (s : State) : Answer :=
  if commandCodes.contains code then .next s
  else runCommand p (ownCommand tag code body) (fun t => t.refuse .unknown) s

/-! ### Bytes and the end of a message (R165, R166) -/

/-- R165: a data byte of a write: stored while the buffer holds fewer than 64 bytes, and a mark when it does not. -/
def PortState.takeByte (v : PortState) (b : Byte) : PortState :=
  if v.buffer.length < 64 then { v with link := .receiving, buffer := v.buffer ++ [b] }
  else { v with link := .receiving, tooLong := true }

/-- The data bytes of a write in order (log 7). -/
def PortState.takeBytes (v : PortState) (bytes : List Byte) : PortState := bytes.foldl PortState.takeByte v

/-- Whether a write is in progress. -/
def PortState.writing (v : PortState) : Bool := v.link == .addressed || v.link == .receiving

/-- The tag and the code held: the first and second bytes, or 0 for a byte not received (R166). -/
def PortState.heldTag (v : PortState) : Byte := v.buffer.getD 0 0
def PortState.heldCode (v : PortState) : Byte := v.buffer.getD 1 0

/-- R166: the status of the first check that fails, `none` when the message passes every check. -/
def PortState.framingFault (v : PortState) : Option Status :=
  if v.buffer.length < 4 then some .badFrame
  else if v.tooLong then some .tooLong
  else if (v.buffer.getD 2 0).toNat ≠ v.buffer.length - 4 then some .badFrame
  else if v.buffer.getD (v.buffer.length - 1) 0 ≠ crc8 v.buffer.dropLast then some .badCrc
  else if v.callMark && !generalCallCodes.contains v.heldCode then some .notGeneral
  else none

/-- R166: the command a message makes. -/
def PortState.heldCommand (v : PortState) : Command :=
  { tag := v.heldTag, code := v.heldCode, generalCall := v.callMark, body := (v.buffer.drop 3).dropLast }

/-- A result made at the port (R166, R171). -/
def PortState.portResult (v : PortState) (st : Status) : Result :=
  { tag := v.heldTag, code := v.heldCode, status := st, body := [] }

/-- The port with no transaction under way and nothing of a message held (log 7). -/
def PortState.atRest (v : PortState) : PortState :=
  { v with link := .idle, buffer := [], callMark := false, tooLong := false }

/-- R166: the message ends: it becomes a result made at the port, or a command. The reserved credit passes to it. -/
def PortState.endMessage (v : PortState) : PortState :=
  match v.framingFault with
  | some st => { v.atRest with results := v.results ++ [v.portResult st] }
  | none => { v.atRest with commands := v.commands ++ [v.heldCommand] }

/-- R164: what a START, a repeated START or a STOP ends: a message or a read. -/
def PortState.endTransaction (v : PortState) : PortState := if v.writing then v.endMessage else v.atRest

/-- MESSAGE_END: the write in progress takes its data bytes and ends (R164 to R166, log 7). -/
def execMessageEnd (p : Port) (bytes : List Byte) (s : State) : Answer :=
  if (s.port p).writing then .next (s.setPort p ((s.port p).takeBytes bytes).endMessage) else .next s

/-! ### The address byte (R163) -/

/-- R170: the idle record: the event flag word and the free credits. -/
def State.idleRecord (s : State) (p : Port) : Result :=
  { tag := 0, code := 0, status := .none, body := maskBytes (s.flagWord p) ++ byte1 (s.port p).creditsFree }

/-- R169: the record chosen for a read: the oldest result, or the idle record. -/
def State.chosenRecord (s : State) (p : Port) : Sending :=
  match (s.port p).results with
  | r :: _ => .result r
  | [] => .idle (s.idleRecord p)

/-- R163: a write address acknowledged: a credit is reserved, the buffer emptied and the general-call mark set or cleared. -/
def PortState.addressed (v : PortState) (mark : Bool) : PortState :=
  { v with link := .addressed, buffer := [], callMark := mark, tooLong := false }

/-- R163: the judgement of an address byte by a port between transactions, in READY and QUIET. -/
def State.judgeAddress (s : State) (p : Port) (address : BitVec 7) (direction : Direction) : State :=
  let v := s.port p
  match direction with
  | .write =>
    if address = v.ownAddress then
      s.setPort p (if 0 < v.creditsFree then v.addressed false else { v with link := .ignoring })
    else if address = 0 ∧ v.callEnable = true then
      (if 0 < v.creditsFree then s.setPort p (v.addressed true)
       else (s.setPort p { v with link := .ignoring }).raise p .gcMissed)
    else s.setPort p { v with link := .ignoring }
  | .read =>
    if address = v.ownAddress then s.setPort p { v with link := .sending (s.chosenRecord p), sent := [] }
    else s.setPort p { v with link := .ignoring }

/-- I2C_ADDRESS: a START or repeated START ends what the port was doing (R164), and the address byte is judged (R163; log 8). -/
def execI2cAddress (p : Port) (address : BitVec 7) (direction : Direction) (s : State) : Answer :=
  if s.power = .starting then .next (s.setPort p { s.port p with link := .ignoring })
  else .next ((s.setPort p (s.port p).endTransaction).judgeAddress p address direction)

/-! ### Reads, stops and the timeout -/

/-- R169: the read after a byte that the controller acknowledged or did not: after the latter the port releases SDA. -/
def Sending.after (k : Sending) (acked : Bool) : Sending := if acked then k else .released

/-- R169: the next byte of a record, 0xFF past its end. -/
def PortState.nextByte (v : PortState) (r : Result) : Byte := r.bytes.getD v.sent.length 0xFF

/-- R169: the CRC byte of a result is out: the result leaves the queue and its credit is free. -/
def PortState.resultOut (v : PortState) (r : Result) (acked : Bool) : PortState :=
  { v with link := .sending (Sending.whole.after acked), sent := r.bytes, results := v.results.tail }

/-- R164, R169, R175: one byte clocked in SENDING: the next of the record, 0xFF past its end or after a PORT RESET, or none once SDA is
released. -/
def PortState.sendByte (v : PortState) (acked : Bool) : PortState :=
  match v.link with
  | .sending (.result r) =>
    if r.bytes.length ≤ v.sent.length + 1 then v.resultOut r acked
    else { v with link := .sending ((Sending.result r).after acked), sent := v.sent ++ [v.nextByte r] }
  | .sending (.idle r) => { v with link := .sending ((Sending.idle r).after acked), sent := v.sent ++ [v.nextByte r] }
  | .sending .whole => { v with link := .sending (Sending.whole.after acked), sent := v.sent ++ [0xFF] }
  | .sending .voided => { v with link := .sending (Sending.voided.after acked), sent := v.sent ++ [0xFF] }
  | _ => v

/-- The bytes clocked in a read, with the controller's acknowledge of each (log 34). -/
def PortState.sendBytes (v : PortState) (acks : List Bool) : PortState := acks.foldl PortState.sendByte v

/-- RESULT_SENT: the bytes of the result being sent are out, up to the CRC byte, which the controller acknowledges or not (R169). -/
def execResultSent (last : LastByte) (s : State) : Answer :=
  match (s.port last.port).link with
  | .sending (.result r) => .next (s.setPort last.port ((s.port last.port).resultOut r last.acked))
  | _ => .next s

/-- Whether a read is under way. -/
def PortLink.reading : PortLink → Bool
  | .sending _ => true
  | _ => false

/-- READ_END: the read sends the bytes the controller clocks and ends; a result whose CRC byte is not out stays at the head of the
queue, whole (R169). -/
def execReadEnd (r : ReadClocks) (s : State) : Answer :=
  if (s.port r.port).link.reading then .next (s.setPort r.port { (s.port r.port).sendBytes r.acks with link := .idle })
  else .next s

/-- BUS_STOP: a STOP ends what the port was doing, as R164 gives, after the bytes of a read that the controller clocks. -/
def execBusStop (r : ReadClocks) (s : State) : Answer :=
  .next (s.setPort r.port ((s.port r.port).sendBytes r.acks).endTransaction)

/-- BUS_TIMEOUT: SCL low for more than 30 ms, in READY and in QUIET. A write, after the data bytes it took, becomes an ABORTED result;
a read or an ignored transaction ends (R171). -/
def execBusTimeout (p : Port) (bytes : List Byte) (s : State) : Answer :=
  if s.power = .starting then .next s
  else if (s.port p).writing then
    let v := (s.port p).takeBytes bytes
    .next (s.setPort p { v.atRest with results := v.results ++ [v.portResult .aborted] })
  else .next (s.setPort p { s.port p with link := .idle })

end Sys2Proof.Machine
end

