-- ==== Sys2Proof/Machine/Voice.lean ====
section
/-! DEFINITION. The Voice Engine and the Audio Port (chapter 3): fades and gains, the work of a block end, the processing of a block,
and the rows of frames, clock loss and reported ends. -/

namespace Sys2Proof.Machine

/-! ### Gains and fades -/

/-- R61: the gain a fade stands at with `left` blocks to come. -/
def Fade.valueAt (f : Fade) (left : Nat) : Rat :=
  f.start + (f.target - f.start) * ((f.length - left : Nat) : Rat) / (f.length : Rat)

/-- A new fade from a gain (R63, R68). -/
def newFade (start target : Rat) (length : Nat) : Fade := { start := start, target := target, length := length, left := length }

/-- The gain after one more block. -/
def Fade.next (f : Fade) : Rat := f.valueAt (f.left - 1)

/-- A fade with one block fewer to come. -/
def Fade.step (f : Fade) : Fade := { f with left := f.left - 1 }

/-- R72: a fade that takes its target at once. -/
def GainFade.settled (g : GainFade) : GainFade :=
  match g.fade with
  | some f => { value := f.target, fade := none }
  | none => g

/-- R68: the end of a fade with no blocks left. -/
def GainFade.finished (g : GainFade) : GainFade :=
  match g.fade with
  | some f => if f.left = 0 then { value := f.target, fade := none } else g
  | none => g

/-- The return gain's part after one more block. -/
def GainFade.next (g : GainFade) : Rat :=
  match g.fade with
  | some f => f.next
  | none => g.value

/-- A return gain after a block is processed. -/
def GainFade.step (g : GainFade) : GainFade := { value := g.next, fade := g.fade.map Fade.step }

/-- R68, R181: the Voice Engine starts a fade of the supply gain; while it is stopped or the clock is LOST the gain takes its target at
once (R72). -/
def State.fadeSupply (s : State) (target : Rat) (length : Nat) : State :=
  if s.audio.clock = .lost ∨ s.stopped = true then { s with supplyGain := { value := target, fade := none } }
  else { s with supplyGain := { s.supplyGain with fade := some (newFade s.supplyGain.value target length) } }

/-- R69, R72: the quiet fade ends: the gain is 0, the end is reported and the Voice Engine stops. -/
def State.endQuietFade (s : State) : State :=
  { s with quietGain := { value := 0, fade := none }, quietReport := true, stopped := true }

/-- R69, R72: the quiet fade starts from the present quiet gain; while the clock is LOST it ends at once. -/
def State.startQuietFade (s : State) : State :=
  if s.audio.clock = .lost then s.endQuietFade
  else { s with quietGain := { s.quietGain with fade := some (newFade s.quietGain.value 0 16) } }

/-! ### Hand-offs of a block end (R62, R66, R71) -/

/-- R71: the feed byte of a block: the lower 8 of the 24 bits of send 0 in its first frame. -/
def feedByte (sends : List (Vector Sample 8)) : Byte :=
  match sends with
  | frame :: _ => frame[0].setWidth 8
  | [] => 0

/-- R71: the Audio Port feeds the Random Generator. -/
def State.feed (s : State) (sends : List (Vector Sample 8)) : State :=
  s.setModulation (s.modulation.absorb (feedByte sends))

/-- R66: each LFO advances by one block. -/
def State.stepLfos (s : State) : State := s.setModulation s.modulation.stepAll

/-- R62: the clip flag of one slot. -/
def State.handPeak (s : State) (n : SlotId) : State :=
  if s.voices[n].peak then s.setSlot n { s.slots[n] with clip := true } else s

/-- R62: the peaks of the block just sent set the slots' clip flags, and CLIP when there is any. -/
def State.handPeaks (s : State) : State :=
  let t := allSlots.foldl State.handPeak s
  if allSlots.any (fun n => s.voices[n].peak) then t.raiseBoth .clip else t

/-! ### Begin, swap, and the gains of a returned clock (R59, R60, R67) -/

/-- R60: the fade a slot begins with. -/
def beginFade : SlotState → Option Fade
  | .running => some (newFade 0 1 8)
  | .fading => some (newFade 0 0 16)
  | _ => none

/-- R19, R67: the shadow bank becomes the active bank. -/
def State.swap (s : State) (n : SlotId) : State :=
  s.setSlot n { s.slots[n] with active := s.slots[n].shadow, swapPending := false }

/-- R60: the Voice Engine acts on a begin request. -/
def State.beginSlot (s : State) (n : SlotId) : State :=
  (s.swap n).setVoice n { s.voices[n] with
    begun := true, beginRequested := false, gain := 0, fade := beginFade s.slots[n].state, glides := [], modulation := none }

/-- R60, R67: a slot begins if that is requested, and swaps if it is begun and a swap is pending. -/
def State.beginOrSwap (s : State) (n : SlotId) : State :=
  if s.voices[n].beginRequested then s.beginSlot n
  else if s.voices[n].begun && s.slots[n].swapPending then s.swap n
  else s

/-- R59: the gain and fade of a begun slot at the first block end after a return. -/
def Voice.returned (v : Voice) : SlotState → Voice
  | .running => { v with gain := 0, fade := some (newFade 0 1 8) }
  | .muted => { v with gain := 0, fade := none }
  | .fading => { v with gain := 0, fade := v.fade.map fun f => { f with start := 0 } }
  | _ => v

/-- R59: the table, for one slot. -/
def State.returnSlot (s : State) (n : SlotId) : State :=
  if s.voices[n].begun then s.setVoice n (s.voices[n].returned s.slots[n].state) else s

/-- R59: the table is applied once after each return. -/
def State.returnApplied (s : State) : State := { s with audio := { s.audio with returnDue := false } }

/-- R59: the table for every slot, when it is due. -/
def State.applyReturn (s : State) : State :=
  if s.audio.returnDue then (allSlots.foldl State.returnSlot s).returnApplied else s

/-! ### Line lengths (R40, R47, R50, R64, R65) -/

/-- The crossfade of a line, if it runs. -/
def Voice.crossfadeOf (v : Voice) (l : LineId) : Option Crossfade := v.crossfades.find? fun x => x.line == l

/-- R46, R47: the region the Voice Engine hears a line from: the retiring one until the line's crossfade starts. -/
def State.voiceRegion (s : State) (n : SlotId) (l : LineId) (ln : Line) : EntryId :=
  match ln.retiring with
  | some old =>
    if (s.voices[n].crossfadeOf l).isSome || s.crossfadeReports.contains (n, l) then ln.current else old
  | none => ln.current

/-- R40, R50, R65: the length a line moves to: what its parameters ask, or while the line is short the usable length of the region
it is heard from (log 15). -/
def State.lineTarget (s : State) (n : SlotId) (a : Alg) (l : LineId) (ln : Line) : Rat :=
  if s.pool.countOf (s.voiceRegion n l ln) < requiredPages s.rate a s.slots[n].active l then
    usableLength (s.pool.countOf (s.voiceRegion n l ln))
  else lineAsked s.rate a s.slots[n].active l

/-- R65: a glide towards a new target, over the glide time now active. -/
def newGlide (l : LineId) (delay target : Rat) (blocks : Nat) : Glide :=
  if blocks = 0 then { line := l, delay := target, target := target, left := 0 }
  else { line := l, delay := delay, target := target, left := blocks }

/-- R65: the glide state of a line at a block end. `changed` says whether this block end's swap changed the line's time; a line of a slot
just begun has no glide state and starts at its target; a read delay beyond the usable length is cut. -/
def nextGlide (l : LineId) (old : Option Glide) (target : Rat) (usable blocks : Nat) (changed : Bool) : Glide :=
  match old with
  | none => newGlide l target target 0
  | some g =>
    let cut := min g.delay (usable : Rat)
    if changed || g.target != target then newGlide l cut target blocks else { g with delay := cut }

/-- The glide state of a line, if the Voice Engine keeps one. -/
def Voice.glideOf (v : Voice) (l : LineId) : Option Glide := v.glides.find? fun g => g.line == l

/-- R65: the glide states of a slot at a block end; `before` is its active bank before the swap. -/
def State.glidesOf (s : State) (n : SlotId) (a : Alg) (before : Bank) : List Glide :=
  a.lines.filterMap fun l =>
    (s.slots[n].lines[l.val]?).map fun ln =>
      nextGlide l (s.voices[n].glideOf l) (s.lineTarget n a l ln)
        (usableLength (s.pool.countOf (s.voiceRegion n l ln))) (a.glideBlocks s.rate s.slots[n].active)
        (a.timeDriven && a.lineTime s.slots[n].active l != a.lineTime before l)

/-- R65, R67: a begun slot's line lengths and input follow its new active bank. -/
def State.followBank (before : Vector Slot 16) (s : State) (n : SlotId) : State :=
  if s.voices[n].begun then
    let t := match s.slots[n].algorithm with
      | some a => s.setVoice n { s.voices[n] with glides := s.glidesOf n a before[n].active }
      | none => s
    t.followInput n
  else s

/-! ### Ended fades (R63, R64, R68, R69) -/

/-- R63: a slot's fade with no blocks left is removed at its target; an end fade, of 16 blocks, is reported. -/
def State.finishFade (s : State) (n : SlotId) : State :=
  match s.voices[n].fade with
  | some f =>
    if f.left = 0 then
      let t := s.setVoice n { s.voices[n] with gain := f.target, fade := none }
      if f.length = 16 then { t with fadeReports := t.fadeReports ++ [n] } else t
    else s
  | none => s

/-- R64: a slot's crossfades with no blocks left are removed and reported. -/
def State.finishCrossfades (s : State) (n : SlotId) : State :=
  if s.voices[n].begun then
    let ended := s.voices[n].crossfades.filter fun x => x.left == 0
    { s.setVoice n { s.voices[n] with crossfades := s.voices[n].crossfades.filter fun x => x.left != 0 } with
      crossfadeReports := s.crossfadeReports ++ ended.map fun x => (n, x.line) }
  else s

/-- R63, R64: the ended fades and crossfades of every slot, in slot order. -/
def State.finishFades (s : State) : State :=
  allSlots.foldl (fun t n => (t.finishFade n).finishCrossfades n) s

/-- R68: a supply gain fade with no blocks left is removed at its target. -/
def State.finishSupply (s : State) : State := { s with supplyGain := s.supplyGain.finished }

/-- R69: whether the block end finds the quiet fade with no blocks left. -/
def State.quietFadeOver (s : State) : Bool := s.quietGain.fade.any fun f => f.left == 0

/-! ### Processing a block (R61, R62) -/

/-- R61: brought to full scale. -/
def saturate (x : Int) : Int := max (-8388608) (min 8388607 x)

/-- A return sample after the return gain, as a whole value (log 10). -/
def roundSample (up : Bool) (q : Rat) : Int := if q.den = 1 then q.num else if up then q.floor + 1 else q.floor

/-- R61: a gain that moves from `g0` to `g1` in the block, at sample `i` (log 11). -/
def rampAt (g0 g1 : Rat) (i : Nat) : Rat := g0 + (g1 - g0) * (i : Rat) / 32

/-- The gain of a voice after one more block. -/
def Voice.nextGain (v : Voice) : Rat :=
  match v.fade with
  | some f => f.next
  | none => v.gain

/-- R61: the sum of the sends in a send set. -/
def sendSum (set : SendSet) (frame : Vector Sample 8) : Int :=
  (((List.finRange 8).filter fun c => set.getLsbD c.val).map fun c => frame[c].toInt).sum

/-- R61: the algorithm's input in a frame; a closed input feeds zeros. -/
def State.slotInput (s : State) (n : SlotId) (frame : Vector Sample 8) : Int :=
  if s.voices[n].inputOpen then sendSum s.slots[n].sendSet frame else 0

/-- R101: the modulation a bound slot takes in the block; a binding that is new starts without a ramp (log 28). -/
def State.modulationOf (s : State) (n : SlotId) : Option Modulation :=
  match s.slots[n].boundLfo, s.slots[n].algorithm with
  | some k, some a =>
    let out := (s.modulation.lfos[k]).output
    let start := match s.voices[n].modulation with
      | some m => if m.lfo = k then m.finish else out
      | none => out
    some { lfo := k, start := start, finish := out, depth := s.slots[n].active[a.depthIx] }
  | _, _ => none

/-- R96: an LFO's output as a modulation value. -/
def LfoOutput.value : LfoOutput → ModValue
  | .exact v => { exact := v, sines := [] }
  | .sine p => { exact := 0, sines := [(1, p)] }

/-- A modulation value times a factor. -/
def scaleValue (c : Rat) (m : ModValue) : ModValue :=
  { exact := c * m.exact, sines := m.sines.map fun t => (c * t.1, t.2) }

/-- The sum of two modulation values. -/
def addValues (m o : ModValue) : ModValue := { exact := m.exact + o.exact, sines := m.sines ++ o.sines }

/-- R101: the modulation at sample `i` of the block: a straight line between the two outputs, scaled by the depth as a share of 100
(log 11). -/
def Modulation.at (m : Modulation) (i : Nat) : ModValue :=
  scaleValue ((m.depth : Rat) / 100)
    (addValues (scaleValue (1 - (i : Rat) / 32) m.start.value) (scaleValue ((i : Rat) / 32) m.finish.value))

/-- R65: the length a line is read at in sample `i` of the block (log 11). -/
def Glide.lengthAt (g : Glide) (i : Nat) : Rat :=
  if g.left = 0 then g.delay else g.delay + (g.target - g.delay) / (g.left : Rat) * ((i : Rat) / 32)

/-- R64: the weight of the retiring region's signal in sample `i` of the block: the blocks left over 16, moving linearly. -/
def Crossfade.weightAt (x : Crossfade) (i : Nat) : Rat := ((x.left : Rat) - (i : Rat) / 32) / 16

/-- R64, R65: how a line is read in sample `i` of the block. -/
def Voice.lineDrive (v : Voice) (i : Nat) (g : Glide) : LineDrive :=
  { length := g.lengthAt i, retiring := (v.crossfadeOf g.line).map fun x => (x.oldLength, x.weightAt i) }

/-- R61: what a slot's algorithm runs on in sample `i` of the block. -/
def State.driveAt (s : State) (n : SlotId) (i : Nat) (frame : Vector Sample 8) : Drive :=
  { input := s.slotInput n frame, bank := s.slots[n].active, feedback := s.slots[n].feedback,
    lines := s.voices[n].glides.map (s.voices[n].lineDrive i), modulation := (s.modulationOf n).map (·.at i) }

/-- The slot's level in half-decibels (section 1.3.1). -/
def Slot.level (sl : Slot) : Int := sl.algorithm.elim 0 fun a => sl.active[a.levelIx]

/-- The largest whole number whose 40th power is at most `m`, bit by bit from the highest. -/
def root40 (m : Nat) : Nat :=
  (List.range (m.log2 / 40 + 1)).foldr (fun i acc => if (acc + 2 ^ i) ^ 40 ≤ m then acc + 2 ^ i else acc) 0

/-- The 40th power of the magnitude of q · 10^(level / 40), as a fraction: numerator and denominator. -/
def levelPower (q : Rat) (level : Int) : Nat × Nat :=
  (q.num.natAbs ^ 40 * 10 ^ level.toNat, q.den ^ 40 * 10 ^ (-level).toNat)

/-- A sample scaled by a level of `level` half-decibels, a factor 10^(level / 40) (log 39), as a whole value: where it falls between two,
`up` says which (log 10). -/
def levelled (up : Bool) (q : Rat) (level : Int) : Int :=
  let p := levelPower q level
  let n := root40 (p.1 / p.2)
  if n ^ 40 * p.2 = p.1 then (if q < 0 then -(n : Int) else n)
  else if q < 0 then (if up then -(n : Int) else -(n : Int) - 1)
  else (if up then (n : Int) + 1 else n)

/-- R61: a sample of a slot's output pair before saturation: the algorithm's output scaled by the slot's level and gain. -/
def State.rawSample (s : State) (n : SlotId) (i channel : Nat) (frame : Vector Sample 8) : Int :=
  levelled (Config.slotRoundsUp s.fresh n.val i channel)
    ((Config.algorithmOutput s.fresh n.val i channel (s.driveAt n i frame) : Rat)
      * rampAt s.voices[n].gain s.voices[n].nextGain i) s.slots[n].level

/-- R61: the slots whose outputs a return pair sums. -/
def State.onPair (s : State) (pair : Nat) : List SlotId :=
  allSlots.filter fun n => s.voices[n].begun && s.slots[n].returnPair.val == pair

/-- R61, R68: the supply gain times the quiet gain at sample `i`. -/
def State.returnGainAt (s : State) (i : Nat) : Rat :=
  rampAt s.supplyGain.value s.supplyGain.next i * rampAt s.quietGain.value s.quietGain.next i

/-- R61: the sample of return channel `c` in frame `i`. -/
def State.returnSample (s : State) (i c : Nat) (frame : Vector Sample 8) : Sample :=
  let sum := ((s.onPair (c / 2)).map fun n => saturate (s.rawSample n i (c % 2) frame)).sum
  BitVec.ofInt 24 (saturate (roundSample (Config.returnRoundsUp s.fresh i c) ((sum : Rat) * s.returnGainAt i)))

/-- R61: the return words of frame `i`. -/
def State.returnFrame (s : State) (i : Nat) (frame : Vector Sample 8) : Vector Sample 16 :=
  (List.finRange 16).foldl (fun (acc : Vector Sample 16) (c : Fin 16) => acc.set c (s.returnSample i c.val frame)) (Vector.replicate 16 0)

/-- R61: the 32 frames of returns of a block. -/
def State.returnFrames (s : State) : Nat → List (Vector Sample 8) → List (Vector Sample 16)
  | _, [] => []
  | i, frame :: rest => s.returnFrame i frame :: s.returnFrames (i + 1) rest

/-- R62: whether some sample of the slot's output pair is saturated in the block. -/
def State.saturates (s : State) (n : SlotId) : Nat → List (Vector Sample 8) → Bool
  | _, [] => false
  | i, frame :: rest =>
    saturate (s.rawSample n i 0 frame) != s.rawSample n i 0 frame
      || saturate (s.rawSample n i 1 frame) != s.rawSample n i 1 frame || s.saturates n (i + 1) rest

/-- R65: a glide after a block. -/
def Glide.step (g : Glide) : Glide :=
  if g.left = 0 then g
  else { g with delay := g.delay + (g.target - g.delay) / (g.left : Rat), left := g.left - 1 }

/-- R61 to R65: a voice record after a block is processed. -/
def State.stepVoice (s : State) (n : SlotId) (sends : List (Vector Sample 8)) : Voice :=
  let v := s.voices[n]
  if v.begun then
    { v with
      gain := v.nextGain, fade := v.fade.map Fade.step, peak := s.saturates n 0 sends,
      crossfades := v.crossfades.map fun x => { x with left := x.left - 1 },
      glides := v.glides.map Glide.step, modulation := s.modulationOf n }
  else { v with peak := false }

/-- R61, R64: the regions the Voice Engine writes for a line: both in a crossfade, frozen or not, else the one it is heard from. Outside a
crossfade a line of a frozen slot recirculates what it holds without loss (R17): its region keeps its words (DEDUCED, log 38). -/
def State.writtenRegions (s : State) (n : SlotId) (l : LineId) (ln : Line) : List EntryId :=
  if (s.voices[n].crossfadeOf l).isSome then ln.regions
  else if s.slots[n].frozen then []
  else [s.voiceRegion n l ln]

/-- The regions written for a begun slot. -/
def State.slotRegions (s : State) (n : SlotId) : List EntryId :=
  if s.voices[n].begun then
    allLines.flatMap fun l => (s.slots[n].lines[l.val]?).elim [] fun ln => s.writtenRegions n l ln
  else []

/-- R61: every begun slot's block is processed: returns, voice records, delay memory and return gains. -/
def State.processBlock (s : State) (sends : List (Vector Sample 8)) : State :=
  let voices := allSlots.foldl (fun (acc : Vector Voice 16) (n : SlotId) => acc.set n (s.stepVoice n sends)) s.voices
  let pool := (allSlots.flatMap s.slotRegions).foldl (fun p e => p.writeRegion e s.fresh) s.pool
  { s with
    audio := { s.audio with returns := s.returnFrames 0 sends }, voices := voices, pool := pool,
    supplyGain := s.supplyGain.step, quietGain := s.quietGain.step, fresh := s.fresh + 1 }

/-! ### The block end (R56, R66, R67, R70) -/

/-- R66, R62: the hand-offs of a block end of the running Voice Engine. -/
def State.handOff (s : State) : State := s.stepLfos.morphSteps.handPeaks

/-- R60, R67, R59: begin, swap, the gains of a return, glides and inputs. -/
def State.takeUp (s : State) : State :=
  allSlots.foldl (State.followBank s.slots) (allSlots.foldl State.beginOrSwap s).applyReturn

/-- A block end at which nothing is processed: the returns carry zeros. -/
def State.silentBlock (s : State) : State := { s with audio := { s.audio with returns := [], returnDue := false } }

/-- The block end of the running Voice Engine. A quiet fade found with no blocks left is reported, and the engine stops (R69). -/
def State.soundingBlockEnd (s : State) (sends : List (Vector Sample 8)) : State :=
  let t := s.handOff.takeUp.finishFades.finishSupply
  (if t.quietFadeOver then t.endQuietFade.silentBlock else t.processBlock sends).startClearing

/-- R56, R70: a block end: the feed, and the rest while the Voice Engine runs (log 13). -/
def State.blockEnd (s : State) (sends : List (Vector Sample 8)) : State :=
  let t := s.feed sends
  if t.stopped then t.silentBlock else t.soundingBlockEnd sends

/-! ### Frames and the clock (R55 to R59) -/

/-- R55: the sample of a time slot: its upper 24 bits. -/
def sampleOf (w : AudioWord) : Sample := w.extractLsb' 8 24

/-- R55: the time slot that carries a sample, its lower 8 bits 0. -/
def wordOf (x : Sample) : AudioWord := x ++ 0#8

/-- R55: the sends of a frame, from time slots 0 to 7. -/
def sendsOf (words : Vector AudioWord 16) : Vector Sample 8 :=
  #v[sampleOf words[0], sampleOf words[1], sampleOf words[2], sampleOf words[3], sampleOf words[4], sampleOf words[5],
     sampleOf words[6], sampleOf words[7]]

/-- R55, R58: the words driven in a frame; zeros when no return is to be sent. -/
def drivenWords : List (Vector Sample 16) → Vector AudioWord 16
  | [] => Vector.replicate 16 0
  | r :: _ => (List.finRange 16).foldl (fun (acc : Vector AudioWord 16) (c : Fin 16) => acc.set c (wordOf r[c])) (Vector.replicate 16 0)

/-- R55: a frame sync starts a frame. A frame still open is ended incomplete: it is not taken, and the return words that would have
filled it are not sent (log 35). -/
def Audio.startFrame (a : Audio) : Audio :=
  { a with missed := 0, frameOpen := true, returns := if a.frameOpen then a.returns.tail else a.returns }

/-- FRAME_SYNC: the missed count is cleared and a frame starts; the first one in LOST makes the clock PRESENT (R55, R57, R59). -/
def execFrameSync (s : State) : Answer :=
  if s.power = .starting then .next s
  else
    match s.audio.clock with
    | .present => .next { s with audio := s.audio.startFrame }
    | .lost =>
      .next ({ s with audio := { s.audio with
        clock := .present, missed := 0, frameOpen := true, returnDue := true, sends := [], returns := [] } }.raiseBoth .audioLost)

/-- R55, R56: the frame is taken: its returns are driven and its sends join the block. -/
def Audio.takeFrame (a : Audio) (words : Vector AudioWord 16) : Audio :=
  { a with frameOpen := false, output := drivenWords a.returns, returns := a.returns.tail, sends := a.sends ++ [sendsOf words] }

/-- FRAME_TAKEN: a frame with its 512 bit clocks is taken; the 32nd of a block is the block end (R55, R56). -/
def execFrameTaken (words : Vector AudioWord 16) (s : State) : Answer :=
  if s.power ≠ .starting ∧ s.audio.clock = .present ∧ s.audio.frameOpen = true then
    let a := s.audio.takeFrame words
    if a.sends.length < 32 then .next { s with audio := a }
    else .next ({ s with audio := { a with sends := [] } }.blockEnd a.sends)
  else .next s

/-- R58: the Audio Port at a loss. -/
def Audio.lost (a : Audio) : Audio :=
  { a with clock := .lost, missed := 4, frameOpen := false, returnDue := false, sends := [], returns := [],
           output := Vector.replicate 16 0 }

/-- R101: after a loss a slot's modulation starts anew (log 28). -/
def State.dropModulationOf (s : State) (n : SlotId) : State := s.setVoice n { s.voices[n] with modulation := none }

/-- The same for every slot. -/
def State.dropModulation (s : State) : State := allSlots.foldl State.dropModulationOf s

/-- CLOCK_LOST: the missed count reaches 4 while PRESENT (R57, R58, R72). -/
def execClockLost (s : State) : Answer :=
  if s.power ≠ .starting ∧ s.audio.clock = .present then
    let t := { s.dropModulation with audio := s.audio.lost, supplyGain := s.supplyGain.settled }
    .next ((if t.quietGain.fade.isSome then t.endQuietFade else t).raiseBoth .audioLost)
  else .next s

/-! ### The reported ends -/

/-- FADE_END: the Slot Controller takes the report of a slot's fade end; a slot that is no longer FADING ignores it (R12, R63,
R179). -/
def execFadeEnd (n : SlotId) (s : State) : Answer :=
  if s.fadeReports.contains n then
    let t := { s with fadeReports := s.fadeReports.filter (· != n) }
    .next (if t.slots[n].state = .fading then (t.fadeEnded n).startClearing else t)
  else .next s

/-- R48: the retiring region goes back and the line's growth ends. -/
def State.crossfadeEnded (s : State) (n : SlotId) (l : LineId) : State :=
  match s.slots[n].lines[l.val]? with
  | some ln =>
    match ln.retiring with
    | some old => ((s.setPool (s.pool.giveBack old)).setLine n l { ln with retiring := none }).growthEnd n l
    | none => s
  | none => s

/-- CROSSFADE_END: the Slot Controller takes the report of a line's crossfade end; it is ignored where no retiring region is left
(R48). -/
def execCrossfadeEnd (n : SlotId) (l : LineId) (s : State) : Answer :=
  if s.crossfadeReports.contains (n, l) then
    .next ({ s with crossfadeReports := s.crossfadeReports.filter (· != (n, l)) }.crossfadeEnded n l).startClearing
  else .next s

/-- QUIET_FADE_END: Supply and Reset takes the report: the fade end of every slot still FADING is forced, and the Voice Engine is
stopped (R179). -/
def execQuietFadeEnd (s : State) : Answer :=
  if s.quietReport then .next { s with quietReport := false, stopped := true }.forceFadeEnds.startClearing else .next s

end Sys2Proof.Machine
end

