-- ==== Sys2Proof/Machine/Reports.lean ====
section
/-! DEFINITION. The rows of the Clear Engine and the Delay Memory Manager (2.6), the Slot Controller's part in region reports (R5, R47),
and the propagation to the slots (R92). -/

namespace Sys2Proof.Machine

/-! ### Ends of clear jobs -/

/-- REGION_JOB_COMPLETE: the last page of the region job in progress ends (R39). -/
def execRegionJobComplete (s : State) : Answer := .next (s.setPool s.pool.regionJobDone)

/-- R49, R50: the end of a line's growth, when its owner still has the line. -/
def State.extensionEnded (s : State) (owner : Option (SlotId × LineId)) : State :=
  match owner with
  | some (n, l) => s.growthEnd n l
  | none => s

/-- EXTENSION_COMPLETE: the extension job in progress ends, and its line's growth with it (R40, R49). -/
def execExtensionComplete (s : State) : Answer :=
  match s.pool.extensionDone with
  | some (p, owner) => .next ((s.setPool p).extensionEnded owner).startClearing
  | none => .next s

/-- ABANDONED_PAGE_END: the page in progress of a cancelled job ends (R42). -/
def execAbandonedPageEnd (s : State) : Answer := .next (s.setPool s.pool.cancelledPageEnd)

/-! ### Region LIVE reports (R5, R47) -/

/-- R5, R39, R52: whether every line's current region is LIVE in the Region Table. With the reports of several LIVE regions in flight, the
first report taken ends the preparation, and the later ones then change nothing (DEDUCED, log 46). -/
def State.allLive (s : State) (n : SlotId) : Bool :=
  s.slots[n].lines.all fun ln => s.pool.stateOf ln.current == some .live

/-- R5: the report that ends a slot's preparation. -/
def State.endPreparation (s : State) (n : SlotId) : State :=
  let t := s.setSlot n { s.slots[n] with state := if s.slots[n].muteWanted then .muted else .running }
  ((((t.setVoice n { t.voices[n] with beginRequested := true }).updateClamped n).leaveWaiting n).raiseBoth .slotReady)

/-- R47, R64: the length at which a line's retiring region is read through its crossfade: the length in use (log 15). A slot
that has not begun (its clock is LOST) has no length in use and the manual gives none: the model takes the length its active bank asks at
the report (DESIGN CHOICE, log 44). -/
def State.oldLength (s : State) (n : SlotId) (l : LineId) : Rat :=
  match s.voices[n].glideOf l, s.slots[n].algorithm, s.slots[n].lines[l.val]? with
  | some g, _, _ => g.delay
  | none, some a, some ln => s.lineTarget n a l ln
  | none, _, _ => 0

/-- R64: the Voice Engine creates the crossfade record of a line. While it is stopped in QUIET its records stay as they were at the stop,
and the crossfade waits until WAKE settles it (R47, R54, R70, log 36). -/
def State.addCrossfade (s : State) (n : SlotId) (l : LineId) : State :=
  if s.stopped then s
  else s.setVoice n { s.voices[n] with
    crossfades := s.voices[n].crossfades ++ [{ line := l, left := 16, oldLength := s.oldLength n l }] }

/-- R47, R50: the Voice Engine is told to crossfade a line, and the clamped flag is evaluated. -/
def State.startCrossfade (s : State) (n : SlotId) (l : LineId) : State := (s.addCrossfade n l).updateClamped n

/-- R39: the Slot Controller acts on a report for a region that its line still refers to. -/
def State.takeLiveReport (s : State) (n : SlotId) (l : LineId) (ln : Line) : State :=
  if s.slots[n].state = .preparing then (if s.allLive n then s.endPreparation n else s)
  else if ln.growth = .relocating then s.startCrossfade n l
  else s

/-- REGION_LIVE: the Slot Controller takes the report of an entry; a report for a region that no line refers to is ignored (R43). -/
def execRegionLive (e : EntryId) (s : State) : Answer :=
  if s.pool.liveReports.contains e then
    let t := s.setPool { s.pool with liveReports := s.pool.liveReports.filter (· != e) }
    match (t.pool.entries[e]).bind (·.owner) with
    | some (n, l) =>
      match t.slots[n].lines[l.val]? with
      | some ln => .next (if ln.current = e then t.takeLiveReport n l ln else t)
      | none => .next t
    | none => .next t
  else .next s

/-! ### Propagation to the slots (R92) -/

/-- R92: whether a propagation writes the slot. -/
def Slot.followsTempo (sl : Slot) : Bool :=
  (sl.state == .preparing || sl.state == .running || sl.state == .muted)
    && (sl.algorithm.elim false fun a => a.locked sl.shadow)

/-- R92: a propagation writes one slot: the derived time of the tempo it carries, the morph's time, the lines' needs. -/
def State.propagateTo (tempo : Nat) (s : State) (n : SlotId) : State :=
  if s.slots[n].followsTempo then
    match s.slots[n].algorithm with
    | some a =>
      ((s.writeShadow n (s.slots[n].shadow.set timeIx (derivedTime a tempo s.slots[n].shadow.division))).endMorphing n
        [timeIx]).evalWritten n [timeIx]
    | none => s
  else s

/-- SLOT_PROPAGATION: the Slot Controller takes the oldest propagation handed to it and writes the slots in increasing order. R92 gives no
order among them, and the order decides who gets pool pages when two of them ask for growth (DESIGN CHOICE, log 40). -/
def execSlotPropagation (s : State) : Answer :=
  match s.tempo.toSlots with
  | tempo :: rest =>
    .next (allSlots.foldl (State.propagateTo tempo) (s.setTempo { s.tempo with toSlots := rest })).startClearing
  | [] => .next s

end Sys2Proof.Machine
end

