-- ==== Sys2Proof/Machine/Supply.lean ====
section
/-! DEFINITION. Supply and Reset (chapter 10): QUIET, WAKE, RESTART (R159 to R161), the entries to STARTING, start-up, and the supply
monitor. -/

namespace Sys2Proof.Machine

/-! ### QUIET (R159) -/

/-- R129: every morph entry is removed. -/
def State.removeMorphs (s : State) : State := allSlots.foldl State.removeMorph s

/-- R159: the QUIET decision. The recall is aborted before the morphs go, so its waiting set stays as it was (log 21). -/
def State.enterQuiet (s : State) : State := { s.abortRecall.removeMorphs with power := .quiet }.startQuietFade

/-- QUIET (R150, R159). -/
def quietDecision (body : List Byte) (s : State) : Verdict :=
  match body with
  | [] => if s.power = .quiet then s.refuse .state else s.enterQuiet.answerDone
  | _ => s.refuse .badLen

def execQuiet (p : Port) (tag : Byte) (body : List Byte) (s : State) : Answer :=
  runCommand p (ownCommand tag 0x60 body) (quietDecision body) s

/-! ### WAKE (R54, R160, R180) -/

/-- R54: the retiring region of a line is released and the growth becomes NONE. -/
def State.settleGrowth (s : State) (n : SlotId) (l : LineId) : State :=
  match s.slots[n].lines[l.val]? with
  | some ln =>
    (s.setPool (ln.retiring.toList.foldl Pool.giveBack s.pool)).setLine n l { ln with retiring := none, growth := .steady }
  | none => s

/-- R54: a LIVE current region of a line is to be zeroed again; a ZEROING one keeps its job. -/
def State.rezeroCurrent (s : State) (n : SlotId) (l : LineId) : State :=
  match s.slots[n].lines[l.val]? with
  | some ln => s.setPool (s.pool.rezero ln.current)
  | none => s

/-- R54: the deferred requirement is removed; above the page count, the region is replaced as R52 gives. -/
def State.settleDeferred (s : State) (n : SlotId) (l : LineId) : State :=
  match s.slots[n].lines[l.val]? with
  | some ln =>
    match ln.deferred with
    | some d =>
      let t := s.setLine n l { ln with deferred := none }
      if t.pool.countOf ln.current < d then t.replaceRegion n l d else t
    | none => s
  | none => s

/-- R54, R50: one line at WAKE. A line that an earlier line's failure took away is passed over. -/
def State.rezeroLine (n : SlotId) (s : State) (l : LineId) : State :=
  if l.val < s.slots[n].lines.length then
    (((s.settleGrowth n l).rezeroCurrent n l).settleDeferred n l).updateClamped n
  else s

/-- R54, R60, R180: a slot that owns regions becomes PREPARING, loses its begun state, and its lines are re-zeroed. -/
def State.rezeroSlot (s : State) (n : SlotId) : State :=
  if s.slots[n].lines.isEmpty then s
  else allLines.foldl (State.rezeroLine n) ((s.endVoice n).setSlot n { s.slots[n] with state := .preparing })

/-- R180: an unfinished quiet fade, or one whose end has not been taken, is ended with its forced fade ends. -/
def State.endQuietPeriod (s : State) : State := { s with quietReport := false }.forceFadeEnds

/-- R54: every slot that owns regions is re-zeroed, in increasing slot order. -/
def State.rezeroSlots (s : State) : State := allSlots.foldl State.rezeroSlot s

/-- R62: no block has just been sent when the Voice Engine runs again, so no peak of one is handed on (log 45). -/
def State.clearPeak (s : State) (n : SlotId) : State := s.setVoice n { s.voices[n] with peak := false }

/-- R69, R180: the quiet gain is 1, the Voice Engine runs again, and the part is READY. Nothing is heard until a slot begins: where this
ends an unfinished quiet fade, the Voice Engine has stopped, and the return frames made and not yet sent are dropped (R69, R70, R180,
DEDUCED, log 45). -/
def State.restartSound (s : State) : State :=
  { allSlots.foldl State.clearPeak s with
    audio := { s.audio with returns := [] }, quietGain := GainFade.reset, stopped := false, power := .ready }

/-- R180: the WAKE decision, in the order of its steps. -/
def State.wakeUp (s : State) : State := s.storeSweep.endQuietPeriod.rezeroSlots.restartSound.startClearing

/-- WAKE (R150, R160). -/
def wakeDecision (body : List Byte) (s : State) : Verdict :=
  match body with
  | [] => if s.power = .quiet then s.wakeUp.answerDone else s.refuse .state
  | _ => s.refuse .badLen

def execWake (p : Port) (tag : Byte) (body : List Byte) (s : State) : Answer :=
  runCommand p (ownCommand tag 0x61 body) (wakeDecision body) s

/-! ### Entries to STARTING (R161, R177) -/

/-- RESTART: taken, it puts no result and the part enters STARTING; with a wrong body length it is refused (R161). -/
def execRestart (p : Port) (tag : Byte) (body : List Byte) (s : State) : Answer :=
  match s.takeCommand p (ownCommand tag 0x62 body) with
  | none => .next s
  | some t =>
    if body.isEmpty then .next (t.enterStarting .pin t.scenes)
    else .next (t.placeResult p ((t.refuse .badLen).result (ownCommand tag 0x62 body)))

/-- R177: a power-on reset: the scene records are lost (R106). -/
def State.powerOn (s : State) : State := s.enterStarting .power (Vector.replicate 32 Scene.reset)

/-- POWER_ON_RESET (R177). -/
def execPowerOnReset (s : State) : Answer := .next s.powerOn

/-- R176, R177: the start kind after RESET low: a POWER start stays one. -/
def State.pinKind (s : State) : StartKind := if s.power = .starting ∧ s.startKind = .power then .power else .pin

/-- RESET_LOW: the records are kept (R177). -/
def execResetLow (s : State) : Answer := .next (s.enterStarting s.pinKind s.scenes)

/-! ### Start-up (R178) -/

/-- START_UP_SWEEP: with RESET high and the supply above 2.90 V the page sweep begins, at page 0, where it is not running yet (R177,
log 25). -/
def execStartUpSweep (resetHigh : Bool) (millivolts : Nat) (s : State) : Answer :=
  if s.power = .starting ∧ resetHigh = true ∧ 2900 < millivolts ∧ s.sweep = none then .next { s with sweep := some 0 } else .next s

/-- R178: the page time in which page `done` is zeroed; after page 4095 the page sweep stands still until its row ends it. -/
def State.sweepPage (s : State) (done : Nat) : State :=
  if done < 4096 then
    { s with sweep := some (done + 1), pool := { s.pool with written := s.pool.written.zeroPages done 1 } }
  else s

/-- A page time of the Clear Engine: the next page of the start-up sweep, or of the job in progress (R39, R178, log 3). -/
def State.pageTime (s : State) : State :=
  match s.sweep with
  | some done => s.sweepPage done
  | none => s.setPool s.pool.pageTick

/-- R162: a port's own address: 0x34 plus the level of its address pin. -/
def pinAddress (level : Bool) : BitVec 7 := if level then 0x35 else 0x34

/-- R178: the rate that the level of RATE fixes. -/
def pinRate (level : Bool) : Rate := if level then .k96 else .k48

/-- R94, R178: the increments of the four LFOs at the rate just fixed. -/
def ModulationUnit.started (m : ModulationUnit) (r : Rate) : ModulationUnit :=
  m.mapLfos fun f => { f with increment := lfoIncrement r f.rate f.division m.lfoTempo }

/-- R181: the supply falls LOW. -/
def State.supplyFalls (s : State) : State :=
  ({ s with supply := .low }.raiseBoth .supplyLow).fadeSupply 0 1

/-- R178: the page sweep is over: page and store sweeps. -/
def State.sweptUp (s : State) : State :=
  let t := { s with sweep := none, pool := { s.pool with written := [] } }
  if s.startKind = .pin then t.storeSweep else t

/-- R178: the pins are sampled, the rate is handed on, and the part is READY. A byte under way on LINK is not taken (R73, log 43). -/
def State.pinsSampled (s : State) (pins : StartPins) : State :=
  { s with
    rate := pinRate pins.rate, portA := { s.portA with ownAddress := pinAddress pins.adrA },
    portB := { s.portB with ownAddress := pinAddress pins.adrB }, modulation := s.modulation.started (pinRate pins.rate),
    tempo := { s.tempo with link := { s.tempo.link with cutByte := pins.linkBusy } }, power := .ready }

/-- R181: the first judgement of the supply: below 2.80 V a power-on reset, below 3.05 V LOW. -/
def State.firstJudgement (s : State) (millivolts : Nat) : State :=
  if millivolts < 2800 then s.powerOn else if millivolts < 3050 then s.supplyFalls else s

/-- START_UP_SWEEP_END: the sweeps are done, the pins are sampled, the supply is judged and the part is READY (R178, R181). -/
def execStartUpSweepEnd (pins : StartPins) (s : State) : Answer :=
  if s.power = .starting ∧ s.sweep ≠ none then .next ((s.sweptUp.pinsSampled pins).firstJudgement pins.supplyMillivolts)
  else .next s

/-! ### The supply monitor (R181) -/

/-- SUPPLY_LOW: the supply is judged below 2.80 V, a power-on reset in any state (R177), or, NORMAL, below 3.05 V. -/
def execSupplyLow (millivolts : Nat) (s : State) : Answer :=
  if millivolts < 2800 then .next s.powerOn
  else if s.power ≠ .starting ∧ s.supply = .normal ∧ millivolts < 3050 then .next s.supplyFalls else .next s

/-- SUPPLY_NORMAL: the supply, LOW, is judged above 3.10 V. -/
def execSupplyNormal (millivolts : Nat) (s : State) : Answer :=
  if s.power ≠ .starting ∧ s.supply = .low ∧ 3100 < millivolts then .next ({ s with supply := .normal }.fadeSupply 1 8)
  else .next s

end Sys2Proof.Machine
end

