-- ==== Sys2Proof/Machine/Dispatch.lean ====
section
/-! DEFINITION. The meaning of each command: one arm per row of the table. -/

namespace Sys2Proof.Machine

def exec (i : Instr) (s : State) : Host.Outcome State Fault Refusal :=
  match i with
  | .assign p tag body => Sys2Proof.Machine.execAssign p tag body s
  | .clear p tag body => Sys2Proof.Machine.execClear p tag body s
  | .params p tag body => Sys2Proof.Machine.execParams p tag body s
  | .mute p tag body => Sys2Proof.Machine.execMute p tag body s
  | .unmute p tag body => Sys2Proof.Machine.execUnmute p tag body s
  | .route p tag body => Sys2Proof.Machine.execRoute p tag body s
  | .readSlot p tag body => Sys2Proof.Machine.execReadSlot p tag body s
  | .readPool p tag body => Sys2Proof.Machine.execReadPool p tag body s
  | .takeHold p tag body => Sys2Proof.Machine.execTakeHold p tag body s
  | .releaseHold p tag body => Sys2Proof.Machine.execReleaseHold p tag body s
  | .setLease p tag body => Sys2Proof.Machine.execSetLease p tag body s
  | .storeScene p tag body => Sys2Proof.Machine.execStoreScene p tag body s
  | .writeSceneEntry p tag body => Sys2Proof.Machine.execWriteSceneEntry p tag body s
  | .eraseScene p tag body => Sys2Proof.Machine.execEraseScene p tag body s
  | .readScene p tag body => Sys2Proof.Machine.execReadScene p tag body s
  | .recallScene p tag generalCall body => Sys2Proof.Machine.execRecall p tag generalCall body s
  | .abortMorph p tag body => Sys2Proof.Machine.execAbortMorph p tag body s
  | .readRecall p tag body => Sys2Proof.Machine.execReadRecall p tag body s
  | .setTempo p tag body => Sys2Proof.Machine.execSetTempo p tag body s
  | .setTempoSource p tag body => Sys2Proof.Machine.execSetTempoSource p tag body s
  | .tap p tag generalCall body time => Sys2Proof.Machine.execTap p tag generalCall body time s
  | .readTempo p tag body => Sys2Proof.Machine.execReadTempo p tag body s
  | .setTapOptions p tag body => Sys2Proof.Machine.execSetTapOptions p tag body s
  | .setLfo p tag body => Sys2Proof.Machine.execSetLfo p tag body s
  | .seedRandom p tag body => Sys2Proof.Machine.execSeedRandom p tag body s
  | .setRandomMode p tag body => Sys2Proof.Machine.execSetRandomMode p tag body s
  | .readEvents p tag body => Sys2Proof.Machine.execReadEvents p tag body s
  | .setEventMask p tag body => Sys2Proof.Machine.execSetEventMask p tag body s
  | .portReset p tag body => Sys2Proof.Machine.execPortReset p tag body s
  | .quiet p tag body => Sys2Proof.Machine.execQuiet p tag body s
  | .wake p tag body => Sys2Proof.Machine.execWake p tag body s
  | .restart p tag body => Sys2Proof.Machine.execRestart p tag body s
  | .unknownCommand p tag code body => Sys2Proof.Machine.execUnknownCommand p tag code body s
  | .i2cAddress p address direction => Sys2Proof.Machine.execI2cAddress p address direction s
  | .messageEnd p bytes => Sys2Proof.Machine.execMessageEnd p bytes s
  | .resultSent r => Sys2Proof.Machine.execResultSent r s
  | .readEnd r => Sys2Proof.Machine.execReadEnd r s
  | .busTimeout p bytes => Sys2Proof.Machine.execBusTimeout p bytes s
  | .frameSync => Sys2Proof.Machine.execFrameSync s
  | .frameTaken words => Sys2Proof.Machine.execFrameTaken words s
  | .clockLost => Sys2Proof.Machine.execClockLost s
  | .fadeEnd slot => Sys2Proof.Machine.execFadeEnd slot s
  | .crossfadeEnd slot line => Sys2Proof.Machine.execCrossfadeEnd slot line s
  | .quietFadeEnd => Sys2Proof.Machine.execQuietFadeEnd s
  | .regionJobComplete => Sys2Proof.Machine.execRegionJobComplete s
  | .regionLive entry => Sys2Proof.Machine.execRegionLive entry s
  | .extensionComplete => Sys2Proof.Machine.execExtensionComplete s
  | .abandonedPageEnd => Sys2Proof.Machine.execAbandonedPageEnd s
  | .slotPropagation => Sys2Proof.Machine.execSlotPropagation s
  | .lfoPropagation => Sys2Proof.Machine.execLfoPropagation s
  | .resync => Sys2Proof.Machine.execResync s
  | .tapPress time => Sys2Proof.Machine.execTapPress time s
  | .tapRelease time => Sys2Proof.Machine.execTapRelease time s
  | .longPress time => Sys2Proof.Machine.execLongPress time s
  | .stuckSwitch time => Sys2Proof.Machine.execStuckSwitch time s
  | .tapFreshExpiry time => Sys2Proof.Machine.execTapFreshExpiry time s
  | .tapHistoryClear time => Sys2Proof.Machine.execTapHistoryClear time s
  | .linkTempoFrame tempoHigh tempoLow position crc time => Sys2Proof.Machine.execLinkTempoFrame tempoHigh tempoLow position crc time s
  | .linkStopFrame zero crc time => Sys2Proof.Machine.execLinkStopFrame zero crc time s
  | .linkBadFrame bytes time => Sys2Proof.Machine.execLinkBadFrame bytes time s
  | .linkBreak time => Sys2Proof.Machine.execLinkBreak time s
  | .linkSilenceTimeout time => Sys2Proof.Machine.execLinkSilenceTimeout time s
  | .leaseTick => Sys2Proof.Machine.execLeaseTick s
  | .holdExpiry slot => Sys2Proof.Machine.execHoldExpiry slot s
  | .supplyLow millivolts => Sys2Proof.Machine.execSupplyLow millivolts s
  | .supplyNormal millivolts => Sys2Proof.Machine.execSupplyNormal millivolts s
  | .powerOnReset => Sys2Proof.Machine.execPowerOnReset s
  | .resetLow => Sys2Proof.Machine.execResetLow s
  | .startUpSweep resetHigh millivolts => Sys2Proof.Machine.execStartUpSweep resetHigh millivolts s
  | .startUpSweepEnd pins => Sys2Proof.Machine.execStartUpSweepEnd pins s
  | .tapHighSample time => Sys2Proof.Machine.execTapHighSample s time
  | .busStop r => Sys2Proof.Machine.execBusStop r s

end Sys2Proof.Machine
end

