-- ==== Sys2Proof/Machine/Step.lean ====
section
/-! DEFINITION. One step of the block: the command at the front of the queue, or, with nothing waiting, one page time of the Clear
Engine, in the start-up sweep or in a job (log 3). -/

namespace Sys2Proof.Machine

/-- The step. -/
def step (s : State) : Host.Outcome State Fault Refusal :=
  match s.pending with
  | c :: rest => exec c { s with pending := rest }
  | [] => .next s.pageTime

/-- The state with the command that a word of the table spells put at the front of the queue; unchanged where it spells none
(log 31). -/
def State.withFetchWord (s : State) (nbits w : Nat) : State :=
  match decodeTableWord nbits w with
  | some c => { s with pending := c :: s.pending }
  | none => s

end Sys2Proof.Machine
end

