-- ==== Sys2Proof/Safety.lean ====
section
/-! DEFINITION. What the statements call a good state: the invariants of each block, in the terms of the rules that ask for them; and the
views of a state by which the statements say what a command leaves alone. -/

namespace Sys2Proof.Machine

/-! ### Ports (R167) and holds (R130) -/

/-- R167: reserved credits, queued commands and waiting results never exceed 8 in either port. -/
def State.creditsOk (s : State) : Prop := ∀ p, (s.port p).creditsInUse ≤ 8

/-- R130: an unheld slot has count 0, a held one a count of 1 to 240. -/
def Hold.ok (h : Hold) : Prop := (h.holder = Option.none → h.count = 0) ∧ (h.holder ≠ Option.none → 1 ≤ h.count) ∧ h.count ≤ 240

/-- R130: every hold entry, and each port's lease length of 4 to 240. -/
def State.holdsOk (s : State) : Prop :=
  (∀ n : SlotId, (s.holds[n]).ok) ∧ ∀ p, 4 ≤ (s.port p).lease ∧ (s.port p).lease ≤ 240

/-! ### Load (R24) -/

/-- R24: the tally is within the budget. With it: nothing is assigned in STARTING, and an EMPTY slot has no algorithm (R1). -/
def State.loadOk (s : State) : Prop :=
  s.loadTally ≤ s.rate.budget ∧ (∀ n : SlotId, (s.slots[n]).state = .empty → (s.slots[n]).algorithm = none)
    ∧ (s.power = .starting → ∀ n : SlotId, (s.slots[n]).state = .empty)

/-! ### The pool (R29, R31) -/

/-- Whether a page lies in a region, its pending extension counted in (R29, R30). -/
def Region.has (r : Region) (page : Nat) : Bool := r.first ≤ page && page < r.first + r.size

/-- Whether a page lies in a free run. -/
def Run.has (r : Run) (page : Nat) : Bool := r.first ≤ page && page < r.first + r.count

/-- The number of places that hold a page: region entries and free runs together. -/
def Pool.places (p : Pool) (page : Nat) : Nat :=
  (allEntries.filter fun e => p.entries[e].any (·.has page)).length + (p.runs.filter (·.has page)).length

/-- R31: the runs are not empty, in increasing order, and no two adjacent. -/
def runsOk : List Run → Prop
  | [] => True
  | [r] => 0 < r.count
  | a :: b :: rest => 0 < a.count ∧ a.first + a.count < b.first ∧ runsOk (b :: rest)

/-- R29, R31: every page of the pool lies in exactly one place, no place holds a page outside the pool, and the runs are kept as R31
gives. -/
def Pool.tiled (p : Pool) : Prop :=
  (∀ page, page < 4096 → p.places page = 1) ∧ (∀ page, 4096 ≤ page → p.places page = 0) ∧ runsOk p.runs

/-! ### Tempo (R75, R91) -/

/-- R75, R91: the source in charge is the one the arbiter chooses, the applied tempo is the value it offers, and the applied tempo is
within 4 of the last propagated one. -/
def State.tempoOk (s : State) : Prop :=
  s.tempo.source = s.tempo.choice ∧ (∀ v, s.tempo.offer s.tempo.source = some v → s.tempo.applied = v)
    ∧ tempoDistance s.tempo.applied s.tempo.lastPropagated ≤ 4

/-- R82: at most four intervals, each of 200 to 2000 ms. -/
def State.tapsOk (s : State) : Prop :=
  s.tempo.intervals.length ≤ 4 ∧ ∀ i ∈ s.tempo.intervals, 200 ≤ i ∧ i ≤ 2000

/-! ### Audio (R56, R58) and gains (R60, R68) -/

/-- R56, R58: fewer than 32 frames wait for a block end; while the clock is LOST none do, nothing is left to send, and the output is
zero. -/
def State.audioOk (s : State) : Prop :=
  s.audio.sends.length < 32
    ∧ (s.audio.clock = .lost → s.audio.sends = [] ∧ s.audio.returns = [] ∧ s.audio.output = Vector.replicate 16 0)

/-- A gain of 0 to 1. -/
def gainOk (g : Rat) : Prop := 0 ≤ g ∧ g ≤ 1

/-- A fade between gains of 0 to 1, with no more blocks left than its length. -/
def Fade.ok (f : Fade) : Prop := gainOk f.start ∧ gainOk f.target ∧ f.left ≤ f.length ∧ 0 < f.length

/-- R60, R68: every slot's gain and both return gains lie within 0 to 1, with their fades. -/
def State.gainsOk (s : State) : Prop :=
  (∀ n : SlotId, gainOk (s.voices[n]).gain ∧ ∀ f ∈ (s.voices[n]).fade, f.ok)
    ∧ (gainOk s.supplyGain.value ∧ ∀ f ∈ s.supplyGain.fade, f.ok) ∧ (gainOk s.quietGain.value ∧ ∀ f ∈ s.quietGain.fade, f.ok)

/-! ### Morphs (R124) and scenes (R106, R107) -/

/-- R124: every morph entry has steps left and something to morph. -/
def State.morphsOk (s : State) : Prop :=
  ∀ (n : SlotId), ∀ m ∈ s.morphs[n], m.done < m.total ∧ m.morphing ≠ 0

/-- R107: the entries of every record stand in increasing slot order. -/
def State.scenesOk (s : State) : Prop :=
  ∀ k : SceneId, (s.scenes[k]).entries.Pairwise fun a b => a.slot < b.slot

/-! ### Views: what a command leaves alone -/

/-- The port but for its event flags. -/
def PortState.quiet (v : PortState) : PortState := { v with flags := 0 }

/-- The state with everything a slot operation may change set to its reset value: two states with the same surroundings agree on power
and supply, the ports but for their flags, the arbiter, holds, return gains, audio, tempo, modulation, scenes and the queue. -/
def State.surroundings (s : State) : State :=
  { s with
    slots := State.reset.slots, morphs := State.reset.morphs, entries := State.reset.entries,
    recallRecord := State.reset.recallRecord, pool := State.reset.pool, voices := State.reset.voices, fadeReports := [],
    crossfadeReports := [], portA := s.portA.quiet, portB := s.portB.quiet }

/-- The state but for the Tempo Unit and the event flags. -/
def State.outsideTempo (s : State) : State :=
  { s with tempo := TempoUnit.reset, portA := s.portA.quiet, portB := s.portB.quiet }

/-- The state but for the Hold Table and the event flags. -/
def State.outsideHolds (s : State) : State :=
  { s with holds := State.reset.holds, portA := s.portA.quiet, portB := s.portB.quiet }

/-- The state but for the Scene Store and the event flags. -/
def State.outsideScenes (s : State) : State :=
  { s with scenes := State.reset.scenes, portA := s.portA.quiet, portB := s.portB.quiet }

/-- The event flags of both ports. -/
def State.flagsOf (s : State) : BitVec 14 × BitVec 14 := (s.portA.flags, s.portB.flags)

/-- Whether a flag stands in both ports. -/
def State.flagged (s : State) (f : Flag) : Prop := s.portA.hasFlag f = true ∧ s.portB.hasFlag f = true

/-- Two states agree on every slot's record, morph, pending entry and voice but those of slot `n`. -/
def State.sameSlotsBut (s t : State) (n : SlotId) : Prop :=
  ∀ m : SlotId, m ≠ n →
    s.slots[m] = t.slots[m] ∧ s.morphs[m] = t.morphs[m] ∧ s.entries[m] = t.entries[m] ∧ s.voices[m] = t.voices[m]

/-! ### Growth and replacement (2.7) -/

/-- R45, R46, R51: what a growth of line `l` to `target` pages does, from `v` to `u`: the line EXTENDING in place where the run behind it
has the extra pages, else RELOCATING into a new region, else POOL_SHORT and the line as it was, with no growth. -/
def State.grownTo (v u : State) (n : SlotId) (l : LineId) (ln : Line) (target : Nat) : Prop :=
  (∀ q, v.pool.extend ln.current target = some q →
    u.pool = q ∧ u.slots[n].lines = v.slots[n].lines.set l.val { ln with growth := .extending, deferred := none })
  ∧ (v.pool.extend ln.current target = none →
    (∀ q e, v.pool.place target n l = .ok (q, e) →
      u.pool = (q.retire ln.current).addJob .region e
      ∧ u.slots[n].lines = v.slots[n].lines.set l.val
          { current := e, retiring := some ln.current, growth := .relocating, deferred := none })
    ∧ (∀ f, v.pool.place target n l = .error f →
      u.pool = v.pool ∧ u.flagged .poolShort
      ∧ u.slots[n].lines = v.slots[n].lines.set l.val { ln with growth := .steady, deferred := none }))

/-- R44, R52: line `l` of a PREPARING slot needs more than its promise and no region can be placed for it once its own is back. -/
def State.replacementFails (s : State) (n : SlotId) (l : LineId) : Prop :=
  ∃ ln a f, s.slots[n].state = .preparing ∧ s.slots[n].lines[l.val]? = some ln ∧ s.slots[n].algorithm = some a
    ∧ ln.growth = .steady ∧ s.pool.countOf ln.current < requiredPages s.rate a s.slots[n].shadow l
    ∧ (s.pool.giveBack ln.current).place (allocationSize a (requiredPages s.rate a s.slots[n].shadow l)) n l = .error f

/-- R44, R52: evaluating the lines that the written indices enter, in line order, comes to a replacement that fails. -/
def State.evaluationFails (s : State) (n : SlotId) (ixs : List ParamIx) : Prop :=
  ∃ a before l rest, s.slots[n].algorithm = some a
    ∧ (allLines.filter fun k => ixs.any (a.entersNeed k)) = before ++ l :: rest
    ∧ (before.foldl (fun t k => t.evalNeed n k) s).replacementFails n l

/-- R3, R52: what a replacement that fails leaves of a slot. -/
def State.emptiedFrom (t u : State) (n : SlotId) : Prop :=
  u.slots[n] = { Slot.reset with sendSet := t.slots[n].sendSet, returnPair := t.slots[n].returnPair, clip := t.slots[n].clip }
    ∧ u.flagged .poolShort ∧ u.flagged .slotEmpty

/-! ### A tap (R82, R83) -/

/-- R82, R83 (log 4 for an interval above 2000): what a tap with timestamp `time` does to the Tempo Unit, from `t` to `u`. -/
def State.tapEntered (t u : State) (time : Nat) : Prop :=
  let held := t.tempo.intervals
  (t.tempo.lastTap = none →
    u.tempo.lastTap = some time ∧ u.tempo.tapFresh = true ∧ u.tempo.intervals = held ∧ u.tempo.tapTempo = t.tempo.tapTempo)
  ∧ (∀ last, t.tempo.lastTap = some last → time < last + 200 → u.tempo = t.tempo ∧ u.flagsOf = t.flagsOf)
  ∧ (∀ last, t.tempo.lastTap = some last → last + 2000 < time →
    u.tempo.lastTap = some time ∧ u.tempo.tapFresh = true ∧ u.tempo.intervals = [] ∧ u.tempo.tapTempo = t.tempo.tapTempo)
  ∧ (∀ last i, t.tempo.lastTap = some last → time = last + i → 200 ≤ i → i ≤ 2000 →
    u.tempo.lastTap = some time ∧ u.tempo.tapFresh = true ∧ u.tempo.source = u.tempo.choice
    ∧ (let far := 4 * ((i * held.length - held.sum) + (held.sum - i * held.length)) > held.sum
       (held = [] ∨ far → u.tempo.intervals = [i])
       ∧ (held ≠ [] → ¬ far → held.length < 4 → u.tempo.intervals = held ++ [i])
       ∧ (held.length = 4 → ¬ far → u.tempo.intervals = held.tail ++ [i]))
    ∧ ∃ v, u.tempo.tapTempo = some v
      ∧ 2 * v * u.tempo.intervals.sum ≤ 12000000 * u.tempo.intervals.length + u.tempo.intervals.sum
      ∧ 12000000 * u.tempo.intervals.length + u.tempo.intervals.sum < 2 * (v + 1) * u.tempo.intervals.sum)

/-! ### A read and a recall entry -/

/-- R169: how many bytes a read puts out: all that the controller clocks, up to and with the first it does not acknowledge. -/
def bytesOut (acks : List Bool) : Nat := min acks.length ((acks.takeWhile id).length + 1)

/-- R117: a recall entry that fails leaves everything as it was, but for the count and the renewal of a hold. -/
def State.entryFailed (v u : State) : Prop :=
  u.recallRecord = { v.recallRecord with failed := v.recallRecord.failed + 1 }
    ∧ { u with recallRecord := v.recallRecord, holds := v.holds } = v

/-- R117, R122: the Recall Record after an entry that is applied and whose slot waits. -/
def RecallRecord.appliedWaiting (r : RecallRecord) (n : SlotId) : RecallRecord :=
  { r with applied := r.applied + 1, waiting := r.waiting ||| (1#16 <<< n.val) }

/-- R106, R177: the machine at the entry of STARTING in a power-on reset: reset values, with the page contents (log 12), the counter of free
values (log 9) and the queue (log 31) of `s`. -/
def State.poweredOn (s : State) : State :=
  { State.reset with
    pool := { State.reset.pool with written := s.pool.written }, fresh := s.fresh, pending := s.pending }

/-! ### What two decisions leave -/

/-- R9: what a decision that starts an end fade leaves: the slot FADING, its morph entry gone, its input closed and, if it is begun, a fade
from the present gain to 0 over 16 blocks; lines, banks and pool as they were. -/
def State.endFadeFrom (t u : State) (n : SlotId) (next : Option Alg) : Prop :=
  u.slots[n] = { t.slots[n] with state := .fading, next := next } ∧ u.morphs[n] = none ∧ u.entries[n] = t.entries[n]
    ∧ u.voices[n] = { t.voices[n] with
        inputOpen := false,
        fade := if t.voices[n].begun then some { start := t.voices[n].gain, target := 0, length := 16, left := 16 }
                else t.voices[n].fade }
    ∧ u.pool = t.pool ∧ u.sameSlotsBut t n

/-- R18, R26 to R28: the bank a PARAMS leaves in the shadow bank: its pairs in message order, and the derived time when the division left is
not FREE. -/
def Bank.afterParams (b : Bank) (a : Alg) (tempo : Nat) (prs : List (ParamIx × Int)) : Bank :=
  let w := prs.foldl (fun (acc : Bank) (pr : ParamIx × Int) => acc.set pr.1 pr.2) b
  if (a = .tape ∨ a = .pingpong) ∧ w[2].toNat ≠ 0 then w.set 0 (derivedTime a tempo w[2].toNat) else w

end Sys2Proof.Machine
end

