-- ==== Sys2Proof/Certificates/Slice0/Obligations.lean ====
section
/-! DEFINITION. The statements about the model, for the provers.

In the statements of controller commands, `t` is the state the arbiter's take leaves (`State.takeCommand`, which `CommandsAreTaken` states; its second way, the whole transaction, is log 1),
and `placeResult` puts the result at the tail of the port's result queue (R145). The views of Safety.lean (`surroundings`,
`outsideTempo`, …) say what a command leaves alone. -/

open Sys2Proof Sys2Proof.Machine

/-! ### The step, the queue and the arbiter -/

/-- A step with a command at the front of the queue is that command's meaning on the state with the queue's rest. -/
def Obligations.StepRunsTheFrontCommand : Prop :=
  ∀ (s : State) (c : Instr) (rest : List Instr), s.pending = c :: rest → step s = exec c { s with pending := rest }

/-- Every command answers a next state, and leaves the queue as it is (log 24: the model's reading, no fault and no refusal). -/
def Obligations.EveryCommandAnswersNext : Prop :=
  ∀ (i : Instr) (s : State), ∃ t, exec i s = .next t ∧ t.pending = s.pending

/-- R143 (and log 1 for the last two clauses): a command at the head of its queue is taken when the other queue is empty or the other port
was served last, and leaves its queue; when both queues hold a command the last-served port's waits. With both queues empty, a command is
taken at once from a whole transaction of its own when the port is IDLE and has a free credit, the message fits, and a general call is
enabled and carries TAP or RECALL; with the port busy or out of credits, and in STARTING, it is not taken. -/
def Obligations.CommandsAreTaken : Prop :=
  ∀ (s : State) (p : Port) (c : Command),
    (s.power = .starting → s.takeCommand p c = none)
    ∧ (s.power ≠ .starting → ∀ cs, (s.port p).commands = c :: cs →
      (((s.port p.other).commands = [] ∨ s.lastServed = p.other) →
        s.takeCommand p c = some { s.setPort p { s.port p with commands := cs } with lastServed := p })
      ∧ ((s.port p.other).commands ≠ [] → s.lastServed = p → s.takeCommand p c = none))
    ∧ (s.power ≠ .starting → s.portA.commands = [] → s.portB.commands = [] →
      ((s.port p).link = .idle → (s.port p).creditsInUse < 8 → c.body.length ≤ 60 →
        (c.generalCall = true → (s.port p).callEnable = true ∧ (c.code = 0x24 ∨ c.code = 0x32)) →
        s.takeCommand p c = some { s with lastServed := p })
      ∧ ((s.port p).link ≠ .idle ∨ 8 ≤ (s.port p).creditsInUse → s.takeCommand p c = none))

/-! ### Slot commands -/

/-- R4, R7, R24, R34, R35: ASSIGN of an algorithm on an EMPTY slot, or of another algorithm on a PREPARING one, with room in the budget
(the slot counting the new algorithm alone) and in the pool (a PREPARING slot's old regions still standing) makes it PREPARING on the regions
placed, with the defaults in both banks; an EMPTY slot's mute wanted becomes no, a PREPARING one's stays and its old regions go back. No
SLOT_EMPTY is raised, and the result is ACCEPTED with the state and the tally. Without room it is refused with LOAD, NOROOM or NOENTRY and
nothing changes. -/
def Obligations.AssignNewAlgorithm : Prop :=
  ∀ (s t : State) (p : Port) (tag b0 b1 : Byte) (n : SlotId) (a : Alg),
    s.takeCommand p (ownCommand tag 0x01 [b0, b1]) = some t → t.power ≠ .quiet → slotField b0 = some n → algField b1 = some a →
    t.holds[n].holder ≠ some p.other →
    (t.slots[n].state = .empty ∨ t.slots[n].state = .preparing ∧ t.slots[n].algorithm ≠ some a) →
    let old := t.slots[n].lines.flatMap fun ln => ln.current :: ln.retiring.toList
    (t.rate.budget < t.loadTally - t.slots[n].load + a.load →
      exec (.assign p tag [b0, b1]) s = .next (t.placeResult p ⟨tag, 0x01, .load, []⟩))
    ∧ (t.loadTally - t.slots[n].load + a.load ≤ t.rate.budget →
      (t.pool.allocate n (allocationSizes t.rate a a.defaults) = .error .noRoom →
        exec (.assign p tag [b0, b1]) s = .next (t.placeResult p ⟨tag, 0x01, .noRoom, []⟩))
      ∧ (t.pool.allocate n (allocationSizes t.rate a a.defaults) = .error .noEntry →
        exec (.assign p tag [b0, b1]) s = .next (t.placeResult p ⟨tag, 0x01, .noEntry, []⟩))
      ∧ (∀ q es, t.pool.allocate n (allocationSizes t.rate a a.defaults) = .ok (q, es) →
        ∃ u, exec (.assign p tag [b0, b1]) s = .next u
          ∧ u.slots[n] = { t.slots[n] with
              state := .preparing, algorithm := some a, next := none, active := a.defaults, shadow := a.defaults, swapPending := true,
              lines := es.map fun e => { current := e, retiring := none, growth := .steady, deferred := none },
              clamped := false, muteWanted := if t.slots[n].state = .empty then false else t.slots[n].muteWanted }
          ∧ (t.slots[n].state = .empty → u.pool = q.startJob)
          ∧ (t.slots[n].state = .preparing → u.pool = (old.foldl Pool.giveBack q).startJob)
          ∧ u.morphs = t.morphs ∧ u.entries = t.entries ∧ u.sameSlotsBut t n ∧ u.recallRecord = t.recallRecord ∧ u.flagsOf = t.flagsOf
          ∧ u.surroundings =
              ((t.renew p n).placeResult p ⟨tag, 0x01, .accepted, [1, BitVec.ofNat 8 u.loadTally]⟩).surroundings))

/-- R7, R10 (log 40 for the order of the lines): ASSIGN of the slot's own algorithm. On a RUNNING or MUTED slot the shadow bank takes the
defaults, the morph entry goes, and state, active bank, routing and voice stay; every line's need is evaluated (`NeedIsEvaluated`). On a
PREPARING slot the same is written; the slot is emptied just when a line's replacement cannot be placed once its region is back (R52). Either
way the result is DONE. -/
def Obligations.AssignOwnAlgorithm : Prop :=
  ∀ (s t : State) (p : Port) (tag b0 b1 : Byte) (n : SlotId) (a : Alg),
    s.takeCommand p (ownCommand tag 0x01 [b0, b1]) = some t → t.power ≠ .quiet → slotField b0 = some n → algField b1 = some a →
    t.holds[n].holder ≠ some p.other → t.slots[n].algorithm = some a →
    let w := (t.removeMorph n).writeShadow n a.defaults
    let evaluated := w.evalWritten n allParams
    (t.slots[n].state = .running ∨ t.slots[n].state = .muted →
      ∃ u, exec (.assign p tag [b0, b1]) s = .next u
        ∧ u.slots[n] = { t.slots[n] with
            shadow := a.defaults, swapPending := true, lines := evaluated.slots[n].lines, clamped := evaluated.slots[n].clamped }
        ∧ u.morphs[n] = none ∧ u.entries[n] = t.entries[n] ∧ u.voices = t.voices ∧ u.sameSlotsBut t n
        ∧ u.pool = evaluated.pool.startJob
        ∧ u.surroundings = ((t.renew p n).placeResult p
            ⟨tag, 0x01, .done, [t.slots[n].state.code, BitVec.ofNat 8 t.loadTally]⟩).surroundings)
    ∧ (t.slots[n].state = .preparing →
      ∃ u, exec (.assign p tag [b0, b1]) s = .next u ∧ u.sameSlotsBut t n ∧ u.pool = evaluated.pool.startJob
        ∧ (¬ w.evaluationFails n allParams →
          u.slots[n] = { t.slots[n] with
            shadow := a.defaults, swapPending := true, lines := evaluated.slots[n].lines, clamped := evaluated.slots[n].clamped })
        ∧ (w.evaluationFails n allParams → t.emptiedFrom u n)
        ∧ u.surroundings = ((t.renew p n).placeResult p
            ⟨tag, 0x01, .done, [u.slots[n].state.code, BitVec.ofNat 8 u.loadTally]⟩).surroundings)

/-- R9: ASSIGN of another algorithm on a RUNNING or MUTED slot starts its end fade when the larger of both loads fits, and is refused with
LOAD when it does not; CLEAR starts it without a check. -/
def Obligations.EndFadeStarts : Prop :=
  ∀ (s t : State) (p : Port) (tag b0 b1 : Byte) (n : SlotId) (old a : Alg),
    slotField b0 = some n → t.power ≠ .quiet → t.holds[n].holder ≠ some p.other →
    (t.slots[n].state = .running ∨ t.slots[n].state = .muted) → t.slots[n].algorithm = some old →
    (s.takeCommand p (ownCommand tag 0x01 [b0, b1]) = some t → algField b1 = some a → a ≠ old →
      (t.loadTally - t.slots[n].load + max old.load a.load ≤ t.rate.budget →
        ∃ u, exec (.assign p tag [b0, b1]) s = .next u ∧ t.endFadeFrom u n (some a)
          ∧ u.surroundings =
              ((t.renew p n).placeResult p ⟨tag, 0x01, .accepted, [4, BitVec.ofNat 8 u.loadTally]⟩).surroundings)
      ∧ (t.rate.budget < t.loadTally - t.slots[n].load + max old.load a.load →
        exec (.assign p tag [b0, b1]) s = .next (t.placeResult p ⟨tag, 0x01, .load, []⟩)))
    ∧ (s.takeCommand p (ownCommand tag 0x02 [b0]) = some t →
        ∃ u, exec (.clear p tag [b0]) s = .next u ∧ t.endFadeFrom u n none
          ∧ u.surroundings = ((t.renew p n).placeResult p ⟨tag, 0x02, .accepted, [4]⟩).surroundings)

/-- R3, R6: CLEAR of an EMPTY slot changes nothing; CLEAR of a PREPARING slot gives its regions back and empties its record but for send
set, return pair and clip, with SLOT_EMPTY in both ports. -/
def Obligations.ClearEmptiesAtOnce : Prop :=
  ∀ (s t : State) (p : Port) (tag b0 : Byte) (n : SlotId),
    s.takeCommand p (ownCommand tag 0x02 [b0]) = some t → t.power ≠ .quiet → slotField b0 = some n →
    t.holds[n].holder ≠ some p.other →
    (t.slots[n].state = .empty → exec (.clear p tag [b0]) s = .next ((t.renew p n).placeResult p ⟨tag, 0x02, .done, [0]⟩))
    ∧ (t.slots[n].state = .preparing →
        ∃ u, exec (.clear p tag [b0]) s = .next u
          ∧ u.slots[n] = { Slot.reset with
              sendSet := t.slots[n].sendSet, returnPair := t.slots[n].returnPair, clip := t.slots[n].clip }
          ∧ u.morphs[n] = none ∧ u.entries[n] = none ∧ u.voices[n].begun = false ∧ u.voices[n].beginRequested = false
          ∧ u.pool = (t.slots[n].lines.flatMap fun ln => ln.current :: ln.retiring.toList).foldl Pool.giveBack t.pool
          ∧ u.sameSlotsBut t n ∧ u.flagged .slotEmpty
          ∧ u.surroundings = ((t.renew p n).placeResult p ⟨tag, 0x02, .done, [0]⟩).surroundings)

/-- R11: on a FADING slot ASSIGN replaces the next algorithm and CLEAR removes it, both dropping a pending entry and leaving voice, lines
and pool alone; PARAMS, MUTE, UNMUTE and ROUTE are refused with STATE. -/
def Obligations.FadingSlotSettlesWhatFollows : Prop :=
  ∀ (s t : State) (p : Port) (tag b0 : Byte) (n : SlotId), slotField b0 = some n → t.holds[n].holder ≠ some p.other →
    t.slots[n].state = .fading →
    (∀ (b1 : Byte) (old a : Alg), s.takeCommand p (ownCommand tag 0x01 [b0, b1]) = some t → t.power ≠ .quiet →
      algField b1 = some a → t.slots[n].algorithm = some old →
      t.loadTally - t.slots[n].load + max old.load a.load ≤ t.rate.budget →
      ∃ u, exec (.assign p tag [b0, b1]) s = .next u ∧ u.slots[n] = { t.slots[n] with next := some a } ∧ u.entries[n] = none
        ∧ u.voices = t.voices ∧ u.pool = t.pool ∧ u.morphs = t.morphs ∧ u.sameSlotsBut t n
        ∧ u.surroundings =
            ((t.renew p n).placeResult p ⟨tag, 0x01, .accepted, [4, BitVec.ofNat 8 u.loadTally]⟩).surroundings)
    ∧ (s.takeCommand p (ownCommand tag 0x02 [b0]) = some t → t.power ≠ .quiet →
      ∃ u, exec (.clear p tag [b0]) s = .next u ∧ u.slots[n] = { t.slots[n] with next := none } ∧ u.entries[n] = none
        ∧ u.voices = t.voices ∧ u.pool = t.pool ∧ u.morphs = t.morphs ∧ u.sameSlotsBut t n
        ∧ u.surroundings = ((t.renew p n).placeResult p ⟨tag, 0x02, .accepted, [4]⟩).surroundings)
    ∧ (∀ (body : List Byte) (raw : List (Byte × Int)) (prs : List (ParamIx × Int)),
      s.takeCommand p (ownCommand tag 0x03 body) = some t → paramsBody body = some (b0, raw) → indexedPairs raw = some prs →
      exec (.params p tag body) s = .next (t.placeResult p ⟨tag, 0x03, .state, []⟩))
    ∧ (s.takeCommand p (ownCommand tag 0x04 [b0]) = some t →
      exec (.mute p tag [b0]) s = .next (t.placeResult p ⟨tag, 0x04, .state, []⟩))
    ∧ (s.takeCommand p (ownCommand tag 0x05 [b0]) = some t →
      exec (.unmute p tag [b0]) s = .next (t.placeResult p ⟨tag, 0x05, .state, []⟩))
    ∧ (∀ (b1 b2 : Byte) (r : PairId), s.takeCommand p (ownCommand tag 0x06 [b0, b1, b2]) = some t → pairField b2 = some r →
      exec (.route p tag [b0, b1, b2]) s = .next (t.placeResult p ⟨tag, 0x06, .state, []⟩))

/-- R18, R28, R126 (log 27 and 40 for the lines evaluated and their order): on a PREPARING, RUNNING or MUTED slot a PARAMS whose pairs all suit the
algorithm writes the shadow bank and sets swap pending, and the lines its indices enter are evaluated (`NeedIsEvaluated`); the active bank,
the state, the routing and the voice stay. The indices written, and time when the slot is left tempo-locked (log 18), leave the morph entry,
which goes when it is left with none (R126). A PREPARING slot is emptied instead just when a line's replacement cannot be placed once its
region is back (R52). One pair that does not suit refuses the whole with RANGE, as does a locked time. -/
def Obligations.ParamsAllOrNothing : Prop :=
  ∀ (s t : State) (p : Port) (tag b0 : Byte) (body : List Byte) (n : SlotId) (a : Alg) (raw : List (Byte × Int))
    (prs : List (ParamIx × Int)),
    s.takeCommand p (ownCommand tag 0x03 body) = some t → paramsBody body = some (b0, raw) → indexedPairs raw = some prs →
    slotField b0 = some n → t.holds[n].holder ≠ some p.other →
    (t.slots[n].state = .preparing ∨ t.slots[n].state = .running ∨ t.slots[n].state = .muted) → t.slots[n].algorithm = some a →
    let left := prs.foldl (fun (acc : Bank) (pr : ParamIx × Int) => acc.set pr.1 pr.2) t.slots[n].shadow
    let lockedTime := (a = .tape ∨ a = .pingpong) ∧ left[2].toNat ≠ 0 ∧ ∃ pr ∈ prs, pr.1 = 0
    let leaves := fun (ix : ParamIx) => (∃ pr ∈ prs, pr.1 = ix) ∨ ix = 0 ∧ (a = .tape ∨ a = .pingpong) ∧ left[2].toNat ≠ 0
    let bank := t.slots[n].shadow.afterParams a t.tempo.applied prs
    let w := (t.writeShadow n bank).endMorphing n (a.writtenBy t.slots[n].shadow prs)
    let evaluated := w.evalWritten n (a.evaluatedBy t.slots[n].shadow prs)
    let emptied := w.evaluationFails n (a.evaluatedBy t.slots[n].shadow prs)
    ((∀ pr ∈ prs, a.admits pr.1 pr.2 = true) → ¬ lockedTime →
      ∃ u, exec (.params p tag body) s = .next u ∧ u.sameSlotsBut t n ∧ u.pool = evaluated.pool.startJob
        ∧ u.surroundings = ((t.renew p n).placeResult p ⟨tag, 0x03, .done, []⟩).surroundings
        ∧ (t.slots[n].state ≠ .preparing ∨ ¬ emptied →
          u.slots[n] = { t.slots[n] with
            shadow := bank, swapPending := true, lines := evaluated.slots[n].lines, clamped := evaluated.slots[n].clamped }
          ∧ u.voices[n] = t.voices[n]
          ∧ (t.morphs[n] = none → u.morphs[n] = none)
          ∧ (∀ m, t.morphs[n] = some m →
            ((∀ ix : ParamIx, m.morphing.getLsbD ix.val = true → leaves ix) → u.morphs[n] = none)
            ∧ ((∃ ix : ParamIx, m.morphing.getLsbD ix.val = true ∧ ¬ leaves ix) →
              ∃ x, u.morphs[n] = some { m with morphing := x }
                ∧ ∀ ix : ParamIx, x.getLsbD ix.val = true ↔ m.morphing.getLsbD ix.val = true ∧ ¬ leaves ix)))
        ∧ (t.slots[n].state = .preparing → emptied → t.emptiedFrom u n))
    ∧ ((∃ pr ∈ prs, a.admits pr.1 pr.2 = false) ∨ lockedTime →
      exec (.params p tag body) s = .next (t.placeResult p ⟨tag, 0x03, .range, []⟩))

/-- R8, R11, R70 (log 36 for a request taken while the Voice Engine is stopped): MUTE and UNMUTE in every slot state: a RUNNING slot is muted
and a MUTED one unmuted with an 8-block fade from the present gain, and while the Voice Engine is stopped its voice record stays as it was; a
PREPARING slot takes the field alone; a slot already there is unchanged; an EMPTY or FADING slot refuses with STATE. -/
def Obligations.MuteAndUnmute : Prop :=
  ∀ (s t : State) (p : Port) (tag b0 : Byte) (n : SlotId), slotField b0 = some n → t.holds[n].holder ≠ some p.other →
    (s.takeCommand p (ownCommand tag 0x04 [b0]) = some t →
      (t.slots[n].state = .running →
        exec (.mute p tag [b0]) s = .next (({ (t.renew p n) with
          slots := t.slots.set n { t.slots[n] with state := .muted, muteWanted := true },
          voices := if t.stopped then t.voices else t.voices.set n { t.voices[n] with
            inputOpen := false,
            fade := if t.voices[n].begun then some { start := t.voices[n].gain, target := 0, length := 8, left := 8 }
                    else t.voices[n].fade } }).placeResult p ⟨tag, 0x04, .done, []⟩))
      ∧ (t.slots[n].state = .muted → exec (.mute p tag [b0]) s = .next ((t.renew p n).placeResult p ⟨tag, 0x04, .done, []⟩))
      ∧ (t.slots[n].state = .preparing →
        exec (.mute p tag [b0]) s = .next (({ (t.renew p n) with
          slots := t.slots.set n { t.slots[n] with muteWanted := true } }).placeResult p ⟨tag, 0x04, .done, []⟩))
      ∧ (t.slots[n].state = .empty ∨ t.slots[n].state = .fading →
        exec (.mute p tag [b0]) s = .next (t.placeResult p ⟨tag, 0x04, .state, []⟩)))
    ∧ (s.takeCommand p (ownCommand tag 0x05 [b0]) = some t →
      (t.slots[n].state = .muted →
        exec (.unmute p tag [b0]) s = .next (({ (t.renew p n) with
          slots := t.slots.set n { t.slots[n] with state := .running, muteWanted := false },
          voices := if t.stopped then t.voices else t.voices.set n { t.voices[n] with
            inputOpen := t.voices[n].begun && !t.slots[n].frozen,
            fade := if t.voices[n].begun then some { start := t.voices[n].gain, target := 1, length := 8, left := 8 }
                    else t.voices[n].fade } }).placeResult p ⟨tag, 0x05, .done, []⟩))
      ∧ (t.slots[n].state = .running → exec (.unmute p tag [b0]) s = .next ((t.renew p n).placeResult p ⟨tag, 0x05, .done, []⟩))
      ∧ (t.slots[n].state = .preparing →
        exec (.unmute p tag [b0]) s = .next (({ (t.renew p n) with
          slots := t.slots.set n { t.slots[n] with muteWanted := false } }).placeResult p ⟨tag, 0x05, .done, []⟩))
      ∧ (t.slots[n].state = .empty ∨ t.slots[n].state = .fading →
        exec (.unmute p tag [b0]) s = .next (t.placeResult p ⟨tag, 0x05, .state, []⟩)))

/-- R21, R22: ROUTE writes send set and return pair on a slot that is not FADING. READ SLOT returns the record and clears the clip flag,
unless the other port holds the slot; it renews nothing. -/
def Obligations.RouteAndReadSlot : Prop :=
  ∀ (s t : State) (p : Port) (tag b0 b1 b2 : Byte) (n : SlotId) (r : PairId), slotField b0 = some n →
    (s.takeCommand p (ownCommand tag 0x06 [b0, b1, b2]) = some t → pairField b2 = some r → t.holds[n].holder ≠ some p.other →
      t.slots[n].state ≠ .fading →
      exec (.route p tag [b0, b1, b2]) s = .next (({ (t.renew p n) with
        slots := t.slots.set n { t.slots[n] with sendSet := b1, returnPair := r } }).placeResult p ⟨tag, 0x06, .done, []⟩))
    ∧ (s.takeCommand p (ownCommand tag 0x07 [b0]) = some t →
      exec (.readSlot p tag [b0]) s = .next (({ t with
        slots := t.slots.set n { t.slots[n] with clip := t.slots[n].clip && t.holds[n].holder == some p.other } }).placeResult p
          ⟨tag, 0x07, .done, t.slotReadout n⟩)
      ∧ (t.slotReadout n).length = 67
      ∧ (t.slotReadout n).take 5 = [t.slots[n].state.code, t.slots[n].algorithm.elim 0 Alg.code,
          t.slots[n].next.elim 0xFF Alg.code, t.slots[n].sendSet, BitVec.ofNat 8 t.slots[n].returnPair.val])

/-- R136: ASSIGN, CLEAR, PARAMS, MUTE, UNMUTE and ROUTE that name a slot the other port holds are refused with HELD and the conflict list,
and change nothing. -/
def Obligations.HeldSlotRefusesTheOtherPort : Prop :=
  ∀ (s t : State) (p : Port) (tag b0 b1 b2 : Byte) (n : SlotId), slotField b0 = some n → t.holds[n].holder = some p.other →
    (s.takeCommand p (ownCommand tag 0x01 [b0, b1]) = some t → t.power ≠ .quiet → (algField b1).isSome = true →
      exec (.assign p tag [b0, b1]) s = .next (t.placeResult p ⟨tag, 0x01, .held, maskBytes (1#16 <<< n.val)⟩))
    ∧ (s.takeCommand p (ownCommand tag 0x02 [b0]) = some t → t.power ≠ .quiet →
      exec (.clear p tag [b0]) s = .next (t.placeResult p ⟨tag, 0x02, .held, maskBytes (1#16 <<< n.val)⟩))
    ∧ (∀ (body : List Byte) (raw : List (Byte × Int)), s.takeCommand p (ownCommand tag 0x03 body) = some t →
      paramsBody body = some (b0, raw) → (indexedPairs raw).isSome = true →
      exec (.params p tag body) s = .next (t.placeResult p ⟨tag, 0x03, .held, maskBytes (1#16 <<< n.val)⟩))
    ∧ (s.takeCommand p (ownCommand tag 0x04 [b0]) = some t →
      exec (.mute p tag [b0]) s = .next (t.placeResult p ⟨tag, 0x04, .held, maskBytes (1#16 <<< n.val)⟩))
    ∧ (s.takeCommand p (ownCommand tag 0x05 [b0]) = some t →
      exec (.unmute p tag [b0]) s = .next (t.placeResult p ⟨tag, 0x05, .held, maskBytes (1#16 <<< n.val)⟩))
    ∧ (s.takeCommand p (ownCommand tag 0x06 [b0, b1, b2]) = some t → (pairField b2).isSome = true →
      exec (.route p tag [b0, b1, b2]) s = .next (t.placeResult p ⟨tag, 0x06, .held, maskBytes (1#16 <<< n.val)⟩))

/-! ### Reports and holds -/

/-- R53, R93, R122: READ POOL and READ TEMPO return their reports and change nothing; READ RECALL returns the Recall Record and clears last
aborted. -/
def Obligations.ReportsAreRead : Prop :=
  ∀ (s t : State) (p : Port) (tag : Byte),
    (s.takeCommand p (ownCommand tag 0x10 []) = some t →
      exec (.readPool p tag []) s = .next (t.placeResult p ⟨tag, 0x10, .done,
        byte2 (t.pool.runs.map (·.count)).sum ++ byte2 (t.pool.runs.foldl (fun m r => max m r.count) 0)
          ++ byte1 t.pool.runs.length ++ byte1 (allEntries.filter fun e => t.pool.entries[e].isNone).length
          ++ byte2 t.pool.queuedPages⟩))
    ∧ (s.takeCommand p (ownCommand tag 0x33 []) = some t →
      exec (.readTempo p tag []) s = .next (t.placeResult p ⟨tag, 0x33, .done, t.tempo.report⟩) ∧ t.tempo.report.length = 18)
    ∧ (s.takeCommand p (ownCommand tag 0x26 []) = some t →
      exec (.readRecall p tag []) s = .next (({ t with
        recallRecord := { t.recallRecord with lastAborted := none } }).placeResult p
          ⟨tag, 0x26, .done, t.recallRecord.report⟩) ∧ t.recallRecord.report.length = 9)

/-- R132: TAKE HOLD takes or renews every listed slot at the port's lease length, or, when the other port holds one of them, none, with HELD
and the conflict list. -/
def Obligations.TakeHoldAllOrNone : Prop :=
  ∀ (s t : State) (p : Port) (tag hi lo : Byte), s.takeCommand p (ownCommand tag 0x11 [hi, lo]) = some t →
    ((∀ n : SlotId, slotIn (bits16 hi lo) n = true → t.holds[n].holder ≠ some p.other) →
      ∃ u, exec (.takeHold p tag [hi, lo]) s = .next u ∧ u.flagsOf = t.flagsOf
        ∧ (∀ n : SlotId, u.holds[n] =
            if slotIn (bits16 hi lo) n then { holder := some p, count := (t.port p).lease } else t.holds[n])
        ∧ u.outsideHolds = (t.placeResult p ⟨tag, 0x11, .done, u.holdReport p⟩).outsideHolds)
    ∧ ((∃ n : SlotId, slotIn (bits16 hi lo) n = true ∧ t.holds[n].holder = some p.other) →
      exec (.takeHold p tag [hi, lo]) s = .next (t.placeResult p
        ⟨tag, 0x11, .held, maskBytes (slotSet fun n => slotIn (bits16 hi lo) n && t.holds[n].holder == some p.other)⟩))

/-- R133, R134: RELEASE HOLD releases the listed slots the port holds, without HOLD_LOST, and counts them and the others. SET LEASE of 4 to
240 writes the port's lease length and leaves every running hold alone; any other value is refused with RANGE. -/
def Obligations.ReleaseHoldAndSetLease : Prop :=
  ∀ (s t : State) (p : Port) (tag hi lo units : Byte),
    (s.takeCommand p (ownCommand tag 0x12 [hi, lo]) = some t →
      ∃ u, exec (.releaseHold p tag [hi, lo]) s = .next u ∧ u.flagsOf = t.flagsOf
        ∧ (∀ n : SlotId, u.holds[n] =
            if slotIn (bits16 hi lo) n && t.holds[n].holder == some p then { holder := none, count := 0 } else t.holds[n])
        ∧ u.outsideHolds = (t.placeResult p ⟨tag, 0x12, .done,
            byte1 ((slotsOf (bits16 hi lo)).filter fun n => t.holds[n].holder == some p).length
              ++ byte1 ((slotsOf (bits16 hi lo)).filter fun n => t.holds[n].holder != some p).length
              ++ u.holdReport p⟩).outsideHolds)
    ∧ (s.takeCommand p (ownCommand tag 0x13 [units]) = some t →
      (4 ≤ units.toNat ∧ units.toNat ≤ 240 →
        exec (.setLease p tag [units]) s = .next ((t.setPort p { t.port p with lease := units.toNat }).placeResult p
          ⟨tag, 0x13, .done, maskBytes (slotSet fun n => t.holds[n].holder == some p)
            ++ maskBytes (slotSet fun n => t.holds[n].holder == some p.other) ++ [units]⟩))
      ∧ (units.toNat < 4 ∨ 240 < units.toNat →
        exec (.setLease p tag [units]) s = .next (t.placeResult p ⟨tag, 0x13, .range, []⟩)))

/-- R131 (log 5): a lease tick lowers the count of every held slot by 1; a count that reaches 0 expires the hold, with HOLD_LOST in the
holder's port alone. HOLD_EXPIRY is the expiry of one hold at its last unit. Nothing else changes. -/
def Obligations.LeasesTickAndExpire : Prop :=
  ∀ (s : State), s.power ≠ .starting →
    (∃ u, exec .leaseTick s = .next u ∧ u.outsideHolds = s.outsideHolds
      ∧ (∀ n : SlotId, u.holds[n] =
          if s.holds[n].holder = none then s.holds[n]
          else if s.holds[n].count ≤ 1 then { holder := none, count := 0 }
          else { s.holds[n] with count := s.holds[n].count - 1 })
      ∧ ∀ q, (u.port q).flags = (s.port q).flags |||
          (if allSlots.any (fun n => s.holds[n].holder == some q && s.holds[n].count ≤ 1) then 0x200 else 0))
    ∧ ∀ (n : SlotId) (q : Port), s.holds[n].holder = some q → s.holds[n].count ≤ 1 →
      ∃ u, exec (.holdExpiry n) s = .next u ∧ u.outsideHolds = s.outsideHolds
        ∧ u.holds = s.holds.set n { holder := none, count := 0 } ∧ (u.port q).flags = (s.port q).flags ||| 0x200
        ∧ (u.port q.other).flags = (s.port q.other).flags

/-! ### Scenes, recalls and morphs -/

/-- R111: STORE SCENE makes the record from the listed slots that are not EMPTY, in slot order, with their routing, mute wanted and active
banks; the result counts entries stored and slots skipped. A list that yields no entry is refused with EMPTY. -/
def Obligations.StoreSceneCaptures : Prop :=
  ∀ (s t : State) (p : Port) (tag b0 hi lo flag tHi tLo : Byte) (k : SceneId) (keep : Bool) (time : Nat),
    s.takeCommand p (ownCommand tag 0x20 [b0, hi, lo, flag, tHi, tLo]) = some t → sceneField b0 = some k →
    boolField flag = some keep → morphField tHi tLo = some time →
    let listed := slotsOf (bits16 hi lo)
    let entries := listed.filterMap t.captureEntry
    (∀ (n : SlotId) (a : Alg), t.slots[n].state ≠ .empty → t.slots[n].algorithm = some a →
      t.captureEntry n = some { slot := n, algorithm := a, sendSet := t.slots[n].sendSet, returnPair := t.slots[n].returnPair,
                                mute := t.slots[n].muteWanted, params := a.listedOnly t.slots[n].active })
    ∧ (∀ n : SlotId, t.slots[n].state = .empty → t.captureEntry n = none)
    ∧ (entries ≠ [] →
      ∃ u, exec (.storeScene p tag [b0, hi, lo, flag, tHi, tLo]) s = .next u ∧ u.flagsOf = t.flagsOf
        ∧ u.scenes = t.scenes.set k
          { state := .valid, entries := entries,
            tempo := if keep then some t.tempo.applied else none, morphTime := time, check := u.scenes[k].freshCheck }
        ∧ u.outsideScenes = (t.placeResult p ⟨tag, 0x20, .done,
            [BitVec.ofNat 8 entries.length, BitVec.ofNat 8 (listed.length - entries.length)]⟩).outsideScenes)
    ∧ (entries = [] →
      exec (.storeScene p tag [b0, hi, lo, flag, tHi, tLo]) s = .next (t.placeResult p ⟨tag, 0x20, .empty, []⟩))

/-- R112: WRITE SCENE ENTRY on an EMPTY record, or on a VALID one that matches its check value, places the entry (replacing one for the same
slot), writes tempo and default morph time, and seals the record. -/
def Obligations.WriteSceneEntryPlaces : Prop :=
  ∀ (s t : State) (p : Port) (tag b0 vHi vLo tHi tLo : Byte) (rest : List Byte) (k : SceneId) (tempo : Option Nat) (time : Nat)
    (e : SceneEntry),
    s.takeCommand p (ownCommand tag 0x21 (b0 :: vHi :: vLo :: tHi :: tLo :: rest)) = some t → rest.length = 29 →
    sceneField b0 = some k → sceneTempoField vHi vLo = some tempo → morphField tHi tLo = some time → entryField rest = some e →
    (t.scenes[k].state = .empty ∧ t.scenes[k].entries = []
      ∨ t.scenes[k].state = .valid ∧ t.scenes[k].check = t.scenes[k].freshCheck) →
    (t.scenes[k].entries.Pairwise fun a b => a.slot < b.slot) →
    ∃ u, exec (.writeSceneEntry p tag (b0 :: vHi :: vLo :: tHi :: tLo :: rest)) s = .next u ∧ u.flagsOf = t.flagsOf
      ∧ (∀ x, x ∈ u.scenes[k].entries ↔ x = e ∨ x ∈ t.scenes[k].entries ∧ x.slot ≠ e.slot)
      ∧ (u.scenes[k].entries.Pairwise fun a b => a.slot < b.slot)
      ∧ u.scenes = t.scenes.set k { state := .valid, entries := u.scenes[k].entries, tempo := tempo, morphTime := time,
                                    check := u.scenes[k].freshCheck }
      ∧ u.outsideScenes = (t.placeResult p ⟨tag, 0x21, .done, [BitVec.ofNat 8 u.scenes[k].entries.length]⟩).outsideScenes

/-- R113: ERASE SCENE makes the record EMPTY whatever its state; a number beyond 31 is refused with RANGE. -/
def Obligations.EraseSceneEmpties : Prop :=
  ∀ (s t : State) (p : Port) (tag b0 : Byte), s.takeCommand p (ownCommand tag 0x22 [b0]) = some t →
    (∀ k : SceneId, b0.toNat = k.val →
      exec (.eraseScene p tag [b0]) s = .next (({ t with
        scenes := t.scenes.set k { state := .empty, entries := [], tempo := none, morphTime := 0, check := 0 } }).placeResult p
          ⟨tag, 0x22, .done, []⟩))
    ∧ (32 ≤ b0.toNat → exec (.eraseScene p tag [b0]) s = .next (t.placeResult p ⟨tag, 0x22, .range, []⟩))

/-- R114, R185 (log 42: where there is no entry the header of 6 bytes, state, count, tempo and default morph time, is the model's reading,
against R153's "state and count only"): READ SCENE of an EMPTY record returns its header, and of a VALID one that matches its check value the
header and the entry at the position, if there is one. It changes nothing. -/
def Obligations.ReadSceneReturns : Prop :=
  ∀ (s t : State) (p : Port) (tag b0 b1 : Byte) (k : SceneId),
    s.takeCommand p (ownCommand tag 0x23 [b0, b1]) = some t → sceneField b0 = some k → b1.toNat ≤ 15 →
    let header := [t.scenes[k].state.code, BitVec.ofNat 8 t.scenes[k].entries.length] ++ byte2 (t.scenes[k].tempo.getD 0)
      ++ byte2 t.scenes[k].morphTime
    (t.scenes[k].state = .empty →
      exec (.readScene p tag [b0, b1]) s = .next (t.placeResult p ⟨tag, 0x23, .done, header⟩))
    ∧ (t.scenes[k].state = .valid → t.scenes[k].check = t.scenes[k].freshCheck →
      (∀ e, t.scenes[k].entries[b1.toNat]? = some e →
        exec (.readScene p tag [b0, b1]) s = .next (t.placeResult p ⟨tag, 0x23, .done, header ++ e.bytes⟩)
        ∧ e.bytes.length = 29)
      ∧ (t.scenes[k].entries.length ≤ b1.toNat →
        exec (.readScene p tag [b0, b1]) s = .next (t.placeResult p ⟨tag, 0x23, .done, header⟩)))

/-- R109: a VALID record that does not match its check value becomes CORRUPT, with STORE_FAULT in both ports, at the READ SCENE, WRITE SCENE
ENTRY or RECALL of it, which is refused with CORRUPT. A record already CORRUPT refuses the same way and raises nothing. -/
def Obligations.CorruptRecordRefused : Prop :=
  ∀ (s t : State) (p : Port) (tag b0 b1 b2 vHi vLo tHi tLo : Byte) (rest : List Byte) (g : Bool) (k : SceneId),
    sceneField b0 = some k → (t.scenes[k].state = .corrupt ∨ t.scenes[k].state = .valid ∧ t.scenes[k].check ≠ t.scenes[k].freshCheck) →
    let found := { t with
      scenes := t.scenes.set k { t.scenes[k] with state := .corrupt },
      portA := { t.portA with flags := t.portA.flags ||| (if t.scenes[k].state = SceneState.valid then 0x100 else 0) },
      portB := { t.portB with flags := t.portB.flags ||| (if t.scenes[k].state = SceneState.valid then 0x100 else 0) } }
    (s.takeCommand p (ownCommand tag 0x23 [b0, b1]) = some t → b1.toNat ≤ 15 →
      exec (.readScene p tag [b0, b1]) s = .next (found.placeResult p ⟨tag, 0x23, .corrupt, [2]⟩))
    ∧ (s.takeCommand p (ownCommand tag 0x21 (b0 :: vHi :: vLo :: tHi :: tLo :: rest)) = some t → rest.length = 29 →
      (sceneTempoField vHi vLo).isSome = true → (morphField tHi tLo).isSome = true → (entryField rest).isSome = true →
      exec (.writeSceneEntry p tag (b0 :: vHi :: vLo :: tHi :: tLo :: rest)) s
        = .next (found.placeResult p ⟨tag, 0x21, .corrupt, []⟩))
    ∧ (s.takeCommand p { tag := tag, code := 0x24, generalCall := g, body := [b0, b1, b2] } = some t → t.power ≠ .quiet →
      (recallMorphField b1 b2).isSome = true →
      exec (.recallScene p tag g [b0, b1, b2]) s = .next (found.placeResult p ⟨tag, 0x24, .corrupt, []⟩))

/-- R52, R115 to R120, R122, R128, R139 (log 17 for the entry whose replacement cannot be placed, log 18 for the derived time of a locked
entry among the values written at once, log 40 for the order of the lines; all three are the model's readings): a RECALL of a VALID record
that matches its check value is ACCEPTED. A RUNNING recall is aborted; the Recall Record takes the scene and the origin; the scene's tempo is
written as the control tempo when the source mode is CONTROL, and the mark says so; every entry is then decided in order and counted once. An
entry whose slot is held by the other port (by either, for a general call) is skipped. An entry on an EMPTY or PREPARING slot prepares it at the
entry's sizes (a PREPARING slot of the same algorithm takes the values and replaces its regions, and is emptied with POOL_SHORT and counted
failed just when one cannot be placed); one with the algorithm of a RUNNING or MUTED slot routes and mutes it and gives it a morph, or a cut
where nothing moves or no step is made; any other entry waits in the Pending Entry Table for the slot's fade end. A failure of the load or pool
check leaves the slot as it was. The record is DONE at once when no slot waits and RUNNING otherwise. A RECALL of an EMPTY record is refused
with EMPTY. -/
def Obligations.RecallCountsEveryEntry : Prop :=
  (∀ (s t : State) (p : Port) (tag b0 b1 b2 : Byte) (g : Bool) (k : SceneId) (time : Option Nat),
    s.takeCommand p { tag := tag, code := 0x24, generalCall := g, body := [b0, b1, b2] } = some t → t.power ≠ .quiet →
    sceneField b0 = some k → recallMorphField b1 b2 = some time →
    (t.scenes[k].state = .empty → exec (.recallScene p tag g [b0, b1, b2]) s = .next (t.placeResult p ⟨tag, 0x24, .empty, []⟩))
    ∧ (t.scenes[k].state = .valid → t.scenes[k].check = t.scenes[k].freshCheck →
      (t.scenes[k].entries.Pairwise fun a b => a.slot < b.slot) →
      let origin : Origin := match p, g with | .a, false => .a | .b, false => .b | .a, true => .callA | .b, true => .callB
      let opened := ((t.abortRecall.openRecall k origin).offerTempo t.scenes[k].tempo).1
      let steps := ((time.getD t.scenes[k].morphTime) * t.rate.perMs + 31) / 32
      let settled := t.scenes[k].entries.foldl (State.recallEntry p g steps) opened
      ∃ u mark, exec (.recallScene p tag g [b0, b1, b2]) s = .next u
        ∧ u.slots = settled.slots ∧ u.morphs = settled.morphs ∧ u.entries = settled.entries ∧ u.voices = settled.voices
        ∧ u.pool = settled.pool.startJob
        ∧ u.recallRecord.scene = some k ∧ u.recallRecord.origin = origin
        ∧ u.recallRecord.applied + u.recallRecord.skipped + u.recallRecord.failed = t.scenes[k].entries.length
        ∧ u.recallRecord.skipped = (t.scenes[k].entries.filter fun e =>
            t.holds[e.slot].holder == some p.other || g && t.holds[e.slot].holder == some p).length
        ∧ u.recallRecord.state = (if u.recallRecord.waiting = 0 then .done else .running)
        ∧ u.recallRecord.lastAborted = (if t.recallRecord.state = .running then t.recallRecord.scene else t.recallRecord.lastAborted)
        ∧ (u.recallRecord.waiting = 0 ∨ t.recallRecord.state = .running → u.flagged .recallDone)
        ∧ (t.scenes[k].tempo = none → mark = 0 ∧ u.tempo = t.tempo)
        ∧ (∀ v, t.scenes[k].tempo = some v → t.tempo.mode ≠ .control → mark = 2 ∧ u.tempo = t.tempo)
        ∧ (∀ v, t.scenes[k].tempo = some v → t.tempo.mode = .control →
          mark = 1 ∧ u.tempo.control = v ∧ u.tempo.source = .control ∧ u.tempo.applied = v
          ∧ u.tempo.lastPropagated =
              (if v ≠ t.tempo.applied ∧ 5 ≤ (v - t.tempo.lastPropagated) + (t.tempo.lastPropagated - v) then v
               else t.tempo.lastPropagated))
        ∧ u.scenes = t.scenes ∧ u.audio = t.audio ∧ u.modulation = t.modulation ∧ u.power = t.power
        ∧ (∀ n : SlotId, u.holds[n].holder = t.holds[n].holder)
        ∧ (u.port p).results = (t.port p).results ++ [⟨tag, 0x24, .accepted,
            [BitVec.ofNat 8 u.recallRecord.applied, BitVec.ofNat 8 u.recallRecord.skipped,
             BitVec.ofNat 8 u.recallRecord.failed, mark]⟩]))
  ∧ (∀ (v : State) (p : Port) (g : Bool) (steps : Nat) (e : SceneEntry),
    let n := e.slot
    let u := State.recallEntry p g steps v e
    let skip := v.holds[n].holder = some p.other ∨ g = true ∧ v.holds[n].holder = some p
    let bank := v.entryBank e
    let fits := fun (units : Nat) => v.loadTally - v.slots[n].load + units ≤ v.rate.budget
    let request := v.pool.allocate n (allocationSizes v.rate e.algorithm bank)
    let waits := u.recallRecord = v.recallRecord.appliedWaiting n
    let prepared := fun (es : List EntryId) => u.slots[n] = { v.slots[n] with
      state := .preparing, algorithm := some e.algorithm, next := none, sendSet := e.sendSet, returnPair := e.returnPair,
      active := e.algorithm.defaults, shadow := bank, swapPending := true,
      lines := es.map fun x => { current := x, retiring := none, growth := .steady, deferred := none },
      clamped := false, muteWanted := e.mute }
    u.sameSlotsBut v n
    ∧ bank = (let b := e.algorithm.listedOnly e.params
              if (e.algorithm = .tape ∨ e.algorithm = .pingpong) ∧ b[2].toNat ≠ 0 then
                b.set 0 (derivedTime e.algorithm v.tempo.applied b[2].toNat) else b)
    ∧ (skip → u = { v with recallRecord := { v.recallRecord with skipped := v.recallRecord.skipped + 1 } })
    ∧ (¬ skip → slotIn v.recallRecord.waiting n = false →
      (v.slots[n].state = .empty →
        (∀ q es, fits e.algorithm.load → request = .ok (q, es) → prepared es ∧ u.pool = q ∧ waits)
        ∧ ((∃ f, request = .error f) ∨ ¬ fits e.algorithm.load → v.entryFailed u))
      ∧ (v.slots[n].state = .preparing → v.slots[n].algorithm = some e.algorithm →
        let w := (v.takeRouting n e).writeShadow n bank
        (¬ w.evaluationFails n allParams →
          u.slots[n] = { v.slots[n] with
            sendSet := e.sendSet, returnPair := e.returnPair, muteWanted := e.mute, shadow := bank, swapPending := true,
            lines := (w.evalWritten n allParams).slots[n].lines, clamped := (w.evalWritten n allParams).slots[n].clamped }
          ∧ u.pool = (w.evalWritten n allParams).pool ∧ waits)
        ∧ (w.evaluationFails n allParams →
          w.emptiedFrom u n ∧ u.morphs[n] = none ∧ u.entries[n] = none ∧ u.pool = (w.evalWritten n allParams).pool
          ∧ u.recallRecord = { v.recallRecord with failed := v.recallRecord.failed + 1 }))
      ∧ (v.slots[n].state = .preparing → v.slots[n].algorithm ≠ some e.algorithm →
        (∀ q es, fits e.algorithm.load → request = .ok (q, es) →
          prepared es ∧ u.pool = (v.slots[n].lines.flatMap fun ln => ln.current :: ln.retiring.toList).foldl Pool.giveBack q ∧ waits)
        ∧ ((∃ f, request = .error f) ∨ ¬ fits e.algorithm.load → v.entryFailed u))
      ∧ (v.slots[n].state = .running ∨ v.slots[n].state = .muted → v.slots[n].algorithm = some e.algorithm →
        let moves := e.algorithm.morphingSet v.slots[n].active bank
        u.slots[n].sendSet = e.sendSet ∧ u.slots[n].returnPair = e.returnPair
        ∧ u.slots[n].state = (if e.mute then .muted else .running) ∧ u.slots[n].active = v.slots[n].active
        ∧ u.slots[n].swapPending = true
        ∧ (1 ≤ steps → moves ≠ [] →
          u.morphs[n] = some { start := v.slots[n].active, target := bank, total := steps, done := 0, morphing := paramSet moves }
          ∧ (∀ ix : ParamIx, u.slots[n].shadow[ix] =
              if e.algorithm.lists ix = true ∧ ix ∉ moves then bank[ix] else v.slots[n].shadow[ix])
          ∧ waits)
        ∧ (steps = 0 ∨ moves = [] →
          u.morphs[n] = none ∧ u.slots[n].shadow = bank
          ∧ u.recallRecord = { v.recallRecord with applied := v.recallRecord.applied + 1 }))
      ∧ (∀ old, v.slots[n].state = .running ∨ v.slots[n].state = .muted → v.slots[n].algorithm = some old → old ≠ e.algorithm →
        (fits (max old.load e.algorithm.load) →
          u.slots[n] = { v.slots[n] with state := .fading, next := some e.algorithm } ∧ u.entries[n] = some e
          ∧ u.morphs[n] = none ∧ u.pool = v.pool ∧ waits
          ∧ u.voices[n] = { v.voices[n] with
              inputOpen := false,
              fade := if v.voices[n].begun then some { start := v.voices[n].gain, target := 0, length := 16, left := 16 }
                      else v.voices[n].fade })
        ∧ (¬ fits (max old.load e.algorithm.load) → v.entryFailed u))
      ∧ (∀ old, v.slots[n].state = .fading → v.slots[n].algorithm = some old →
        (fits (max old.load e.algorithm.load) →
          u.slots[n] = { v.slots[n] with next := some e.algorithm } ∧ u.entries[n] = some e ∧ u.morphs = v.morphs
          ∧ u.pool = v.pool ∧ u.voices = v.voices ∧ waits)
        ∧ (¬ fits (max old.load e.algorithm.load) → v.entryFailed u))))

/-- R127: ABORT MORPH, with no listed slot held by the other port, removes the morph entries of the listed slots, whose banks stay, and
counts them; with one it is refused with HELD and removes nothing. -/
def Obligations.AbortMorphRemoves : Prop :=
  ∀ (s t : State) (p : Port) (tag hi lo : Byte), s.takeCommand p (ownCommand tag 0x25 [hi, lo]) = some t →
    ((∀ n : SlotId, slotIn (bits16 hi lo) n = true → t.holds[n].holder ≠ some p.other) →
      ∃ u, exec (.abortMorph p tag [hi, lo]) s = .next u
        ∧ (∀ n : SlotId, u.morphs[n] = if slotIn (bits16 hi lo) n then none else t.morphs[n])
        ∧ u.slots = t.slots ∧ u.voices = t.voices ∧ u.pool = t.pool ∧ u.entries = t.entries
        ∧ (u.port p).results = (t.port p).results ++ [⟨tag, 0x25, .done,
            [BitVec.ofNat 8 ((slotsOf (bits16 hi lo)).filter fun n => t.morphs[n].isSome).length]⟩])
    ∧ ((∃ n : SlotId, slotIn (bits16 hi lo) n = true ∧ t.holds[n].holder = some p.other) →
      exec (.abortMorph p tag [hi, lo]) s = .next (t.placeResult p
        ⟨tag, 0x25, .held, maskBytes (slotSet fun n => slotIn (bits16 hi lo) n && t.holds[n].holder == some p.other)⟩))

/-! ### Tempo -/

/-- R76, R91: SET TEMPO writes the control tempo. With CONTROL the arbiter's choice, it becomes the applied tempo; a change of 5 or more
from the last propagated tempo propagates it, with TEMPO_CHANGED, and a smaller one does not. Nothing outside the Tempo Unit changes. -/
def Obligations.SetTempoPropagates : Prop :=
  ∀ (s t : State) (p : Port) (tag hi lo : Byte), s.takeCommand p (ownCommand tag 0x30 [hi, lo]) = some t →
    let v := word16 hi lo
    let far := (v - t.tempo.lastPropagated) + (t.tempo.lastPropagated - v)
    (3000 ≤ v ∧ v ≤ 30000 →
      ∃ u, exec (.setTempo p tag [hi, lo]) s = .next u ∧ u.tempo.control = v
        ∧ u.outsideTempo = (t.placeResult p ⟨tag, 0x30, .done, []⟩).outsideTempo
        ∧ (t.tempo.choice = .control →
          u.tempo.source = .control ∧ u.tempo.applied = v
          ∧ (v ≠ t.tempo.applied → 5 ≤ far →
            u.tempo.lastPropagated = v ∧ u.tempo.toSlots = t.tempo.toSlots ++ [v]
              ∧ u.tempo.toModulation = t.tempo.toModulation ++ [.propagation v] ∧ u.flagged .tempoChanged)
          ∧ (v = t.tempo.applied ∨ far < 5 →
            u.tempo.lastPropagated = t.tempo.lastPropagated ∧ u.tempo.toSlots = t.tempo.toSlots
              ∧ u.tempo.toModulation = t.tempo.toModulation
              ∧ (∀ q, (u.port q).hasFlag .tempoChanged = (t.port q).hasFlag .tempoChanged))))
    ∧ (v < 3000 ∨ 30000 < v → exec (.setTempo p tag [hi, lo]) s = .next (t.placeResult p ⟨tag, 0x30, .range, []⟩))

/-- R74, R79, R104, R105: SET TEMPO SOURCE writes the mode and re-evaluates the source; SET TAP OPTIONS, SEED RANDOM and SET RANDOM MODE
write their fields and nothing else; a seed of 0 is refused with RANGE. -/
def Obligations.ModeCommands : Prop :=
  ∀ (s t : State) (p : Port) (tag b0 b1 : Byte),
    (∀ m, s.takeCommand p (ownCommand tag 0x31 [b0]) = some t → modeField b0 = some m →
      ∃ u, exec (.setTempoSource p tag [b0]) s = .next u ∧ u.tempo.mode = m ∧ u.tempo.source = u.tempo.choice
        ∧ (∀ v, u.tempo.offer u.tempo.source = some v → u.tempo.applied = v)
        ∧ u.outsideTempo = (t.placeResult p ⟨tag, 0x31, .done, []⟩).outsideTempo)
    ∧ (∀ on, s.takeCommand p (ownCommand tag 0x34 [b0]) = some t → boolField b0 = some on →
      exec (.setTapOptions p tag [b0]) s = .next (({ t with
        tempo := { t.tempo with spikeRejection := on } }).placeResult p ⟨tag, 0x34, .done, []⟩))
    ∧ (s.takeCommand p (ownCommand tag 0x41 [b0, b1]) = some t →
      (b0 ++ b1 ≠ 0#16 →
        exec (.seedRandom p tag [b0, b1]) s = .next (({ t with
          modulation := { t.modulation with lfsr := b0 ++ b1, mixing := 0 } }).placeResult p ⟨tag, 0x41, .done, []⟩))
      ∧ (b0 ++ b1 = 0#16 → exec (.seedRandom p tag [b0, b1]) s = .next (t.placeResult p ⟨tag, 0x41, .range, []⟩)))
    ∧ (∀ m, s.takeCommand p (ownCommand tag 0x42 [b0]) = some t → randomField b0 = some m →
      exec (.setRandomMode p tag [b0]) s = .next (({ t with
        modulation := { t.modulation with mode := m } }).placeResult p ⟨tag, 0x42, .done, []⟩))

/-- R82, R83, R85 (log 4 for the time that the row carries): TAP, at the port's own address or by general call, counts a tap at its
decision's time. The first tap gives no interval; an interval below 200 is a bounce and changes nothing; one of 200 to 2000 is appended to
those held, the oldest of four dropped, unless it lies further than a quarter of their mean from it, when it stands alone; the tap tempo is
6000000 over the mean interval, to the nearest whole number with a half rounded up. -/
def Obligations.TapTempo : Prop :=
  ∀ (s t : State) (p : Port) (tag : Byte) (g : Bool) (time : Nat),
    s.takeCommand p { tag := tag, code := 0x32, generalCall := g, body := [] } = some t →
    ∃ u, exec (.tap p tag g [] time) s = .next u ∧ u.outsideTempo = (t.placeResult p ⟨tag, 0x32, .done, []⟩).outsideTempo
      ∧ t.tapEntered u time

/-- R77 to R84 (log 4 for the times that the rows carry): the footswitch. A falling edge starts a pulse; a release before 600 ms is a
spike below 8 ms (with spike rejection) and otherwise a tap at the edge's time, which meets the cases of R82 as a TAP does; at 600 the history
is cleared and a RESYNC handed over; at 3000 TAP_FAULT is raised; a release from HELD, or a high sample, reopens with the timer at the low time and no classification. Tap fresh ends 30000 ms after the last tap entered and the history 2000 ms after the
last tap. -/
def Obligations.Footswitch : Prop :=
  ∀ (s : State) (time : Nat), s.power ≠ .starting →
    (s.tempo.pulse = .open →
      exec (.tapPress time) s = .next { s with tempo := { s.tempo with pulse := .timing, pulseTimer := 1, edgeTime := time } })
    ∧ (s.tempo.pulse = .timing → s.tempo.edgeTime < time → time < s.tempo.edgeTime + 8 → s.tempo.spikeRejection = true →
      exec (.tapRelease time) s = .next { s with
        tempo := { s.tempo with pulse := .open, pulseTimer := time - s.tempo.edgeTime } })
    ∧ (s.tempo.pulse = .timing → s.tempo.edgeTime < time → time < s.tempo.edgeTime + 600 →
      (s.tempo.edgeTime + 8 ≤ time ∨ s.tempo.spikeRejection = false) →
      ∃ u, exec (.tapRelease time) s = .next u ∧ u.tempo.pulse = .open ∧ u.tempo.pulseTimer = time - s.tempo.edgeTime
        ∧ ({ s with tempo := { s.tempo with pulse := .open, pulseTimer := time - s.tempo.edgeTime } } : State).tapEntered u
            s.tempo.edgeTime
        ∧ u.outsideTempo = s.outsideTempo)
    ∧ (s.tempo.pulse = .timing → s.tempo.edgeTime + 599 ≤ time →
      exec (.longPress time) s = .next { s with
        tempo := { s.tempo with
          pulse := .held, pulseTimer := 600, intervals := [], lastTap := none,
          toModulation := s.tempo.toModulation ++ [.resync] } })
    ∧ (s.tempo.pulse = .held → s.tempo.edgeTime + 2999 ≤ time →
      exec (.stuckSwitch time) s = .next { s with
        tempo := { s.tempo with pulse := .stopped, pulseTimer := 3000 },
        portA := { s.portA with flags := s.portA.flags ||| 0x20 }, portB := { s.portB with flags := s.portB.flags ||| 0x20 } })
    ∧ (s.tempo.pulse = .held → s.tempo.edgeTime + 600 ≤ time → time < s.tempo.edgeTime + 3000 →
      exec (.tapRelease time) s = .next { s with
        tempo := { s.tempo with pulse := .open, pulseTimer := time - s.tempo.edgeTime } })
    ∧ (s.tempo.pulse = .held → exec (.tapHighSample time) s = .next { s with tempo := { s.tempo with
        pulse := .open,
        pulseTimer := if time < s.tempo.edgeTime + 600 then 600 else if s.tempo.edgeTime + 2999 < time then 2999
                      else time - s.tempo.edgeTime } })
    ∧ (s.tempo.pulse = .stopped → exec (.tapHighSample time) s = .next { s with tempo := { s.tempo with pulse := .open } })
    ∧ (s.tempo.tapFresh = true → s.tempo.freshSince + 30000 ≤ time →
      ∃ u, exec (.tapFreshExpiry time) s = .next u ∧ u.tempo.tapFresh = false ∧ u.tempo.source = u.tempo.choice
        ∧ u.outsideTempo = s.outsideTempo)
    ∧ (∀ last, s.tempo.lastTap = some last → last + 2000 ≤ time →
      exec (.tapHistoryClear time) s = .next { s with tempo := { s.tempo with intervals := [], lastTap := none } })

/-- R87 to R90 (log 4 and 30 for the times and bytes that the rows carry): valid link frames. A TEMPO frame takes SILENT and LOST to
SEEKING, SEEKING with a reference at most 500 ms old to LOCKED, and in LOCKED (or on locking) sets the link tempo; position 0 with LINK in
charge hands a RESYNC. A STOP frame takes any state to SILENT, without LINK_LOST. A byte that began before READY is not taken (R73, log 43). -/
def Obligations.LinkFrames : Prop :=
  ∀ (s : State) (hi lo position crc zero : Byte) (time : Nat), s.power ≠ .starting → s.tempo.link.assembly = [] →
    (s.tempo.link.cutByte = true → ∀ b rest,
      exec (.linkBadFrame (b :: rest) time) s
        = exec (.linkBadFrame rest time) { s with tempo := { s.tempo with link := { s.tempo.link with cutByte := false } } })
    ∧ (s.tempo.link.cutByte = false → crc = crc8 [0xF5, hi, lo, position] → 3000 ≤ word16 hi lo → word16 hi lo ≤ 30000 → position.toNat ≤ 95 →
      ∃ u, exec (.linkTempoFrame hi lo position crc time) s = .next u ∧ u.outsideTempo = s.outsideTempo
        ∧ u.tempo.link.assembly = [] ∧ u.tempo.link.badRun = 0
        ∧ (s.tempo.link.state = .silent ∨ s.tempo.link.state = .lost →
          u.tempo.link.state = .seeking ∧ u.tempo.link.seekReference = some time ∧ u.tempo.linkTempo = s.tempo.linkTempo)
        ∧ (∀ ref, s.tempo.link.state = .seeking → s.tempo.link.seekReference = some ref → ref + 500 < time →
          u.tempo.link.state = .seeking ∧ u.tempo.link.seekReference = some time)
        ∧ ((s.tempo.link.state = .locked
              ∨ s.tempo.link.state = .seeking ∧ ∃ ref, s.tempo.link.seekReference = some ref ∧ time ≤ ref + 500) →
          u.tempo.link.state = .locked ∧ u.tempo.linkTempo = some (word16 hi lo) ∧ u.tempo.link.silenceStart = time
          ∧ u.tempo.source = u.tempo.choice ∧ (u.tempo.source = .link → u.tempo.applied = word16 hi lo)
          ∧ (position = 0 → u.tempo.source = .link → u.tempo.toModulation.getLast? = some .resync)))
    ∧ (s.tempo.link.cutByte = false → crc = crc8 [0xF6, 0] → zero = 0 →
      ∃ u, exec (.linkStopFrame zero crc time) s = .next u ∧ u.tempo.link.state = .silent ∧ u.tempo.link.badRun = 0
        ∧ u.tempo.link.assembly = [] ∧ u.outsideTempo = s.outsideTempo
        ∧ (∀ q, (u.port q).hasFlag .linkLost = (s.port q).hasFlag .linkLost)
        ∧ (s.tempo.link.state = .locked → u.tempo.source = u.tempo.choice))

/-- R87, R89 (log 4, 30 and 41): how the lock is lost. A TEMPO frame with a wrong CRC counts in the bad-frame run; the third in a row in LOCKED,
a break in LOCKED, and 500 ms of silence in LOCKED each take the receiver to LOST, raise LINK_LOST and re-evaluate the source. -/
def Obligations.LinkLoss : Prop :=
  ∀ (s : State) (hi lo position crc : Byte) (time : Nat), s.power ≠ .starting → s.tempo.link.state = .locked →
    s.tempo.link.cutByte = false →
    let lost := fun (u : State) => u.tempo.link.state = .lost ∧ u.tempo.link.badRun = 0 ∧ u.flagged .linkLost ∧ u.tempo.source = u.tempo.choice
      ∧ u.outsideTempo = s.outsideTempo
    (s.tempo.link.assembly = [] → crc ≠ crc8 [0xF5, hi, lo, position] →
      let bytes := [0xF5, hi, lo, position, crc].map goodByte
      (s.tempo.link.badRun < 2 →
        exec (.linkBadFrame bytes time) s = .next { s with
          tempo := { s.tempo with link := { s.tempo.link with badRun := s.tempo.link.badRun + 1 } } })
      ∧ (2 ≤ s.tempo.link.badRun → ∃ u, exec (.linkBadFrame bytes time) s = .next u ∧ lost u))
    ∧ (∃ u, exec (.linkBreak time) s = .next u ∧ lost u)
    ∧ (s.tempo.link.silenceStart + 500 ≤ time → ∃ u, exec (.linkSilenceTimeout time) s = .next u ∧ lost u)

/-- R92, R126 (log 40 for the order of the slots and of the lines, the model's choice): a propagation the Slot Controller takes writes the
slots in order. In a PREPARING, RUNNING
or MUTED slot whose shadow bank is tempo-locked it writes the derived time of the tempo it carries, sets swap pending, takes time out of the
morph entry (an entry left with nothing goes) and evaluates the lines (`NeedIsEvaluated`); a PREPARING slot is emptied instead just when a
replacement cannot be placed (R52). Slots that are EMPTY, FADING or not locked are not written. -/
def Obligations.PropagationWritesLockedSlots : Prop :=
  ∀ (s : State) (tempo : Nat) (rest : List Nat), s.tempo.toSlots = tempo :: rest →
    let taken := { s with tempo := { s.tempo with toSlots := rest } }
    let atTurn := fun (n : SlotId) => (allSlots.take n.val).foldl (State.propagateTo tempo) taken
    ∃ u, exec .slotPropagation s = .next u ∧ u.tempo = taken.tempo
      ∧ u.pool = (allSlots.foldl (State.propagateTo tempo) taken).pool.startJob
      ∧ (∀ (n : SlotId) (a : Alg),
        (s.slots[n].state = .preparing ∨ s.slots[n].state = .running ∨ s.slots[n].state = .muted) →
        s.slots[n].algorithm = some a → (a = .tape ∨ a = .pingpong) → s.slots[n].shadow[2].toNat ≠ 0 →
        let v := atTurn n
        let bank := s.slots[n].shadow.set 0 (derivedTime a tempo s.slots[n].shadow[2].toNat)
        let w := (v.writeShadow n bank).endMorphing n [0]
        v.propagateTo tempo n = w.evalWritten n [0]
        ∧ (s.slots[n].state ≠ .preparing ∨ ¬ w.evaluationFails n [0] →
          u.slots[n] = { s.slots[n] with
            shadow := bank, swapPending := true, lines := (w.evalWritten n [0]).slots[n].lines,
            clamped := (w.evalWritten n [0]).slots[n].clamped }
          ∧ (s.morphs[n] = none → u.morphs[n] = none)
          ∧ (∀ m, s.morphs[n] = some m →
            (m.morphing &&& ~~~1#12 = 0 → u.morphs[n] = none)
            ∧ (m.morphing &&& ~~~1#12 ≠ 0 → u.morphs[n] = some { m with morphing := m.morphing &&& ~~~1#12 })))
        ∧ (s.slots[n].state = .preparing → w.evaluationFails n [0] → s.emptiedFrom u n))
      ∧ (∀ n : SlotId, (s.slots[n].state = .empty ∨ s.slots[n].state = .fading ∨ s.slots[n].algorithm = some .plate
          ∨ s.slots[n].algorithm = some .hall ∨ s.slots[n].algorithm = some .chorus ∨ s.slots[n].algorithm = some .flanger
          ∨ s.slots[n].shadow[2].toNat = 0) →
        u.slots[n] = s.slots[n] ∧ u.morphs[n] = s.morphs[n])
      ∧ u.audio = s.audio ∧ u.modulation = s.modulation ∧ u.holds = s.holds ∧ u.scenes = s.scenes

/-! ### Modulation -/

/-- R100, R140: SET LFO with every field in range and no bound slot held by the other port writes the four fields; a change of shape or
offset restarts the LFO at its offset, a change of shape clears the random values; otherwise phase and random values stay. A bound slot held
by the other port refuses it with HELD. -/
def Obligations.SetLfoWrites : Prop :=
  ∀ (s t : State) (p : Port) (tag b0 b1 b2 b3 b4 b5 b6 : Byte) (k : LfoId) (shape : Shape),
    s.takeCommand p (ownCommand tag 0x40 [b0, b1, b2, b3, b4, b5, b6]) = some t → lfoField b0 = some k →
    shapeField b1 = some shape → 1 ≤ word16 b2 b3 → word16 b2 b3 ≤ 2000 → b4.toNat ≤ 9 → word16 b5 b6 ≤ 359 →
    let f := t.modulation.lfos[k]
    ((∀ n : SlotId, t.slots[n].boundLfo = some k → t.holds[n].holder ≠ some p.other) →
      ∃ g, exec (.setLfo p tag [b0, b1, b2, b3, b4, b5, b6]) s = .next (({ t with
          modulation := { t.modulation with lfos := t.modulation.lfos.set k g } }).placeResult p ⟨tag, 0x40, .done, []⟩)
        ∧ g.shape = shape ∧ g.rate = word16 b2 b3 ∧ g.division = b4.toNat ∧ g.offset = word16 b5 b6 ∧ g.output = f.output
        ∧ (shape ≠ f.shape ∨ word16 b5 b6 ≠ f.offset →
          g.phase = word16 b5 b6 * 4294967296 / 360 ∧ g.restartPending = true)
        ∧ (shape = f.shape → word16 b5 b6 = f.offset → g.phase = f.phase ∧ g.restartPending = f.restartPending)
        ∧ (shape ≠ f.shape → g.previous = 0 ∧ g.current = 0)
        ∧ (shape = f.shape → g.previous = f.previous ∧ g.current = f.current)
        ∧ (b4.toNat ≠ f.division ∨ b4.toNat = 0 ∧ word16 b2 b3 ≠ f.rate →
          g.increment = lfoIncrement t.rate (word16 b2 b3) b4.toNat t.modulation.lfoTempo)
        ∧ (b4.toNat = f.division → b4.toNat ≠ 0 ∨ word16 b2 b3 = f.rate → g.increment = f.increment))
    ∧ ((∃ n : SlotId, t.slots[n].boundLfo = some k ∧ t.holds[n].holder = some p.other) →
      exec (.setLfo p tag [b0, b1, b2, b3, b4, b5, b6]) s = .next (t.placeResult p ⟨tag, 0x40, .held,
        maskBytes (slotSet fun n => t.slots[n].boundLfo == some k && t.holds[n].holder == some p.other)⟩))

/-- R98, R99: the Modulation Unit takes a propagation (LFO tempo, and the increment of every tempo-locked LFO) and a RESYNC (every
tempo-locked LFO at its offset with a restart pending); LFOs that are FREE run on. -/
def Obligations.PropagationAndResyncReachTheLfos : Prop :=
  ∀ (s : State) (rest : List ModEvent),
    (∀ tempo, s.tempo.toModulation = .propagation tempo :: rest →
      ∃ m, exec .lfoPropagation s = .next { s with tempo := { s.tempo with toModulation := rest }, modulation := m }
        ∧ m.lfoTempo = tempo ∧ m.lfsr = s.modulation.lfsr ∧ m.mixing = s.modulation.mixing ∧ m.mode = s.modulation.mode
        ∧ ∀ k : LfoId, m.lfos[k] = if s.modulation.lfos[k].division = 0 then s.modulation.lfos[k]
            else { s.modulation.lfos[k] with
              increment := lfoIncrement s.rate s.modulation.lfos[k].rate s.modulation.lfos[k].division tempo })
    ∧ (s.tempo.toModulation = .resync :: rest →
      ∃ m, exec .resync s = .next { s with tempo := { s.tempo with toModulation := rest }, modulation := m }
        ∧ m.lfoTempo = s.modulation.lfoTempo ∧ m.lfsr = s.modulation.lfsr ∧ m.mixing = s.modulation.mixing
        ∧ m.mode = s.modulation.mode
        ∧ ∀ k : LfoId, m.lfos[k] = if s.modulation.lfos[k].division = 0 then s.modulation.lfos[k]
            else { s.modulation.lfos[k] with
              phase := s.modulation.lfos[k].offset * 4294967296 / 360, restartPending := true })

/-- R95 to R97: an LFO's step: a pending restart is a cycle start at the phase it has; otherwise the phase advances by the increment and a
cycle start is the passing of a whole cycle. At a cycle start of a random shape the current value becomes the previous one and a draw of
sixteen shifts becomes the current one. The output is that of the shape at the phase so reached (R96; log 26 for the sine, kept as its phase);
the LFO's other fields stay. -/
def Obligations.LfoStep : Prop :=
  ∀ (m : ModulationUnit) (k : LfoId),
    let f := m.lfos[k]
    let g := (m.stepLfo k).lfos[k]
    let start := f.restartPending = true ∨ 4294967296 ≤ f.phase + f.increment
    let random := f.shape = .stepRandom ∨ f.shape = .smoothRandom
    let turn : Rat := (g.phase : Rat) / 4294967296
    g.restartPending = false
    ∧ g.phase = (if f.restartPending then f.phase
        else if 4294967296 ≤ f.phase + f.increment then f.phase + f.increment - 4294967296 else f.phase + f.increment)
    ∧ (start ∧ random → (m.stepLfo k).lfsr = Nat.repeat lfsrShift 16 m.lfsr ∧ g.previous = f.current
        ∧ g.current = (if m.mode = .live then Nat.repeat lfsrShift 16 m.lfsr ^^^ m.mixing else Nat.repeat lfsrShift 16 m.lfsr).toInt)
    ∧ (¬ (start ∧ random) → (m.stepLfo k).lfsr = m.lfsr ∧ g.previous = f.previous ∧ g.current = f.current)
    ∧ (f.shape = .sine → g.output = .sine g.phase)
    ∧ (f.shape = .triangle → turn < 1 / 4 → g.output = .exact (4 * turn))
    ∧ (f.shape = .triangle → 1 / 4 ≤ turn → turn < 3 / 4 → g.output = .exact (2 - 4 * turn))
    ∧ (f.shape = .triangle → 3 / 4 ≤ turn → g.output = .exact (4 * turn - 4))
    ∧ (f.shape = .rampUp → g.output = .exact (2 * turn - 1))
    ∧ (f.shape = .rampDown → g.output = .exact (1 - 2 * turn))
    ∧ (f.shape = .stepRandom → g.output = .exact ((g.current : Rat) / 32768))
    ∧ (f.shape = .smoothRandom → g.output = .exact (((g.previous : Rat) + ((g.current : Rat) - (g.previous : Rat)) * turn) / 32768))
    ∧ g = { f with
        phase := g.phase, restartPending := g.restartPending, previous := g.previous, current := g.current, output := g.output }
    ∧ (∀ j : LfoId, j ≠ k → (m.stepLfo k).lfos[j] = m.lfos[j]) ∧ (m.stepLfo k).mixing = m.mixing

/-! ### Ports -/

/-- R147, R148: the first checks. An unknown code is refused with UNKNOWN, a body of the wrong length with BADLEN, and ASSIGN, CLEAR and
RECALL in QUIET with QUIET; each changes nothing. -/
def Obligations.FirstChecks : Prop :=
  ∀ (s t : State) (p : Port) (tag : Byte) (body : List Byte),
    (∀ code, s.takeCommand p (ownCommand tag code body) = some t → code ∉ commandCodes →
      exec (.unknownCommand p tag code body) s = .next (t.placeResult p ⟨tag, code, .unknown, []⟩))
    ∧ (∀ c ∈ [(.assign p tag body, 0x01, 2), (.clear p tag body, 0x02, 1), (.mute p tag body, 0x04, 1),
          (.unmute p tag body, 0x05, 1), (.route p tag body, 0x06, 3), (.readSlot p tag body, 0x07, 1),
          (.readPool p tag body, 0x10, 0), (.takeHold p tag body, 0x11, 2), (.releaseHold p tag body, 0x12, 2),
          (.setLease p tag body, 0x13, 1), (.storeScene p tag body, 0x20, 6), (.writeSceneEntry p tag body, 0x21, 34),
          (.eraseScene p tag body, 0x22, 1), (.readScene p tag body, 0x23, 2), (.recallScene p tag false body, 0x24, 3),
          (.abortMorph p tag body, 0x25, 2), (.readRecall p tag body, 0x26, 0), (.setTempo p tag body, 0x30, 2),
          (.setTempoSource p tag body, 0x31, 1), (.tap p tag false body 0, 0x32, 0), (.readTempo p tag body, 0x33, 0),
          (.setTapOptions p tag body, 0x34, 1), (.setLfo p tag body, 0x40, 7), (.seedRandom p tag body, 0x41, 2),
          (.setRandomMode p tag body, 0x42, 1), (.readEvents p tag body, 0x50, 0), (.setEventMask p tag body, 0x51, 3),
          (.portReset p tag body, 0x52, 0), (.quiet p tag body, 0x60, 0), (.wake p tag body, 0x61, 0),
          ((.restart p tag body : Instr), (0x62 : Byte), (0 : Nat))],
        s.takeCommand p (ownCommand tag c.2.1 body) = some t → body.length ≠ c.2.2 →
        exec c.1 s = .next (t.placeResult p ⟨tag, c.2.1, .badLen, []⟩))
    ∧ (s.takeCommand p (ownCommand tag 0x03 body) = some t →
        (body.length % 3 ≠ 1 ∨ body.length < 4 ∨ 25 < body.length) →
        exec (.params p tag body) s = .next (t.placeResult p ⟨tag, 0x03, .badLen, []⟩))
    ∧ (t.power = .quiet →
      (s.takeCommand p (ownCommand tag 0x01 body) = some t → body.length = 2 →
        exec (.assign p tag body) s = .next (t.placeResult p ⟨tag, 0x01, .quiet, []⟩))
      ∧ (s.takeCommand p (ownCommand tag 0x02 body) = some t → body.length = 1 →
        exec (.clear p tag body) s = .next (t.placeResult p ⟨tag, 0x02, .quiet, []⟩))
      ∧ (∀ g, s.takeCommand p { tag := tag, code := 0x24, generalCall := g, body := body } = some t → body.length = 3 →
        exec (.recallScene p tag g body) s = .next (t.placeResult p ⟨tag, 0x24, .quiet, []⟩)))

/-- R157, R172 to R174: READ EVENTS returns the event flag word, the clock state at its top, and clears the issuing port's flags alone. SET
EVENT MASK writes mask and general-call enable; a mask beyond the fourteen flags or another enable value is refused with RANGE. The
attention line is low just while a result waits or a masked flag stands. -/
def Obligations.EventsAndMask : Prop :=
  ∀ (s t : State) (p : Port) (tag hi lo b2 : Byte),
    (s.takeCommand p (ownCommand tag 0x50 []) = some t →
      exec (.readEvents p tag []) s = .next ((t.setPort p { t.port p with flags := 0 }).placeResult p
        ⟨tag, 0x50, .done, maskBytes (t.flagWord p)⟩)
      ∧ (∀ f : Flag, (t.flagWord p).getLsbD f.position = (t.port p).hasFlag f)
      ∧ (t.flagWord p).getLsbD 14 = false ∧ (t.flagWord p).getLsbD 15 = (t.audio.clock == .present))
    ∧ (s.takeCommand p (ownCommand tag 0x51 [hi, lo, b2]) = some t →
      (∀ on, (hi ++ lo : BitVec 16).toNat < 2 ^ 14 → boolField b2 = some on →
        exec (.setEventMask p tag [hi, lo, b2]) s = .next ((t.setPort p { t.port p with
          mask := BitVec.ofNat 14 (word16 hi lo), callEnable := on }).placeResult p ⟨tag, 0x51, .done, []⟩))
      ∧ (2 ^ 14 ≤ (hi ++ lo : BitVec 16).toNat ∨ boolField b2 = none →
        exec (.setEventMask p tag [hi, lo, b2]) s = .next (t.placeResult p ⟨tag, 0x51, .range, []⟩)))
    ∧ ((s.port p).attentionLow = true ↔
        (s.port p).results ≠ [] ∨ ∃ f : Flag, (s.port p).hasFlag f = true ∧ (s.port p).mask.getLsbD f.position = true)

/-- R142, R157, R175: PORT RESET empties the port's queues, clears its flags and mask, turns its general-call enable on, sets its lease
length to 40 and releases its holds without HOLD_LOST; its DONE result is the only one left. A write in progress keeps its buffer; a read of
a result goes on without it. Everything else stays. -/
def Obligations.PortResetClearsThePort : Prop :=
  ∀ (s t : State) (p : Port) (tag : Byte), s.takeCommand p (ownCommand tag 0x52 []) = some t →
    ∃ u, exec (.portReset p tag []) s = .next u
      ∧ u.port p = { t.port p with
          link := (match (t.port p).link with | .sending (.result _) => .sending .voided | k => k),
          commands := [], results := [⟨tag, 0x52, .done, []⟩], flags := 0, mask := 0, callEnable := true, lease := 40 }
      ∧ u.port p.other = t.port p.other
      ∧ (∀ n : SlotId, u.holds[n] = if t.holds[n].holder = some p then { holder := none, count := 0 } else t.holds[n])
      ∧ { u with portA := t.portA, portB := t.portB, holds := t.holds } = t

/-- R163, R164, R167, R169, R170 (log 8 for an address byte in an open transaction): the address byte. A START ends what the port was doing;
own address write and an enabled general call are acknowledged while a credit is free, and not otherwise (GC_MISSED for the general call); a
read of the own address sends the oldest result or the idle record; everything else, and anything in STARTING, is ignored. -/
def Obligations.AddressByte : Prop :=
  ∀ (s : State) (p : Port) (address : BitVec 7),
    (s.power = .starting → ∀ d, exec (.i2cAddress p address d) s = .next (s.setPort p { s.port p with link := .ignoring }))
    ∧ (s.power ≠ .starting → ((s.port p).link = .addressed ∨ (s.port p).link = .receiving) → ∀ d,
      exec (.i2cAddress p address d) s = exec (.i2cAddress p address d) (s.setPort p (s.port p).endMessage))
    ∧ (s.power ≠ .starting → (s.port p).link ≠ .addressed → (s.port p).link ≠ .receiving →
      let v : PortState := { s.port p with link := .idle, buffer := [], callMark := false, tooLong := false }
      let free := (s.port p).commands.length + (s.port p).results.length < 8
      (address = v.ownAddress → free →
        exec (.i2cAddress p address .write) s = .next (s.setPort p { v with link := .addressed }))
      ∧ (address = v.ownAddress → ¬ free →
        exec (.i2cAddress p address .write) s = .next (s.setPort p { v with link := .ignoring }))
      ∧ (address = 0 → address ≠ v.ownAddress → v.callEnable = true → free →
        exec (.i2cAddress p address .write) s = .next (s.setPort p { v with link := .addressed, callMark := true }))
      ∧ (address = 0 → address ≠ v.ownAddress → v.callEnable = true → ¬ free →
        exec (.i2cAddress p address .write) s = .next (s.setPort p { v with link := .ignoring, flags := v.flags ||| 0x2000 }))
      ∧ (address ≠ v.ownAddress → (address ≠ 0 ∨ v.callEnable = false) →
        exec (.i2cAddress p address .write) s = .next (s.setPort p { v with link := .ignoring }))
      ∧ (address = v.ownAddress → ∀ r rs, v.results = r :: rs →
        exec (.i2cAddress p address .read) s = .next (s.setPort p { v with link := .sending (.result r), sent := [] }))
      ∧ (address = v.ownAddress → v.results = [] →
        exec (.i2cAddress p address .read) s = .next (s.setPort p { v with link := .sending (.idle
          ⟨0, 0, .none, maskBytes (s.flagWord p) ++ [BitVec.ofNat 8 (8 - v.commands.length)]⟩), sent := [] }))
      ∧ (address ≠ v.ownAddress →
        exec (.i2cAddress p address .read) s = .next (s.setPort p { v with link := .ignoring })))

/-- R165, R166 (log 7 for the bytes that the row carries): the message of a write, judged at its end. Fewer than four bytes or a wrong
length byte is BADFRAME, more than 64 bytes TOOLONG, a wrong CRC BADCRC, a general call of another code NOTGENERAL, in that order; a good
message is queued as a command. The reserved credit passes on and the port is IDLE. -/
def Obligations.MessageIsFramed : Prop :=
  ∀ (s : State) (p : Port) (bytes : List Byte), ((s.port p).link = .addressed ∨ (s.port p).link = .receiving) →
    (s.port p).tooLong = false → (s.port p).buffer.length ≤ 64 →
    let v := s.port p
    let b := v.buffer ++ bytes
    let rest : PortState := { v with link := .idle, buffer := [], callMark := false, tooLong := false }
    let fails := fun st => exec (.messageEnd p bytes) s
      = .next (s.setPort p { rest with results := v.results ++ [⟨b.getD 0 0, b.getD 1 0, st, []⟩] })
    let lengthOk := (b.getD 2 0).toNat + 4 = b.length
    let crcOk := b.getD (b.length - 1) 0 = crc8 b.dropLast
    let codeOk := v.callMark = false ∨ b.getD 1 0 = 0x24 ∨ b.getD 1 0 = 0x32
    (b.length < 4 → fails .badFrame)
    ∧ (64 < b.length → fails .tooLong)
    ∧ (4 ≤ b.length → b.length ≤ 64 →
      (¬ lengthOk → fails .badFrame)
      ∧ (lengthOk → ¬ crcOk → fails .badCrc)
      ∧ (lengthOk → crcOk → ¬ codeOk → fails .notGeneral)
      ∧ (lengthOk → crcOk → codeOk →
        exec (.messageEnd p bytes) s = .next (s.setPort p { rest with
          commands := v.commands ++ [⟨b.getD 0 0, b.getD 1 0, v.callMark, (b.drop 3).dropLast⟩] })))

/-- R164, R169, R171, R175 (log 7 and 34 for the bytes and acknowledges that the rows carry): a read sends its record's bytes in order, one per
byte the controller clocks, and 0xFF past its end, up to the first byte the controller does not acknowledge. The CRC byte of a result frees
its credit, acknowledged or not; a read that ends earlier leaves the result at the head of the queue; after a PORT RESET the read sends 0xFF
alone. A STOP ends a write's message, a read, or an ignored transaction. A timeout makes an ABORTED result of a write and ends the rest. -/
def Obligations.TransactionsEnd : Prop :=
  ∀ (s : State) (p : Port) (bytes : List Byte) (acks : List Bool),
    let count := bytesOut acks
    (∀ r acked, (s.port p).link = .sending (.result r) →
      exec (.resultSent ⟨p, acked⟩) s = .next (s.setPort p { s.port p with
        link := .sending (if acked then .whole else .released), sent := r.bytes, results := (s.port p).results.tail }))
    ∧ (∀ w, (s.port p).link = .sending w →
      ∃ v, exec (.readEnd ⟨p, acks⟩) s = .next (s.setPort p { v with link := .idle })
        ∧ exec (.busStop ⟨p, acks⟩) s = .next (s.setPort p { v with link := .idle, buffer := [], callMark := false, tooLong := false })
        ∧ v = { s.port p with link := v.link, sent := v.sent, results := v.results }
        ∧ (∀ r, w = .result r → (s.port p).sent = [] →
          v.sent = (r.bytes ++ List.replicate count 0xFF).take count
          ∧ v.results = (if r.bytes.length ≤ count then (s.port p).results.tail else (s.port p).results))
        ∧ (∀ r, w = .idle r → (s.port p).sent = [] →
          v.sent = (r.bytes ++ List.replicate count 0xFF).take count ∧ v.results = (s.port p).results)
        ∧ (w = .whole ∨ w = .voided → v.sent = (s.port p).sent ++ List.replicate count 0xFF ∧ v.results = (s.port p).results)
        ∧ (w = .released → v = s.port p))
    ∧ ((s.port p).link = .ignoring ∨ (s.port p).link = .idle →
      exec (.busStop ⟨p, acks⟩) s
        = .next (s.setPort p { s.port p with link := .idle, buffer := [], callMark := false, tooLong := false }))
    ∧ ((s.port p).link = .addressed ∨ (s.port p).link = .receiving → exec (.busStop ⟨p, acks⟩) s = exec (.messageEnd p []) s)
    ∧ (s.power ≠ .starting → ((s.port p).link = .addressed ∨ (s.port p).link = .receiving) →
      (s.port p).buffer.length + bytes.length ≤ 64 →
      ∃ v, exec (.busTimeout p bytes) s = .next (s.setPort p v) ∧ v.link = .idle ∧ v.commands = (s.port p).commands
        ∧ v.results = (s.port p).results ++
          [⟨((s.port p).buffer ++ bytes).getD 0 0, ((s.port p).buffer ++ bytes).getD 1 0, .aborted, []⟩])
    ∧ (s.power ≠ .starting → (s.port p).link ≠ .addressed → (s.port p).link ≠ .receiving →
      exec (.busTimeout p bytes) s = .next (s.setPort p { s.port p with link := .idle }))

/-! ### Audio -/

/-- R55, R57 to R59, R72 (log 28 for the modulation dropped, log 35 for a frame cut short): a frame sync clears the missed count and starts a
frame, and the return words of a frame still open are not sent; the first one while LOST
makes the clock PRESENT with AUDIO_LOST. A loss drops the frames taken, holds the output at zero, settles a supply fade, ends a quiet fade
at once and raises AUDIO_LOST. -/
def Obligations.ClockComesAndGoes : Prop :=
  ∀ (s : State), s.power ≠ .starting →
    (s.audio.clock = .present →
      (s.audio.frameOpen = false → exec .frameSync s = .next { s with audio := { s.audio with missed := 0, frameOpen := true } })
      ∧ (s.audio.frameOpen = true →
        exec .frameSync s = .next { s with audio := { s.audio with missed := 0, returns := s.audio.returns.tail } })
      ∧ ∃ u, exec .clockLost s = .next u ∧ u.flagged .audioLost
        ∧ u.audio = { clock := .lost, missed := 4, frameOpen := false, returnDue := false, sends := [], returns := [],
                      output := Vector.replicate 16 0 }
        ∧ (∀ f, s.supplyGain.fade = some f → u.supplyGain = { value := f.target, fade := none })
        ∧ (s.supplyGain.fade = none → u.supplyGain = s.supplyGain)
        ∧ (s.quietGain.fade ≠ none → u.quietGain = { value := 0, fade := none } ∧ u.stopped = true ∧ u.quietReport = true)
        ∧ (s.quietGain.fade = none →
          u.quietGain = s.quietGain ∧ u.stopped = s.stopped ∧ u.quietReport = s.quietReport)
        ∧ u.slots = s.slots ∧ u.morphs = s.morphs ∧ u.pool = s.pool ∧ u.tempo = s.tempo ∧ u.modulation = s.modulation
        ∧ u.fadeReports = s.fadeReports ∧ u.crossfadeReports = s.crossfadeReports
        ∧ ∀ n : SlotId, u.voices[n] = { s.voices[n] with modulation := none })
    ∧ (s.audio.clock = .lost →
      exec .frameSync s = .next { s with
        audio := { s.audio with
          clock := .present, missed := 0, frameOpen := true, returnDue := true, sends := [], returns := [] },
        portA := { s.portA with flags := s.portA.flags ||| 0x400 }, portB := { s.portB with flags := s.portB.flags ||| 0x400 } })

/-- R55, R56, R61, R62, R66, R68, R70, R71 (log 13 for the order of work, log 9 and 10 for the free values): a frame taken drives the next return
frame (zeros when there is none) and its sends join the block. The 32nd, which drives its return frame too, is the block end: the Random
Generator is fed the low byte of send 0 in the block's first frame; then, unless the Voice Engine is stopped, the LFOs step and the next 32
return frames are made: each word is the sum of the saturated samples of the begun slots on its pair, times the return gain, brought to full
scale; zero when no slot is on the pair. A slot's sample before saturation is its algorithm's output times its level (log 39) times its gain,
which moves in a straight line to the gain after the block (log 11); its peak stands just when such a sample lies beyond full scale (R62).
While it is stopped nothing of the slots moves and the returns are empty. -/
def Obligations.FramesMakeBlocks : Prop :=
  ∀ (s : State) (words : Vector AudioWord 16), s.power ≠ .starting → s.audio.clock = .present → s.audio.frameOpen = true →
    let driven := fun (o : Vector AudioWord 16) => (s.audio.returns = [] → o = Vector.replicate 16 0)
      ∧ ∀ r rs, s.audio.returns = r :: rs → ∀ c : Fin 16, o[c] = r[c] ++ 0#8
    (s.audio.sends.length < 31 →
      ∃ o, exec (.frameTaken words) s = .next { s with
        audio := { s.audio with
          frameOpen := false, output := o, returns := s.audio.returns.tail, sends := s.audio.sends ++ [sendsOf words] } }
        ∧ driven o)
    ∧ (∀ first rest, s.audio.sends = first :: rest → rest.length = 30 →
      let fed := s.modulation.absorb (first[0].setWidth 8)
      let frames := s.audio.sends ++ [sendsOf words]
      let ready := (({ s with audio := { s.audio.takeFrame words with sends := [] } } : State).feed frames).handOff.takeUp
      let sounding := ready.finishFades.finishSupply
      ∃ u, exec (.frameTaken words) s = .next u ∧ u.audio.sends = [] ∧ u.audio.frameOpen = false ∧ u.audio.clock = .present
        ∧ u.audio.returnDue = false ∧ driven u.audio.output
        ∧ (s.stopped = true →
          u.modulation = fed ∧ u.slots = s.slots ∧ u.voices = s.voices ∧ u.morphs = s.morphs ∧ u.pool = s.pool
          ∧ u.audio.returns = [])
        ∧ (s.stopped = false → u.modulation = fed.stepAll
          ∧ ((∀ f, s.quietGain.fade = some f → f.left ≠ 0) →
            u.audio.returns.length = 32 ∧ u.stopped = false
            ∧ ∀ (i : Nat) (c : Fin 16) frame word, frames[i]? = some frame → u.audio.returns[i]? = some word →
              let heard := allSlots.filter fun n => sounding.voices[n].begun && sounding.slots[n].returnPair.val == c.val / 2
              let sum := (heard.map fun n => max (-8388608) (min 8388607 (sounding.rawSample n i (c.val % 2) frame))).sum
              word[c] = BitVec.ofInt 24 (max (-8388608) (min 8388607
                (roundSample (Config.returnRoundsUp sounding.fresh i c.val) ((sum : Rat) * sounding.returnGainAt i))))
              ∧ (heard = [] → word[c] = 0)
              ∧ (sounding.supplyGain = { value := 1, fade := none } → sounding.quietGain = { value := 1, fade := none } →
                word[c].toInt = max (-8388608) (min 8388607 sum)))
          ∧ ((∀ f, s.quietGain.fade = some f → f.left ≠ 0) → ∀ n : SlotId,
            (u.voices[n].peak = true ↔ sounding.voices[n].begun = true ∧ ∃ (i : Nat) (c : Fin 2) (frame : Vector Sample 8),
              frames[i]? = some frame
              ∧ (sounding.rawSample n i c.val frame < -8388608 ∨ 8388607 < sounding.rawSample n i c.val frame))
            ∧ ∀ (i : Nat) (c : Fin 2) (frame : Vector Sample 8) (a : Alg) (k : Nat), sounding.voices[n].begun = true →
              sounding.slots[n].algorithm = some a →
              let gain := sounding.voices[n].gain + (u.voices[n].gain - sounding.voices[n].gain) * (i : Rat) / 32
              let q := (Config.algorithmOutput sounding.fresh n.val i c.val (sounding.driveAt n i frame) : Rat) * gain
              let power : Rat := |q| ^ 40 * (10 : Rat) ^ (sounding.slots[n].active[a.levelIx])
              let up := Config.slotRoundsUp sounding.fresh n.val i c.val
              let x := sounding.rawSample n i c.val frame
              (k : Rat) ^ 40 ≤ power → power < ((k : Rat) + 1) ^ 40 →
              (0 ≤ q → x = if power ≠ (k : Rat) ^ 40 ∧ up = true then (k : Int) + 1 else k)
              ∧ (q < 0 → x = if power ≠ (k : Rat) ^ 40 ∧ up = false then -(k : Int) - 1 else -(k : Int)))
          ∧ (∀ f, s.quietGain.fade = some f → f.left = 0 →
            u.stopped = true ∧ u.quietReport = true ∧ u.quietGain = { value := 0, fade := none } ∧ u.audio.returns = [])))

/-- R19, R59, R60, R62 to R65, R67, R125 (log 13 for the order of the parts and for the block end that finds the quiet fade over, log 14 for the
fade removed at the block end that finds it with no blocks left, log 15 for the lengths of lines, log 18 for the derived time of a bank left
tempo-locked; all four are the model's readings): what a block end of the running Voice Engine does to a slot. A
morph entry makes its step in the shadow bank, and is removed at its last; while the division left is not FREE the derived time stands. The shadow bank of a slot that is begun with swap pending, or whose
begin is requested, becomes its active bank; a slot that is neither keeps its active bank and its swap pending. When the block is processed, a
begin leaves the gain and fade of the slot's state after one block, the first block end after a return those of R59's table, and otherwise a
fade moves by one block and is removed, with its report after 16 blocks, when it has none left; crossfades do the same; and a line glides to
the length its parameters ask, or to the usable length of a short one. -/
def Obligations.BlockEndSwaps : Prop :=
  ∀ (s : State) (words : Vector AudioWord 16) (n : SlotId), s.power ≠ .starting → s.audio.clock = .present →
    s.audio.frameOpen = true → s.audio.sends.length = 31 → s.stopped = false →
    (s.morphs[n] = none ∨ s.slots[n].state = .running ∨ s.slots[n].state = .muted) →
    let v := s.voices[n]
    let sounding := ∀ f, s.quietGain.fade = some f → f.left ≠ 0
    let heard := v.beginRequested = true ∨ v.begun = true
    ∃ u, exec (.frameTaken words) s = .next u ∧ u.slots[n].state = s.slots[n].state
      -- the morph step and the swap
      ∧ (s.morphs[n] = none →
        u.slots[n].shadow = s.slots[n].shadow ∧ u.morphs[n] = none
        ∧ (v.beginRequested = true ∨ v.begun = true ∧ s.slots[n].swapPending = true →
          u.slots[n].active = s.slots[n].shadow ∧ u.slots[n].swapPending = false)
        ∧ (v.beginRequested = false → (v.begun = false ∨ s.slots[n].swapPending = false) →
          u.slots[n].active = s.slots[n].active ∧ u.slots[n].swapPending = s.slots[n].swapPending))
      ∧ (∀ m a, s.morphs[n] = some m → s.slots[n].algorithm = some a →
        let k := m.done + 1
        let bank := u.slots[n].shadow
        u.morphs[n] = (if m.total ≤ k then none else some { m with done := k })
        ∧ (heard → u.slots[n].active = bank ∧ u.slots[n].swapPending = false)
        ∧ (¬ heard → u.slots[n].active = s.slots[n].active ∧ u.slots[n].swapPending = true)
        ∧ (∀ ix : ParamIx, m.morphing.getLsbD ix.val = false → (ix ≠ 0 ∨ a.locked bank = false) →
          bank[ix] = s.slots[n].shadow[ix])
        ∧ (∀ ix : ParamIx, m.morphing.getLsbD ix.val = true → (ix ≠ 0 ∨ a.locked bank = false) →
          bank[ix] =
            (if a.discrete ix then (if 2 * k < m.total then m.start[ix] else m.target[ix])
             else m.start[ix] + (2 * ((m.target[ix] - m.start[ix]) * k) + m.total) / (2 * m.total)))
        ∧ (a.locked bank = true →
          bank[timeIx] = (if m.morphing.getLsbD 2 = true then (derivedTime a s.tempo.applied bank.division : Int)
                          else s.slots[n].shadow[timeIx])))
      -- the begin
      ∧ (v.beginRequested = true → u.voices[n].begun = true ∧ u.voices[n].beginRequested = false)
      ∧ (sounding → v.beginRequested = true →
        (s.slots[n].state = .running →
          u.voices[n].gain = 1 / 8 ∧ u.voices[n].fade = some { start := 0, target := 1, length := 8, left := 7 })
        ∧ (s.slots[n].state = .muted → u.voices[n].gain = 0 ∧ u.voices[n].fade = none)
        ∧ (s.slots[n].state = .fading →
          u.voices[n].gain = 0 ∧ u.voices[n].fade = some { start := 0, target := 0, length := 16, left := 15 }))
      -- the return of the clock
      ∧ (sounding → v.beginRequested = false → v.begun = true → s.audio.returnDue = true →
        (s.slots[n].state = .running →
          u.voices[n].gain = 1 / 8 ∧ u.voices[n].fade = some { start := 0, target := 1, length := 8, left := 7 })
        ∧ (s.slots[n].state = .muted → u.voices[n].gain = 0 ∧ u.voices[n].fade = none)
        ∧ (∀ f, s.slots[n].state = .fading → v.fade = some f → f.target = 0 →
          u.voices[n].gain = 0
          ∧ u.voices[n].fade = (if f.left = 0 then none else some { f with start := 0, left := f.left - 1 })))
      -- a fade
      ∧ (sounding → v.beginRequested = false → v.begun = true → s.audio.returnDue = false →
        (v.fade = none → u.voices[n].gain = v.gain ∧ u.voices[n].fade = none)
        ∧ (∀ f, v.fade = some f → 0 < f.left →
          u.voices[n].gain = f.start + (f.target - f.start) * ((f.length - (f.left - 1) : Nat) : Rat) / (f.length : Rat)
          ∧ u.voices[n].fade = some { f with left := f.left - 1 } ∧ u.fadeReports.count n = s.fadeReports.count n)
        ∧ (∀ f, v.fade = some f → f.left = 0 →
          u.voices[n].gain = f.target ∧ u.voices[n].fade = none
          ∧ u.fadeReports.count n = s.fadeReports.count n + (if f.length = 16 then 1 else 0)))
      -- crossfades
      ∧ (sounding → heard →
        u.voices[n].crossfades = (v.crossfades.filter fun x => x.left != 0).map (fun x => { x with left := x.left - 1 })
        ∧ ∀ l, u.crossfadeReports.count (n, l) =
            s.crossfadeReports.count (n, l) + (v.crossfades.filter fun x => x.left == 0 && x.line == l).length)
      -- the lengths of lines, with no morph anywhere
      ∧ (sounding → heard → (∀ k : SlotId, s.morphs[k] = none) → ∀ a (l : LineId) ln, s.slots[n].algorithm = some a →
        l.val < a.lineCount → s.slots[n].lines[l.val]? = some ln →
        let pages := s.pool.countOf (s.voiceRegion n l ln)
        let bank := u.slots[n].active
        let target : Rat := if pages < requiredPages s.rate a bank l then (pages * 1024 - 32 : Nat) else lineAsked s.rate a bank l
        let blocks := if a = .tape ∨ a = .pingpong then (bank[glideIx].toNat * s.rate.perMs + 31) / 32 else 0
        (v.beginRequested = true ∨ v.glideOf l = none →
          u.voices[n].glideOf l = some { line := l, delay := target, target := target, left := 0 })
        ∧ (∀ g, v.beginRequested = false → v.glideOf l = some g →
          let now := min g.delay ((pages * 1024 - 32 : Nat) : Rat)
          let changed := (a = .tape ∨ a = .pingpong) ∧ a.lineTime bank l ≠ a.lineTime s.slots[n].active l ∨ g.target ≠ target
          (changed → blocks = 0 → u.voices[n].glideOf l = some { line := l, delay := target, target := target, left := 0 })
          ∧ (changed → 0 < blocks → u.voices[n].glideOf l =
              some { line := l, delay := now + (target - now) / (blocks : Rat), target := target, left := blocks - 1 })
          ∧ (¬ changed → g.left = 0 → u.voices[n].glideOf l = some { line := l, delay := now, target := target, left := 0 })
          ∧ (¬ changed → 0 < g.left → u.voices[n].glideOf l =
              some { line := l, delay := now + (target - now) / (g.left : Rat), target := target, left := g.left - 1 })))
      -- the clip flag
      ∧ (v.peak = true → u.slots[n].clip = true ∧ u.flagged .clip)

/-- R12: the report of a fade end taken for a FADING slot. With no next algorithm the slot is emptied; with one whose lines can be placed
once the old regions are back, it becomes PREPARING on them, its mute wanted kept unless a pending entry carries one; when they cannot be
placed it is emptied with POOL_SHORT. -/
def Obligations.FadeEndTaken : Prop :=
  ∀ (s : State) (n : SlotId), s.fadeReports.contains n = true → s.slots[n].state = .fading →
    let back := (s.slots[n].lines.flatMap fun ln => ln.current :: ln.retiring.toList).foldl Pool.giveBack s.pool
    ∃ u, exec (.fadeEnd n) s = .next u ∧ u.surroundings = s.surroundings ∧ u.sameSlotsBut s n
      ∧ u.voices[n].begun = false ∧ u.voices[n].fade = none ∧ n ∉ u.fadeReports ∧ u.entries[n] = none
      ∧ (s.slots[n].next = none →
        u.slots[n] = { Slot.reset with
          sendSet := s.slots[n].sendSet, returnPair := s.slots[n].returnPair, clip := s.slots[n].clip }
        ∧ u.pool = back.startJob ∧ u.flagged .slotEmpty)
      ∧ (∀ a, s.slots[n].next = some a →
        let bank := s.nextBank n a
        (s.entries[n] = none → bank = a.defaults)
        ∧ (∀ q es, back.allocate n (allocationSizes s.rate a bank) = .ok (q, es) →
          u.slots[n].state = .preparing ∧ u.slots[n].algorithm = some a ∧ u.slots[n].next = none ∧ u.slots[n].active = a.defaults
          ∧ u.slots[n].shadow = bank ∧ u.slots[n].swapPending = true ∧ u.slots[n].clamped = false
          ∧ u.slots[n].lines.map (·.current) = es ∧ u.pool = q.startJob ∧ u.flagsOf = s.flagsOf
          ∧ (s.entries[n] = none → u.slots[n].muteWanted = s.slots[n].muteWanted)
          ∧ (∀ e, s.entries[n] = some e → u.slots[n].muteWanted = e.mute ∧ u.slots[n].sendSet = e.sendSet
            ∧ u.slots[n].returnPair = e.returnPair))
        ∧ (∀ f, back.allocate n (allocationSizes s.rate a bank) = .error f →
          u.slots[n].state = .empty ∧ u.pool = back.startJob ∧ u.flagged .poolShort ∧ u.flagged .slotEmpty))

/-- R48, R49, R179: the report of a crossfade end gives the retiring region back and ends the growth of its line (`NeedIsEvaluated` says what
becomes of a deferred requirement); the report of the quiet fade end leaves no slot FADING and the Voice Engine stopped. -/
def Obligations.CrossfadeAndQuietFadeEnd : Prop :=
  ∀ (s : State),
    (∀ (n : SlotId) (l : LineId) (ln : Line) (old : EntryId), s.crossfadeReports.contains (n, l) = true →
      s.slots[n].lines[l.val]? = some ln → ln.retiring = some old → ln.deferred = none →
      ∃ u, exec (.crossfadeEnd n l) s = .next u ∧ u.pool = (s.pool.giveBack old).startJob
        ∧ u.slots[n] = { s.slots[n] with
            lines := s.slots[n].lines.set l.val { ln with retiring := none, growth := .steady }, clamped := u.slots[n].clamped }
        ∧ u.crossfadeReports = s.crossfadeReports.filter (· != (n, l)) ∧ u.surroundings = s.surroundings
        ∧ u.sameSlotsBut s n ∧ u.flagsOf = s.flagsOf)
    ∧ (∀ (n : SlotId) (l : LineId) (ln : Line) (old : EntryId), s.crossfadeReports.contains (n, l) = true →
      s.slots[n].lines[l.val]? = some ln → ln.retiring = some old →
      exec (.crossfadeEnd n l) s = .next ((({ s with
        crossfadeReports := s.crossfadeReports.filter (· != (n, l)), pool := s.pool.giveBack old,
        slots := s.slots.set n { s.slots[n] with
          lines := s.slots[n].lines.set l.val { ln with retiring := none } } } : State).growthEnd n l).startClearing))
    ∧ (s.quietReport = true →
      ∃ u, exec .quietFadeEnd s = .next u ∧ u.stopped = true ∧ u.quietReport = false
        ∧ (∀ n : SlotId, u.slots[n].state ≠ .fading ∧ (s.slots[n].state ≠ .fading → u.slots[n] = s.slots[n]))
        ∧ u.tempo = s.tempo ∧ u.holds = s.holds ∧ u.audio = s.audio ∧ u.power = s.power)

/-! ### The pool's events -/

/-- R39, R40, R42 (log 3): the ends of clear jobs. The last page of a region job makes its entry LIVE, with a report; an extension job's
pages join the page count and its line's growth ends; the page in progress of a cancelled job frees an ABANDONED entry. Each job leaves the
queue and the engine starts the next. With an empty command queue and no start-up sweep, a page of the job in progress that is not its last is
zeroed. -/
def Obligations.ClearJobsEnd : Prop :=
  ∀ (s : State) (pr : Progress) (e : EntryId) (r : Region) (jobs : List Job), s.pool.progress = some pr → s.pool.entries[e] = some r →
    (s.pool.jobs = ⟨.region, e, false⟩ :: jobs → r.state = .zeroing →
      ∃ q, exec .regionJobComplete s = .next { s with pool := q } ∧ q.jobs = jobs
        ∧ q.entries = s.pool.entries.set e (some { r with state := .live }) ∧ q.liveReports = s.pool.liveReports ++ [e]
        ∧ q.runs = s.pool.runs ∧ (q.progress.isSome = true ↔ jobs ≠ [])
        ∧ ∀ page, pr.first ≤ page → page < pr.first + pr.pages → q.written.stamp page = none)
    ∧ (s.pool.jobs = ⟨.extension, e, false⟩ :: jobs → r.state = .live → r.owner = none →
      ∃ q, exec .extensionComplete s = .next { s with pool := q } ∧ q.jobs = jobs
        ∧ q.entries = s.pool.entries.set e (some { r with count := r.count + r.ext.getD 0, ext := none })
        ∧ q.runs = s.pool.runs ∧ (q.progress.isSome = true ↔ jobs ≠ []))
    ∧ (∀ (n : SlotId) (l : LineId) (ln : Line), s.pool.jobs = ⟨.extension, e, false⟩ :: jobs → r.state = .live →
      r.owner = some (n, l) → s.slots[n].lines[l.val]? = some ln → ln.deferred = none →
      ∃ u, exec .extensionComplete s = .next u ∧ u.pool.jobs = jobs
        ∧ u.pool.entries = s.pool.entries.set e (some { r with count := r.count + r.ext.getD 0, ext := none })
        ∧ u.slots[n].lines = s.slots[n].lines.set l.val { ln with growth := .steady } ∧ u.sameSlotsBut s n
        ∧ u.surroundings = s.surroundings)
    ∧ (∀ (n : SlotId) (l : LineId), s.pool.jobs = ⟨.extension, e, false⟩ :: jobs → r.state = .live → r.owner = some (n, l) →
      ∃ q, s.pool.extensionDone = some (q, some (n, l))
        ∧ exec .extensionComplete s = .next (({ s with pool := q } : State).growthEnd n l).startClearing)
    ∧ (∀ k, s.pool.jobs = ⟨k, e, true⟩ :: jobs → r.state = .abandoned →
      ∃ q, exec .abandonedPageEnd s = .next { s with pool := q } ∧ q.jobs = jobs ∧ q.entries = s.pool.entries.set e none
        ∧ (0 < r.count + r.ext.getD 0 →
          q.runs = insertRun { first := r.first, count := r.count + r.ext.getD 0 } s.pool.runs))
    ∧ (∀ k, s.pending = [] → s.sweep = none → s.pool.jobs = ⟨k, e, false⟩ :: jobs → pr.zeroed + 1 < pr.pages →
      step s = .next { s with pool := { s.pool with
        progress := some { pr with zeroed := pr.zeroed + 1 }, written := s.pool.written.zeroPages (pr.first + pr.zeroed) 1 } })

/-- R5, R43, R47, R64, R70 (log 15 and 44 for the old length, log 36 for a report taken while the Voice Engine is stopped, log 46 for several
reports in flight): the Slot Controller takes a region's LIVE report. With every line of a PREPARING slot LIVE the preparation ends: RUNNING,
or MUTED if mute is wanted, a begin requested, SLOT_READY in both ports; with one still ZEROING nothing changes, and so it is with a later
report of a slot whose preparation has ended. A relocating line's crossfade starts at 16 blocks, the retiring region read at the length in use;
while the Voice Engine is stopped the voice stays as it was. A report for a region its line no longer refers to is ignored. -/
def Obligations.RegionReportTaken : Prop :=
  ∀ (s : State) (e : EntryId) (r : Region) (n : SlotId) (l : LineId) (ln : Line), s.pool.liveReports.contains e = true →
    s.pool.entries[e] = some r → r.owner = some (n, l) → s.slots[n].lines[l.val]? = some ln →
    let taken := { s with pool := { s.pool with liveReports := s.pool.liveReports.filter (· != e) } }
    let allLive := ∀ k ∈ s.slots[n].lines, ∃ x, s.pool.entries[k.current] = some x ∧ x.state = .live
    (ln.current ≠ e → exec (.regionLive e) s = .next taken)
    ∧ (ln.current = e → s.slots[n].state = .preparing → ¬ allLive → exec (.regionLive e) s = .next taken)
    ∧ (ln.current = e → s.slots[n].state = .preparing → allLive →
      ∃ u, exec (.regionLive e) s = .next u
        ∧ u.slots[n] = { s.slots[n] with
            state := (if s.slots[n].muteWanted then .muted else .running), clamped := u.slots[n].clamped }
        ∧ u.voices[n] = { s.voices[n] with beginRequested := true } ∧ u.flagged .slotReady ∧ u.pool = taken.pool
        ∧ slotIn u.recallRecord.waiting n = (slotIn s.recallRecord.waiting n && s.recallRecord.state != .running)
        ∧ u.sameSlotsBut s n ∧ u.surroundings = s.surroundings)
    ∧ (ln.current = e → s.slots[n].state ≠ .preparing → ln.growth ≠ .relocating → exec (.regionLive e) s = .next taken)
    ∧ (ln.current = e → s.slots[n].state ≠ .preparing → ln.growth = .relocating →
      ∃ u old, exec (.regionLive e) s = .next u
        ∧ u.voices[n] = (if s.stopped then s.voices[n]
            else { s.voices[n] with crossfades := s.voices[n].crossfades ++ [⟨l, 16, old⟩] }) ∧ u.pool = taken.pool
        ∧ (∀ g, s.voices[n].glideOf l = some g → old = g.delay)
        ∧ u.slots[n] = { s.slots[n] with clamped := u.slots[n].clamped } ∧ u.sameSlotsBut s n
        ∧ u.surroundings = s.surroundings ∧ u.flagsOf = s.flagsOf)

/-! ### Supply and power -/

/-- R129, R150, R159: QUIET in READY makes the part QUIET, aborts a RUNNING recall with RECALL_DONE, removes every morph entry, and starts
the quiet fade from the present gain over 16 blocks (at once while the clock is LOST). In QUIET it is refused with STATE. -/
def Obligations.QuietDecision : Prop :=
  ∀ (s t : State) (p : Port) (tag : Byte), s.takeCommand p (ownCommand tag 0x60 []) = some t →
    (t.power = .ready →
      ∃ u, exec (.quiet p tag []) s = .next u ∧ u.power = .quiet ∧ (∀ n : SlotId, u.morphs[n] = none)
        ∧ u.slots = t.slots ∧ u.entries = t.entries ∧ u.pool = t.pool ∧ u.voices = t.voices ∧ u.holds = t.holds
        ∧ u.tempo = t.tempo ∧ u.modulation = t.modulation ∧ u.scenes = t.scenes ∧ u.audio = t.audio
        ∧ (t.recallRecord.state = .running →
          u.recallRecord.state = .aborted ∧ u.recallRecord.lastAborted = t.recallRecord.scene ∧ u.flagged .recallDone)
        ∧ (t.recallRecord.state ≠ .running → u.recallRecord = t.recallRecord)
        ∧ (t.audio.clock = .present → u.stopped = t.stopped
          ∧ u.quietGain = { value := t.quietGain.value,
                            fade := some { start := t.quietGain.value, target := 0, length := 16, left := 16 } })
        ∧ (t.audio.clock = .lost →
          u.stopped = true ∧ u.quietReport = true ∧ u.quietGain = { value := 0, fade := none })
        ∧ (u.port p).results = (t.port p).results ++ [⟨tag, 0x60, .done, []⟩])
    ∧ (t.power = .quiet → exec (.quiet p tag []) s = .next (t.placeResult p ⟨tag, 0x60, .state, []⟩))

/-- R54, R150, R160, R180: WAKE in QUIET makes the part READY with the quiet gain at 1 and the Voice Engine running; no slot stays FADING, and
every slot with lines is re-zeroed in slot and line order: it becomes PREPARING and is not begun; a line's retiring region goes back and its
growth ends; a LIVE current region becomes ZEROING, its pending extension merged, with a region job at the queue's tail, and its extension job
leaves the queue or ends with its page; a ZEROING one keeps its job; a deferred requirement above the page count has the region replaced (R52),
which empties the slot just when it cannot be placed. Holds, tempo and modulation are carried through; the return frames made and not yet sent
are dropped and no peak stands (log 45: the model's reading). In READY it is refused with STATE. -/
def Obligations.WakeDecision : Prop :=
  (∀ (s t : State) (p : Port) (tag : Byte), s.takeCommand p (ownCommand tag 0x61 []) = some t →
    (t.power = .quiet →
      let settled := ({ t.storeSweep with quietReport := false } : State).forceFadeEnds
      let rezeroed := allSlots.foldl State.rezeroSlot settled
      ∃ u, exec (.wake p tag []) s = .next u ∧ u.power = .ready ∧ u.quietGain = { value := 1, fade := none }
        ∧ u.stopped = false ∧ u.quietReport = false
        ∧ u.slots = rezeroed.slots ∧ u.pool = rezeroed.pool.startJob
        ∧ (∀ n : SlotId, u.voices[n] = { rezeroed.voices[n] with peak := false })
        ∧ (∀ n : SlotId, t.slots[n].lines ≠ [] ∨ t.slots[n].state = .fading →
          (u.slots[n].state = .preparing ∨ u.slots[n].state = .empty) ∧ u.voices[n].begun = false)
        ∧ (∀ n : SlotId, t.slots[n].lines ≠ [] → t.slots[n].lines.length ≤ 4 → t.slots[n].state ≠ .fading → (∀ ln ∈ t.slots[n].lines, ln.deferred = none) →
          u.slots[n].state = .preparing
          ∧ u.slots[n].lines = t.slots[n].lines.map fun ln => { ln with retiring := none, growth := .steady })
        ∧ (∀ n : SlotId, t.slots[n].lines = [] → t.slots[n].state ≠ .fading → u.slots[n] = t.slots[n])
        ∧ (∀ k : SceneId, u.scenes[k] = if t.scenes[k].state = .valid ∧ t.scenes[k].check ≠ t.scenes[k].freshCheck
            then { t.scenes[k] with state := .corrupt } else t.scenes[k])
        ∧ u.holds = t.holds ∧ u.tempo = t.tempo ∧ u.modulation = t.modulation
        ∧ u.audio = { t.audio with returns := [] }
        ∧ (u.port p).results = (t.port p).results ++ [⟨tag, 0x61, .done, []⟩])
    ∧ (t.power = .ready → exec (.wake p tag []) s = .next (t.placeResult p ⟨tag, 0x61, .state, []⟩)))
  ∧ (∀ (v : State) (n : SlotId),
    (v.slots[n].lines = [] → v.rezeroSlot n = v)
    ∧ (v.slots[n].lines ≠ [] →
      v.rezeroSlot n = allLines.foldl (State.rezeroLine n) ((v.endVoice n).setSlot n { v.slots[n] with state := .preparing })))
  ∧ (∀ (v : State) (n : SlotId) (l : LineId) (ln : Line) (r : Region) (a : Alg), v.slots[n].lines[l.val]? = some ln →
    v.slots[n].algorithm = some a → v.pool.entries[ln.current] = some r → ln.retiring ≠ some ln.current →
    let u := v.rezeroLine n l
    let back := ln.retiring.toList.foldl Pool.giveBack v.pool
    let pool := back.rezero ln.current
    let kept := { ln with retiring := none, growth := .steady, deferred := none }
    (r.state = .zeroing → pool = back)
    ∧ (r.state = .live →
      pool.entries = back.entries.set ln.current (some { r with state := .zeroing, count := r.count + r.ext.getD 0, ext := none })
      ∧ pool.runs = back.runs
      ∧ pool.jobs = (if back.inProgress .extension ln.current then back.cancelHead.jobs
          else back.jobs.filter (· != ⟨.extension, ln.current, false⟩)) ++ [⟨.region, ln.current, false⟩])
    ∧ (ln.deferred.getD 0 ≤ pool.countOf ln.current →
      u.pool = pool ∧ u.slots[n] = { v.slots[n] with lines := v.slots[n].lines.set l.val kept, clamped := u.slots[n].clamped })
    ∧ (∀ d, ln.deferred = some d → pool.countOf ln.current < d →
      (∀ q e, (pool.giveBack ln.current).place (allocationSize a d) n l = .ok (q, e) →
        u.pool = q.addJob .region e
        ∧ u.slots[n] = { v.slots[n] with lines := v.slots[n].lines.set l.val { kept with current := e }, clamped := u.slots[n].clamped })
      ∧ (∀ f, (pool.giveBack ln.current).place (allocationSize a d) n l = .error f → v.emptiedFrom u n)))

/-- R29, R106, R161, R176, R177: what the entry to STARTING leaves: every block at its reset value; where the manual gives none, the value is
the model's choice: 48 kHz, both own addresses 0x34, the Voice Engine not stopped, no report in flight and the other values of log 6, the page
contents (log 12), the counter of free values (log 9) and the queue of rows (log 31). RESTART and RESET low keep the scene records, power-on reset empties them; the start kind is PIN or POWER, and a RESET low in a POWER
start stays one. RESTART puts no result. The page contents, the counter and the queue of rows are carried over. -/
def Obligations.EntriesToStarting : Prop :=
  ∀ (s : State),
    let entry := fun (u : State) (kind : StartKind) (scenes : Vector Scene 32) => { State.reset with
      startKind := kind, scenes := scenes, pool := { State.reset.pool with written := u.pool.written }, fresh := u.fresh,
      pending := u.pending }
    (∀ (t : State) (p : Port) (tag : Byte), s.takeCommand p (ownCommand tag 0x62 []) = some t →
      exec (.restart p tag []) s = .next (entry t .pin t.scenes))
    ∧ exec .powerOnReset s = .next (entry s .power (Vector.replicate 32 Scene.reset))
    ∧ (s.power = .starting → s.startKind = .power → exec .resetLow s = .next (entry s .power s.scenes))
    ∧ (s.power ≠ .starting ∨ s.startKind = .pin → exec .resetLow s = .next (entry s .pin s.scenes))

/-- R73, R162, R177, R178, R181 (log 3, 25 and 43 for the page times and for the levels that the rows carry): start-up. The sweep begins at page 0
with RESET high and the supply above 2.90 V; with an empty command queue each step zeroes its next page; its end finds every page zero, runs the
store sweep in a PIN start, fixes rate, budget and addresses from the pins, computes the increments, judges the supply, drops the byte under way
on LINK and makes the part READY. A supply below 2.80 V at the first judgement is a power-on reset. -/
def Obligations.StartUp : Prop :=
  ∀ (s : State), s.power = .starting →
    (∀ mv, 2900 < mv → s.sweep = none → exec (.startUpSweep true mv) s = .next { s with sweep := some 0 })
    ∧ (∀ k, s.pending = [] → s.sweep = some k → k < 4096 →
      step s = .next { s with sweep := some (k + 1), pool := { s.pool with written := s.pool.written.zeroPages k 1 } })
    ∧ (s.sweep ≠ none → ∀ pins : StartPins, 2800 ≤ pins.supplyMillivolts →
      ∃ u, exec (.startUpSweepEnd pins) s = .next u ∧ u.power = .ready ∧ u.sweep = none
        ∧ u.pool = { s.pool with written := [] }
        ∧ u.rate.hertz = (if pins.rate then 96000 else 48000) ∧ u.rate.budget = (if pins.rate then 32 else 64)
        ∧ u.portA.ownAddress = (if pins.adrA then 0x35 else 0x34) ∧ u.portB.ownAddress = (if pins.adrB then 0x35 else 0x34)
        ∧ (∀ k : LfoId, u.modulation.lfos[k] = { s.modulation.lfos[k] with
            increment := lfoIncrement u.rate s.modulation.lfos[k].rate s.modulation.lfos[k].division s.modulation.lfoTempo })
        ∧ (s.startKind = .power → u.scenes = s.scenes)
        ∧ (s.startKind = .pin → ∀ k : SceneId,
          u.scenes[k] = if s.scenes[k].state = .valid ∧ s.scenes[k].check ≠ s.scenes[k].freshCheck
            then { s.scenes[k] with state := .corrupt } else s.scenes[k])
        ∧ (pins.supplyMillivolts < 3050 → u.supply = .low ∧ u.flagged .supplyLow)
        ∧ (3050 ≤ pins.supplyMillivolts → u.supply = s.supply ∧ u.supplyGain = s.supplyGain)
        ∧ u.slots = s.slots ∧ u.holds = s.holds ∧ u.audio = s.audio
        ∧ u.tempo = { s.tempo with link := { s.tempo.link with cutByte := pins.linkBusy } })
    ∧ (s.sweep ≠ none → ∀ pins : StartPins, pins.supplyMillivolts < 2800 →
      exec (.startUpSweepEnd pins) s = .next ({ s with pool := { s.pool with written := [] } } : State).poweredOn)

/-- R68, R72, R177, R181 (log 25): the supply monitor. Below 2.80 V the part enters STARTING with a power-on reset, whatever its state. From
there to 3.05 V a NORMAL supply becomes LOW, raises SUPPLY_LOW and fades the supply gain to 0
over 1 block; above 3.10 V a LOW one becomes NORMAL and fades it to 1 over 8 blocks, raising nothing; both at once while the clock is LOST
or the Voice Engine is stopped. -/
def Obligations.SupplyMonitor : Prop :=
  ∀ (s : State) (mv : Nat),
    let faded := fun (target : Rat) (length : Nat) =>
      if s.audio.clock = .lost ∨ s.stopped = true then ({ value := target, fade := none } : GainFade)
      else { value := s.supplyGain.value,
             fade := some { start := s.supplyGain.value, target := target, length := length, left := length } }
    (mv < 2800 → exec (.supplyLow mv) s = .next s.poweredOn)
    ∧ (s.power ≠ .starting → s.supply = .normal → 2800 ≤ mv → mv < 3050 →
      exec (.supplyLow mv) s = .next { s with
        supply := .low, supplyGain := faded 0 1, portA := { s.portA with flags := s.portA.flags ||| 0x1000 },
        portB := { s.portB with flags := s.portB.flags ||| 0x1000 } })
    ∧ (s.power ≠ .starting → s.supply = .low → 3100 < mv →
      exec (.supplyNormal mv) s = .next { s with supply := .normal, supplyGain := faded 1 8 })

/-! ### Invariants -/

/-- R24: every step keeps the load tally within the budget (with nothing assigned in STARTING and no algorithm in an EMPTY slot). -/
def Obligations.StepKeepsLoadWithinBudget : Prop := ∀ s t : State, s.loadOk → step s = .next t → t.loadOk

/-- R167: every step keeps reserved credits, queued commands and waiting results of each port within 8. -/
def Obligations.StepKeepsCredits : Prop := ∀ s t : State, s.creditsOk → step s = .next t → t.creditsOk

/-- R29, R31 (and log 12 for the second clause): every step keeps each of the 4096 pages in exactly one region or free run, with the Free
Run List in order and no empty and no adjacent runs; and it keeps the canonical form of the page contents. -/
def Obligations.StepKeepsPool : Prop :=
  ∀ s t : State, step s = .next t →
    (s.pool.tiled → t.pool.tiled) ∧ (s.pool.written.wf = true → t.pool.written.wf = true)

/-- R130: every step keeps every hold entry and both lease lengths within their ranges. -/
def Obligations.StepKeepsHolds : Prop := ∀ s t : State, s.holdsOk → step s = .next t → t.holdsOk

/-- R75, R91: every step keeps the source in charge at the arbiter's choice, the applied tempo at the value it offers, and the applied tempo
within 4 of the last propagated one. -/
def Obligations.StepKeepsTempo : Prop := ∀ s t : State, s.tempoOk → step s = .next t → t.tempoOk

/-- R56, R58, R60, R68: every step keeps the audio of a LOST clock silent and fewer than 32 frames waiting, and every gain within 0 to 1. -/
def Obligations.StepKeepsSound : Prop :=
  ∀ s t : State, step s = .next t → (s.audioOk → t.audioOk) ∧ (s.gainsOk → t.gainsOk)

/-- R82, R102, R107, R124: every step keeps the Tap History's bounds, the LFSR away from 0, every morph entry unfinished and every scene
record in slot order. -/
def Obligations.StepKeepsTables : Prop :=
  ∀ s t : State, step s = .next t →
    (s.tapsOk → t.tapsOk) ∧ (s.modulation.lfsr ≠ 0 → t.modulation.lfsr ≠ 0) ∧ (s.morphsOk → t.morphsOk) ∧ (s.scenesOk → t.scenesOk)

/-- The machine right after a power-on reset satisfies every invariant above. -/
def Obligations.ResetSatisfiesInvariants : Prop :=
  State.reset.loadOk ∧ State.reset.creditsOk ∧ State.reset.pool.tiled ∧ State.reset.pool.written.wf = true ∧ State.reset.holdsOk
    ∧ State.reset.tempoOk ∧ State.reset.audioOk ∧ State.reset.gainsOk ∧ State.reset.tapsOk ∧ State.reset.modulation.lfsr ≠ 0
    ∧ State.reset.morphsOk ∧ State.reset.scenesOk

/-! ### Needs and growth -/

/-- R44 to R46, R49 to R52: what evaluating the need of a line does, and the end of its growth. A need within the promise asks for nothing; one
above it starts a growth of a RUNNING or MUTED slot's line with growth NONE (EXTENDING, RELOCATING, or POOL_SHORT), replaces the region of a
PREPARING slot's (which empties the slot just when it fails), and otherwise becomes the deferred requirement if it is the larger. A growth
extends in place just when the run behind the region has the extra pages. The end of a growth acts on a deferred requirement above the page
count, except in a FADING slot. Each time the clamped flag says whether some line needs more than the region it is heard from. -/
def Obligations.NeedIsEvaluated : Prop :=
  ∀ (s : State) (n : SlotId) (l : LineId) (ln : Line) (a : Alg), s.slots[n].lines[l.val]? = some ln → s.slots[n].algorithm = some a →
    let need := requiredPages s.rate a s.slots[n].shadow l
    let promise := if ln.growth = .extending then s.pool.sizeOf ln.current else s.pool.countOf ln.current
    let u := s.evalNeed n l
    let ended := s.growthEnd n l
    let playing := s.slots[n].state = .running ∨ s.slots[n].state = .muted
    let judged := fun (w : State) => w.slots[n].clamped = true ↔ ∃ (k : LineId) (x : Line), w.slots[n].lines[k.val]? = some x
      ∧ w.pool.countOf (w.pool.heardFrom x) < requiredPages s.rate a s.slots[n].shadow k
    let recordOnly := fun (w : State) => w.slots[n] = { s.slots[n] with lines := w.slots[n].lines, clamped := w.slots[n].clamped }
      ∧ w.sameSlotsBut s n ∧ w.surroundings = s.surroundings
    -- no evaluation
    (s.slots[n].state = .empty ∨ s.slots[n].state = .fading → u = s)
    -- within the promise
    ∧ (playing ∨ s.slots[n].state = .preparing → need ≤ promise →
      u.pool = s.pool ∧ u.slots[n].lines = s.slots[n].lines ∧ recordOnly u ∧ judged u)
    -- above it, with a growth in progress
    ∧ (playing ∨ s.slots[n].state = .preparing → promise < need → ln.growth ≠ .steady →
      u.pool = s.pool ∧ recordOnly u ∧ judged u
      ∧ u.slots[n].lines = s.slots[n].lines.set l.val { ln with deferred := some (max need (ln.deferred.getD 0)) })
    -- above it, with growth NONE
    ∧ (playing → promise < need → ln.growth = .steady →
      s.grownTo u n l ln (allocationSize a need) ∧ recordOnly u ∧ judged u)
    ∧ (s.slots[n].state = .preparing → promise < need → ln.growth = .steady →
      (∀ q e, (s.pool.giveBack ln.current).place (allocationSize a need) n l = .ok (q, e) →
        u.pool = q.addJob .region e ∧ recordOnly u ∧ judged u
        ∧ u.slots[n].lines = s.slots[n].lines.set l.val { current := e, retiring := none, growth := .steady, deferred := none })
      ∧ (∀ f, (s.pool.giveBack ln.current).place (allocationSize a need) n l = .error f →
        s.emptiedFrom u n ∧ s.replacementFails n l))
    -- growth in place
    ∧ (∀ (r : Region) (target : Nat), s.pool.entries[ln.current] = some r → r.state = .live → r.ext = none → r.count < target →
      runsOk s.pool.runs →
      ((s.pool.extend ln.current target).isSome = true ↔
        ∃ x ∈ s.pool.runs, x.first = r.first + r.count ∧ target - r.count ≤ x.count)
      ∧ ∀ q, s.pool.extend ln.current target = some q →
        q.entries = s.pool.entries.set ln.current (some { r with ext := some (target - r.count) })
        ∧ q.jobs = s.pool.jobs ++ [⟨.extension, ln.current, false⟩])
    -- the end of a growth
    ∧ (recordOnly ended ∧ judged ended
      ∧ (s.slots[n].state = .fading ∨ ln.deferred.getD 0 ≤ s.pool.countOf ln.current →
        ended.pool = s.pool
        ∧ ended.slots[n].lines = s.slots[n].lines.set l.val { ln with growth := .steady, deferred := none })
      ∧ (∀ d, ln.deferred = some d → s.slots[n].state ≠ .fading → s.pool.countOf ln.current < d →
        s.grownTo ended n l { ln with growth := .steady, deferred := none } (allocationSize a d)))
end

