-- ==== Sys2Proof/Laws/State.lean ====
section
/-! SUPPORT. What each update of the state leaves in each field: one lemma per field and update, true by unfolding the update. -/

namespace Sys2Proof.Machine

/-! ### setSlot -/

@[simp] theorem State.setSlot_power (s : State) (n : SlotId) (v : Slot) : (s.setSlot n v).power = s.power := rfl
@[simp] theorem State.setSlot_supply (s : State) (n : SlotId) (v : Slot) : (s.setSlot n v).supply = s.supply := rfl
@[simp] theorem State.setSlot_startKind (s : State) (n : SlotId) (v : Slot) : (s.setSlot n v).startKind = s.startKind := rfl
@[simp] theorem State.setSlot_sweep (s : State) (n : SlotId) (v : Slot) : (s.setSlot n v).sweep = s.sweep := rfl
@[simp] theorem State.setSlot_rate (s : State) (n : SlotId) (v : Slot) : (s.setSlot n v).rate = s.rate := rfl
@[simp] theorem State.setSlot_portA (s : State) (n : SlotId) (v : Slot) : (s.setSlot n v).portA = s.portA := rfl
@[simp] theorem State.setSlot_portB (s : State) (n : SlotId) (v : Slot) : (s.setSlot n v).portB = s.portB := rfl
@[simp] theorem State.setSlot_lastServed (s : State) (n : SlotId) (v : Slot) : (s.setSlot n v).lastServed = s.lastServed := rfl
@[simp] theorem State.setSlot_slots (s : State) (n : SlotId) (v : Slot) : (s.setSlot n v).slots = s.slots.set n v := rfl
@[simp] theorem State.setSlot_holds (s : State) (n : SlotId) (v : Slot) : (s.setSlot n v).holds = s.holds := rfl
@[simp] theorem State.setSlot_morphs (s : State) (n : SlotId) (v : Slot) : (s.setSlot n v).morphs = s.morphs := rfl
@[simp] theorem State.setSlot_entries (s : State) (n : SlotId) (v : Slot) : (s.setSlot n v).entries = s.entries := rfl
@[simp] theorem State.setSlot_recallRecord (s : State) (n : SlotId) (v : Slot) : (s.setSlot n v).recallRecord = s.recallRecord := rfl
@[simp] theorem State.setSlot_pool (s : State) (n : SlotId) (v : Slot) : (s.setSlot n v).pool = s.pool := rfl
@[simp] theorem State.setSlot_voices (s : State) (n : SlotId) (v : Slot) : (s.setSlot n v).voices = s.voices := rfl
@[simp] theorem State.setSlot_supplyGain (s : State) (n : SlotId) (v : Slot) : (s.setSlot n v).supplyGain = s.supplyGain := rfl
@[simp] theorem State.setSlot_quietGain (s : State) (n : SlotId) (v : Slot) : (s.setSlot n v).quietGain = s.quietGain := rfl
@[simp] theorem State.setSlot_stopped (s : State) (n : SlotId) (v : Slot) : (s.setSlot n v).stopped = s.stopped := rfl
@[simp] theorem State.setSlot_fadeReports (s : State) (n : SlotId) (v : Slot) : (s.setSlot n v).fadeReports = s.fadeReports := rfl
@[simp] theorem State.setSlot_crossfadeReports (s : State) (n : SlotId) (v : Slot) : (s.setSlot n v).crossfadeReports = s.crossfadeReports := rfl
@[simp] theorem State.setSlot_quietReport (s : State) (n : SlotId) (v : Slot) : (s.setSlot n v).quietReport = s.quietReport := rfl
@[simp] theorem State.setSlot_audio (s : State) (n : SlotId) (v : Slot) : (s.setSlot n v).audio = s.audio := rfl
@[simp] theorem State.setSlot_tempo (s : State) (n : SlotId) (v : Slot) : (s.setSlot n v).tempo = s.tempo := rfl
@[simp] theorem State.setSlot_modulation (s : State) (n : SlotId) (v : Slot) : (s.setSlot n v).modulation = s.modulation := rfl
@[simp] theorem State.setSlot_scenes (s : State) (n : SlotId) (v : Slot) : (s.setSlot n v).scenes = s.scenes := rfl
@[simp] theorem State.setSlot_fresh (s : State) (n : SlotId) (v : Slot) : (s.setSlot n v).fresh = s.fresh := rfl
@[simp] theorem State.setSlot_pending (s : State) (n : SlotId) (v : Slot) : (s.setSlot n v).pending = s.pending := rfl
@[simp] theorem State.setSlot_port (s : State) (n : SlotId) (v : Slot) (q : Port) : (s.setSlot n v).port q = s.port q := by cases q <;> rfl

/-! ### setHold -/

@[simp] theorem State.setHold_power (s : State) (n : SlotId) (v : Hold) : (s.setHold n v).power = s.power := rfl
@[simp] theorem State.setHold_supply (s : State) (n : SlotId) (v : Hold) : (s.setHold n v).supply = s.supply := rfl
@[simp] theorem State.setHold_startKind (s : State) (n : SlotId) (v : Hold) : (s.setHold n v).startKind = s.startKind := rfl
@[simp] theorem State.setHold_sweep (s : State) (n : SlotId) (v : Hold) : (s.setHold n v).sweep = s.sweep := rfl
@[simp] theorem State.setHold_rate (s : State) (n : SlotId) (v : Hold) : (s.setHold n v).rate = s.rate := rfl
@[simp] theorem State.setHold_portA (s : State) (n : SlotId) (v : Hold) : (s.setHold n v).portA = s.portA := rfl
@[simp] theorem State.setHold_portB (s : State) (n : SlotId) (v : Hold) : (s.setHold n v).portB = s.portB := rfl
@[simp] theorem State.setHold_lastServed (s : State) (n : SlotId) (v : Hold) : (s.setHold n v).lastServed = s.lastServed := rfl
@[simp] theorem State.setHold_slots (s : State) (n : SlotId) (v : Hold) : (s.setHold n v).slots = s.slots := rfl
@[simp] theorem State.setHold_holds (s : State) (n : SlotId) (v : Hold) : (s.setHold n v).holds = s.holds.set n v := rfl
@[simp] theorem State.setHold_morphs (s : State) (n : SlotId) (v : Hold) : (s.setHold n v).morphs = s.morphs := rfl
@[simp] theorem State.setHold_entries (s : State) (n : SlotId) (v : Hold) : (s.setHold n v).entries = s.entries := rfl
@[simp] theorem State.setHold_recallRecord (s : State) (n : SlotId) (v : Hold) : (s.setHold n v).recallRecord = s.recallRecord := rfl
@[simp] theorem State.setHold_pool (s : State) (n : SlotId) (v : Hold) : (s.setHold n v).pool = s.pool := rfl
@[simp] theorem State.setHold_voices (s : State) (n : SlotId) (v : Hold) : (s.setHold n v).voices = s.voices := rfl
@[simp] theorem State.setHold_supplyGain (s : State) (n : SlotId) (v : Hold) : (s.setHold n v).supplyGain = s.supplyGain := rfl
@[simp] theorem State.setHold_quietGain (s : State) (n : SlotId) (v : Hold) : (s.setHold n v).quietGain = s.quietGain := rfl
@[simp] theorem State.setHold_stopped (s : State) (n : SlotId) (v : Hold) : (s.setHold n v).stopped = s.stopped := rfl
@[simp] theorem State.setHold_fadeReports (s : State) (n : SlotId) (v : Hold) : (s.setHold n v).fadeReports = s.fadeReports := rfl
@[simp] theorem State.setHold_crossfadeReports (s : State) (n : SlotId) (v : Hold) : (s.setHold n v).crossfadeReports = s.crossfadeReports := rfl
@[simp] theorem State.setHold_quietReport (s : State) (n : SlotId) (v : Hold) : (s.setHold n v).quietReport = s.quietReport := rfl
@[simp] theorem State.setHold_audio (s : State) (n : SlotId) (v : Hold) : (s.setHold n v).audio = s.audio := rfl
@[simp] theorem State.setHold_tempo (s : State) (n : SlotId) (v : Hold) : (s.setHold n v).tempo = s.tempo := rfl
@[simp] theorem State.setHold_modulation (s : State) (n : SlotId) (v : Hold) : (s.setHold n v).modulation = s.modulation := rfl
@[simp] theorem State.setHold_scenes (s : State) (n : SlotId) (v : Hold) : (s.setHold n v).scenes = s.scenes := rfl
@[simp] theorem State.setHold_fresh (s : State) (n : SlotId) (v : Hold) : (s.setHold n v).fresh = s.fresh := rfl
@[simp] theorem State.setHold_pending (s : State) (n : SlotId) (v : Hold) : (s.setHold n v).pending = s.pending := rfl
@[simp] theorem State.setHold_port (s : State) (n : SlotId) (v : Hold) (q : Port) : (s.setHold n v).port q = s.port q := by cases q <;> rfl

/-! ### setMorph -/

@[simp] theorem State.setMorph_power (s : State) (n : SlotId) (v : Option Morph) : (s.setMorph n v).power = s.power := rfl
@[simp] theorem State.setMorph_supply (s : State) (n : SlotId) (v : Option Morph) : (s.setMorph n v).supply = s.supply := rfl
@[simp] theorem State.setMorph_startKind (s : State) (n : SlotId) (v : Option Morph) : (s.setMorph n v).startKind = s.startKind := rfl
@[simp] theorem State.setMorph_sweep (s : State) (n : SlotId) (v : Option Morph) : (s.setMorph n v).sweep = s.sweep := rfl
@[simp] theorem State.setMorph_rate (s : State) (n : SlotId) (v : Option Morph) : (s.setMorph n v).rate = s.rate := rfl
@[simp] theorem State.setMorph_portA (s : State) (n : SlotId) (v : Option Morph) : (s.setMorph n v).portA = s.portA := rfl
@[simp] theorem State.setMorph_portB (s : State) (n : SlotId) (v : Option Morph) : (s.setMorph n v).portB = s.portB := rfl
@[simp] theorem State.setMorph_lastServed (s : State) (n : SlotId) (v : Option Morph) : (s.setMorph n v).lastServed = s.lastServed := rfl
@[simp] theorem State.setMorph_slots (s : State) (n : SlotId) (v : Option Morph) : (s.setMorph n v).slots = s.slots := rfl
@[simp] theorem State.setMorph_holds (s : State) (n : SlotId) (v : Option Morph) : (s.setMorph n v).holds = s.holds := rfl
@[simp] theorem State.setMorph_morphs (s : State) (n : SlotId) (v : Option Morph) : (s.setMorph n v).morphs = s.morphs.set n v := rfl
@[simp] theorem State.setMorph_entries (s : State) (n : SlotId) (v : Option Morph) : (s.setMorph n v).entries = s.entries := rfl
@[simp] theorem State.setMorph_recallRecord (s : State) (n : SlotId) (v : Option Morph) : (s.setMorph n v).recallRecord = s.recallRecord := rfl
@[simp] theorem State.setMorph_pool (s : State) (n : SlotId) (v : Option Morph) : (s.setMorph n v).pool = s.pool := rfl
@[simp] theorem State.setMorph_voices (s : State) (n : SlotId) (v : Option Morph) : (s.setMorph n v).voices = s.voices := rfl
@[simp] theorem State.setMorph_supplyGain (s : State) (n : SlotId) (v : Option Morph) : (s.setMorph n v).supplyGain = s.supplyGain := rfl
@[simp] theorem State.setMorph_quietGain (s : State) (n : SlotId) (v : Option Morph) : (s.setMorph n v).quietGain = s.quietGain := rfl
@[simp] theorem State.setMorph_stopped (s : State) (n : SlotId) (v : Option Morph) : (s.setMorph n v).stopped = s.stopped := rfl
@[simp] theorem State.setMorph_fadeReports (s : State) (n : SlotId) (v : Option Morph) : (s.setMorph n v).fadeReports = s.fadeReports := rfl
@[simp] theorem State.setMorph_crossfadeReports (s : State) (n : SlotId) (v : Option Morph) : (s.setMorph n v).crossfadeReports = s.crossfadeReports := rfl
@[simp] theorem State.setMorph_quietReport (s : State) (n : SlotId) (v : Option Morph) : (s.setMorph n v).quietReport = s.quietReport := rfl
@[simp] theorem State.setMorph_audio (s : State) (n : SlotId) (v : Option Morph) : (s.setMorph n v).audio = s.audio := rfl
@[simp] theorem State.setMorph_tempo (s : State) (n : SlotId) (v : Option Morph) : (s.setMorph n v).tempo = s.tempo := rfl
@[simp] theorem State.setMorph_modulation (s : State) (n : SlotId) (v : Option Morph) : (s.setMorph n v).modulation = s.modulation := rfl
@[simp] theorem State.setMorph_scenes (s : State) (n : SlotId) (v : Option Morph) : (s.setMorph n v).scenes = s.scenes := rfl
@[simp] theorem State.setMorph_fresh (s : State) (n : SlotId) (v : Option Morph) : (s.setMorph n v).fresh = s.fresh := rfl
@[simp] theorem State.setMorph_pending (s : State) (n : SlotId) (v : Option Morph) : (s.setMorph n v).pending = s.pending := rfl
@[simp] theorem State.setMorph_port (s : State) (n : SlotId) (v : Option Morph) (q : Port) : (s.setMorph n v).port q = s.port q := by cases q <;> rfl

/-! ### setEntry -/

@[simp] theorem State.setEntry_power (s : State) (n : SlotId) (v : Option SceneEntry) : (s.setEntry n v).power = s.power := rfl
@[simp] theorem State.setEntry_supply (s : State) (n : SlotId) (v : Option SceneEntry) : (s.setEntry n v).supply = s.supply := rfl
@[simp] theorem State.setEntry_startKind (s : State) (n : SlotId) (v : Option SceneEntry) : (s.setEntry n v).startKind = s.startKind := rfl
@[simp] theorem State.setEntry_sweep (s : State) (n : SlotId) (v : Option SceneEntry) : (s.setEntry n v).sweep = s.sweep := rfl
@[simp] theorem State.setEntry_rate (s : State) (n : SlotId) (v : Option SceneEntry) : (s.setEntry n v).rate = s.rate := rfl
@[simp] theorem State.setEntry_portA (s : State) (n : SlotId) (v : Option SceneEntry) : (s.setEntry n v).portA = s.portA := rfl
@[simp] theorem State.setEntry_portB (s : State) (n : SlotId) (v : Option SceneEntry) : (s.setEntry n v).portB = s.portB := rfl
@[simp] theorem State.setEntry_lastServed (s : State) (n : SlotId) (v : Option SceneEntry) : (s.setEntry n v).lastServed = s.lastServed := rfl
@[simp] theorem State.setEntry_slots (s : State) (n : SlotId) (v : Option SceneEntry) : (s.setEntry n v).slots = s.slots := rfl
@[simp] theorem State.setEntry_holds (s : State) (n : SlotId) (v : Option SceneEntry) : (s.setEntry n v).holds = s.holds := rfl
@[simp] theorem State.setEntry_morphs (s : State) (n : SlotId) (v : Option SceneEntry) : (s.setEntry n v).morphs = s.morphs := rfl
@[simp] theorem State.setEntry_entries (s : State) (n : SlotId) (v : Option SceneEntry) : (s.setEntry n v).entries = s.entries.set n v := rfl
@[simp] theorem State.setEntry_recallRecord (s : State) (n : SlotId) (v : Option SceneEntry) : (s.setEntry n v).recallRecord = s.recallRecord := rfl
@[simp] theorem State.setEntry_pool (s : State) (n : SlotId) (v : Option SceneEntry) : (s.setEntry n v).pool = s.pool := rfl
@[simp] theorem State.setEntry_voices (s : State) (n : SlotId) (v : Option SceneEntry) : (s.setEntry n v).voices = s.voices := rfl
@[simp] theorem State.setEntry_supplyGain (s : State) (n : SlotId) (v : Option SceneEntry) : (s.setEntry n v).supplyGain = s.supplyGain := rfl
@[simp] theorem State.setEntry_quietGain (s : State) (n : SlotId) (v : Option SceneEntry) : (s.setEntry n v).quietGain = s.quietGain := rfl
@[simp] theorem State.setEntry_stopped (s : State) (n : SlotId) (v : Option SceneEntry) : (s.setEntry n v).stopped = s.stopped := rfl
@[simp] theorem State.setEntry_fadeReports (s : State) (n : SlotId) (v : Option SceneEntry) : (s.setEntry n v).fadeReports = s.fadeReports := rfl
@[simp] theorem State.setEntry_crossfadeReports (s : State) (n : SlotId) (v : Option SceneEntry) : (s.setEntry n v).crossfadeReports = s.crossfadeReports := rfl
@[simp] theorem State.setEntry_quietReport (s : State) (n : SlotId) (v : Option SceneEntry) : (s.setEntry n v).quietReport = s.quietReport := rfl
@[simp] theorem State.setEntry_audio (s : State) (n : SlotId) (v : Option SceneEntry) : (s.setEntry n v).audio = s.audio := rfl
@[simp] theorem State.setEntry_tempo (s : State) (n : SlotId) (v : Option SceneEntry) : (s.setEntry n v).tempo = s.tempo := rfl
@[simp] theorem State.setEntry_modulation (s : State) (n : SlotId) (v : Option SceneEntry) : (s.setEntry n v).modulation = s.modulation := rfl
@[simp] theorem State.setEntry_scenes (s : State) (n : SlotId) (v : Option SceneEntry) : (s.setEntry n v).scenes = s.scenes := rfl
@[simp] theorem State.setEntry_fresh (s : State) (n : SlotId) (v : Option SceneEntry) : (s.setEntry n v).fresh = s.fresh := rfl
@[simp] theorem State.setEntry_pending (s : State) (n : SlotId) (v : Option SceneEntry) : (s.setEntry n v).pending = s.pending := rfl
@[simp] theorem State.setEntry_port (s : State) (n : SlotId) (v : Option SceneEntry) (q : Port) : (s.setEntry n v).port q = s.port q := by cases q <;> rfl

/-! ### setVoice -/

@[simp] theorem State.setVoice_power (s : State) (n : SlotId) (v : Voice) : (s.setVoice n v).power = s.power := rfl
@[simp] theorem State.setVoice_supply (s : State) (n : SlotId) (v : Voice) : (s.setVoice n v).supply = s.supply := rfl
@[simp] theorem State.setVoice_startKind (s : State) (n : SlotId) (v : Voice) : (s.setVoice n v).startKind = s.startKind := rfl
@[simp] theorem State.setVoice_sweep (s : State) (n : SlotId) (v : Voice) : (s.setVoice n v).sweep = s.sweep := rfl
@[simp] theorem State.setVoice_rate (s : State) (n : SlotId) (v : Voice) : (s.setVoice n v).rate = s.rate := rfl
@[simp] theorem State.setVoice_portA (s : State) (n : SlotId) (v : Voice) : (s.setVoice n v).portA = s.portA := rfl
@[simp] theorem State.setVoice_portB (s : State) (n : SlotId) (v : Voice) : (s.setVoice n v).portB = s.portB := rfl
@[simp] theorem State.setVoice_lastServed (s : State) (n : SlotId) (v : Voice) : (s.setVoice n v).lastServed = s.lastServed := rfl
@[simp] theorem State.setVoice_slots (s : State) (n : SlotId) (v : Voice) : (s.setVoice n v).slots = s.slots := rfl
@[simp] theorem State.setVoice_holds (s : State) (n : SlotId) (v : Voice) : (s.setVoice n v).holds = s.holds := rfl
@[simp] theorem State.setVoice_morphs (s : State) (n : SlotId) (v : Voice) : (s.setVoice n v).morphs = s.morphs := rfl
@[simp] theorem State.setVoice_entries (s : State) (n : SlotId) (v : Voice) : (s.setVoice n v).entries = s.entries := rfl
@[simp] theorem State.setVoice_recallRecord (s : State) (n : SlotId) (v : Voice) : (s.setVoice n v).recallRecord = s.recallRecord := rfl
@[simp] theorem State.setVoice_pool (s : State) (n : SlotId) (v : Voice) : (s.setVoice n v).pool = s.pool := rfl
@[simp] theorem State.setVoice_voices (s : State) (n : SlotId) (v : Voice) : (s.setVoice n v).voices = s.voices.set n v := rfl
@[simp] theorem State.setVoice_supplyGain (s : State) (n : SlotId) (v : Voice) : (s.setVoice n v).supplyGain = s.supplyGain := rfl
@[simp] theorem State.setVoice_quietGain (s : State) (n : SlotId) (v : Voice) : (s.setVoice n v).quietGain = s.quietGain := rfl
@[simp] theorem State.setVoice_stopped (s : State) (n : SlotId) (v : Voice) : (s.setVoice n v).stopped = s.stopped := rfl
@[simp] theorem State.setVoice_fadeReports (s : State) (n : SlotId) (v : Voice) : (s.setVoice n v).fadeReports = s.fadeReports := rfl
@[simp] theorem State.setVoice_crossfadeReports (s : State) (n : SlotId) (v : Voice) : (s.setVoice n v).crossfadeReports = s.crossfadeReports := rfl
@[simp] theorem State.setVoice_quietReport (s : State) (n : SlotId) (v : Voice) : (s.setVoice n v).quietReport = s.quietReport := rfl
@[simp] theorem State.setVoice_audio (s : State) (n : SlotId) (v : Voice) : (s.setVoice n v).audio = s.audio := rfl
@[simp] theorem State.setVoice_tempo (s : State) (n : SlotId) (v : Voice) : (s.setVoice n v).tempo = s.tempo := rfl
@[simp] theorem State.setVoice_modulation (s : State) (n : SlotId) (v : Voice) : (s.setVoice n v).modulation = s.modulation := rfl
@[simp] theorem State.setVoice_scenes (s : State) (n : SlotId) (v : Voice) : (s.setVoice n v).scenes = s.scenes := rfl
@[simp] theorem State.setVoice_fresh (s : State) (n : SlotId) (v : Voice) : (s.setVoice n v).fresh = s.fresh := rfl
@[simp] theorem State.setVoice_pending (s : State) (n : SlotId) (v : Voice) : (s.setVoice n v).pending = s.pending := rfl
@[simp] theorem State.setVoice_port (s : State) (n : SlotId) (v : Voice) (q : Port) : (s.setVoice n v).port q = s.port q := by cases q <;> rfl

/-! ### setScene -/

@[simp] theorem State.setScene_power (s : State) (k : SceneId) (v : Scene) : (s.setScene k v).power = s.power := rfl
@[simp] theorem State.setScene_supply (s : State) (k : SceneId) (v : Scene) : (s.setScene k v).supply = s.supply := rfl
@[simp] theorem State.setScene_startKind (s : State) (k : SceneId) (v : Scene) : (s.setScene k v).startKind = s.startKind := rfl
@[simp] theorem State.setScene_sweep (s : State) (k : SceneId) (v : Scene) : (s.setScene k v).sweep = s.sweep := rfl
@[simp] theorem State.setScene_rate (s : State) (k : SceneId) (v : Scene) : (s.setScene k v).rate = s.rate := rfl
@[simp] theorem State.setScene_portA (s : State) (k : SceneId) (v : Scene) : (s.setScene k v).portA = s.portA := rfl
@[simp] theorem State.setScene_portB (s : State) (k : SceneId) (v : Scene) : (s.setScene k v).portB = s.portB := rfl
@[simp] theorem State.setScene_lastServed (s : State) (k : SceneId) (v : Scene) : (s.setScene k v).lastServed = s.lastServed := rfl
@[simp] theorem State.setScene_slots (s : State) (k : SceneId) (v : Scene) : (s.setScene k v).slots = s.slots := rfl
@[simp] theorem State.setScene_holds (s : State) (k : SceneId) (v : Scene) : (s.setScene k v).holds = s.holds := rfl
@[simp] theorem State.setScene_morphs (s : State) (k : SceneId) (v : Scene) : (s.setScene k v).morphs = s.morphs := rfl
@[simp] theorem State.setScene_entries (s : State) (k : SceneId) (v : Scene) : (s.setScene k v).entries = s.entries := rfl
@[simp] theorem State.setScene_recallRecord (s : State) (k : SceneId) (v : Scene) : (s.setScene k v).recallRecord = s.recallRecord := rfl
@[simp] theorem State.setScene_pool (s : State) (k : SceneId) (v : Scene) : (s.setScene k v).pool = s.pool := rfl
@[simp] theorem State.setScene_voices (s : State) (k : SceneId) (v : Scene) : (s.setScene k v).voices = s.voices := rfl
@[simp] theorem State.setScene_supplyGain (s : State) (k : SceneId) (v : Scene) : (s.setScene k v).supplyGain = s.supplyGain := rfl
@[simp] theorem State.setScene_quietGain (s : State) (k : SceneId) (v : Scene) : (s.setScene k v).quietGain = s.quietGain := rfl
@[simp] theorem State.setScene_stopped (s : State) (k : SceneId) (v : Scene) : (s.setScene k v).stopped = s.stopped := rfl
@[simp] theorem State.setScene_fadeReports (s : State) (k : SceneId) (v : Scene) : (s.setScene k v).fadeReports = s.fadeReports := rfl
@[simp] theorem State.setScene_crossfadeReports (s : State) (k : SceneId) (v : Scene) : (s.setScene k v).crossfadeReports = s.crossfadeReports := rfl
@[simp] theorem State.setScene_quietReport (s : State) (k : SceneId) (v : Scene) : (s.setScene k v).quietReport = s.quietReport := rfl
@[simp] theorem State.setScene_audio (s : State) (k : SceneId) (v : Scene) : (s.setScene k v).audio = s.audio := rfl
@[simp] theorem State.setScene_tempo (s : State) (k : SceneId) (v : Scene) : (s.setScene k v).tempo = s.tempo := rfl
@[simp] theorem State.setScene_modulation (s : State) (k : SceneId) (v : Scene) : (s.setScene k v).modulation = s.modulation := rfl
@[simp] theorem State.setScene_scenes (s : State) (k : SceneId) (v : Scene) : (s.setScene k v).scenes = s.scenes.set k v := rfl
@[simp] theorem State.setScene_fresh (s : State) (k : SceneId) (v : Scene) : (s.setScene k v).fresh = s.fresh := rfl
@[simp] theorem State.setScene_pending (s : State) (k : SceneId) (v : Scene) : (s.setScene k v).pending = s.pending := rfl
@[simp] theorem State.setScene_port (s : State) (k : SceneId) (v : Scene) (q : Port) : (s.setScene k v).port q = s.port q := by cases q <;> rfl

/-! ### setPool -/

@[simp] theorem State.setPool_power (s : State) (p : Pool) : (s.setPool p).power = s.power := rfl
@[simp] theorem State.setPool_supply (s : State) (p : Pool) : (s.setPool p).supply = s.supply := rfl
@[simp] theorem State.setPool_startKind (s : State) (p : Pool) : (s.setPool p).startKind = s.startKind := rfl
@[simp] theorem State.setPool_sweep (s : State) (p : Pool) : (s.setPool p).sweep = s.sweep := rfl
@[simp] theorem State.setPool_rate (s : State) (p : Pool) : (s.setPool p).rate = s.rate := rfl
@[simp] theorem State.setPool_portA (s : State) (p : Pool) : (s.setPool p).portA = s.portA := rfl
@[simp] theorem State.setPool_portB (s : State) (p : Pool) : (s.setPool p).portB = s.portB := rfl
@[simp] theorem State.setPool_lastServed (s : State) (p : Pool) : (s.setPool p).lastServed = s.lastServed := rfl
@[simp] theorem State.setPool_slots (s : State) (p : Pool) : (s.setPool p).slots = s.slots := rfl
@[simp] theorem State.setPool_holds (s : State) (p : Pool) : (s.setPool p).holds = s.holds := rfl
@[simp] theorem State.setPool_morphs (s : State) (p : Pool) : (s.setPool p).morphs = s.morphs := rfl
@[simp] theorem State.setPool_entries (s : State) (p : Pool) : (s.setPool p).entries = s.entries := rfl
@[simp] theorem State.setPool_recallRecord (s : State) (p : Pool) : (s.setPool p).recallRecord = s.recallRecord := rfl
@[simp] theorem State.setPool_pool (s : State) (p : Pool) : (s.setPool p).pool = p := rfl
@[simp] theorem State.setPool_voices (s : State) (p : Pool) : (s.setPool p).voices = s.voices := rfl
@[simp] theorem State.setPool_supplyGain (s : State) (p : Pool) : (s.setPool p).supplyGain = s.supplyGain := rfl
@[simp] theorem State.setPool_quietGain (s : State) (p : Pool) : (s.setPool p).quietGain = s.quietGain := rfl
@[simp] theorem State.setPool_stopped (s : State) (p : Pool) : (s.setPool p).stopped = s.stopped := rfl
@[simp] theorem State.setPool_fadeReports (s : State) (p : Pool) : (s.setPool p).fadeReports = s.fadeReports := rfl
@[simp] theorem State.setPool_crossfadeReports (s : State) (p : Pool) : (s.setPool p).crossfadeReports = s.crossfadeReports := rfl
@[simp] theorem State.setPool_quietReport (s : State) (p : Pool) : (s.setPool p).quietReport = s.quietReport := rfl
@[simp] theorem State.setPool_audio (s : State) (p : Pool) : (s.setPool p).audio = s.audio := rfl
@[simp] theorem State.setPool_tempo (s : State) (p : Pool) : (s.setPool p).tempo = s.tempo := rfl
@[simp] theorem State.setPool_modulation (s : State) (p : Pool) : (s.setPool p).modulation = s.modulation := rfl
@[simp] theorem State.setPool_scenes (s : State) (p : Pool) : (s.setPool p).scenes = s.scenes := rfl
@[simp] theorem State.setPool_fresh (s : State) (p : Pool) : (s.setPool p).fresh = s.fresh := rfl
@[simp] theorem State.setPool_pending (s : State) (p : Pool) : (s.setPool p).pending = s.pending := rfl
@[simp] theorem State.setPool_port (s : State) (p : Pool) (q : Port) : (s.setPool p).port q = s.port q := by cases q <;> rfl

/-! ### setTempo -/

@[simp] theorem State.setTempo_power (s : State) (u : TempoUnit) : (s.setTempo u).power = s.power := rfl
@[simp] theorem State.setTempo_supply (s : State) (u : TempoUnit) : (s.setTempo u).supply = s.supply := rfl
@[simp] theorem State.setTempo_startKind (s : State) (u : TempoUnit) : (s.setTempo u).startKind = s.startKind := rfl
@[simp] theorem State.setTempo_sweep (s : State) (u : TempoUnit) : (s.setTempo u).sweep = s.sweep := rfl
@[simp] theorem State.setTempo_rate (s : State) (u : TempoUnit) : (s.setTempo u).rate = s.rate := rfl
@[simp] theorem State.setTempo_portA (s : State) (u : TempoUnit) : (s.setTempo u).portA = s.portA := rfl
@[simp] theorem State.setTempo_portB (s : State) (u : TempoUnit) : (s.setTempo u).portB = s.portB := rfl
@[simp] theorem State.setTempo_lastServed (s : State) (u : TempoUnit) : (s.setTempo u).lastServed = s.lastServed := rfl
@[simp] theorem State.setTempo_slots (s : State) (u : TempoUnit) : (s.setTempo u).slots = s.slots := rfl
@[simp] theorem State.setTempo_holds (s : State) (u : TempoUnit) : (s.setTempo u).holds = s.holds := rfl
@[simp] theorem State.setTempo_morphs (s : State) (u : TempoUnit) : (s.setTempo u).morphs = s.morphs := rfl
@[simp] theorem State.setTempo_entries (s : State) (u : TempoUnit) : (s.setTempo u).entries = s.entries := rfl
@[simp] theorem State.setTempo_recallRecord (s : State) (u : TempoUnit) : (s.setTempo u).recallRecord = s.recallRecord := rfl
@[simp] theorem State.setTempo_pool (s : State) (u : TempoUnit) : (s.setTempo u).pool = s.pool := rfl
@[simp] theorem State.setTempo_voices (s : State) (u : TempoUnit) : (s.setTempo u).voices = s.voices := rfl
@[simp] theorem State.setTempo_supplyGain (s : State) (u : TempoUnit) : (s.setTempo u).supplyGain = s.supplyGain := rfl
@[simp] theorem State.setTempo_quietGain (s : State) (u : TempoUnit) : (s.setTempo u).quietGain = s.quietGain := rfl
@[simp] theorem State.setTempo_stopped (s : State) (u : TempoUnit) : (s.setTempo u).stopped = s.stopped := rfl
@[simp] theorem State.setTempo_fadeReports (s : State) (u : TempoUnit) : (s.setTempo u).fadeReports = s.fadeReports := rfl
@[simp] theorem State.setTempo_crossfadeReports (s : State) (u : TempoUnit) : (s.setTempo u).crossfadeReports = s.crossfadeReports := rfl
@[simp] theorem State.setTempo_quietReport (s : State) (u : TempoUnit) : (s.setTempo u).quietReport = s.quietReport := rfl
@[simp] theorem State.setTempo_audio (s : State) (u : TempoUnit) : (s.setTempo u).audio = s.audio := rfl
@[simp] theorem State.setTempo_tempo (s : State) (u : TempoUnit) : (s.setTempo u).tempo = u := rfl
@[simp] theorem State.setTempo_modulation (s : State) (u : TempoUnit) : (s.setTempo u).modulation = s.modulation := rfl
@[simp] theorem State.setTempo_scenes (s : State) (u : TempoUnit) : (s.setTempo u).scenes = s.scenes := rfl
@[simp] theorem State.setTempo_fresh (s : State) (u : TempoUnit) : (s.setTempo u).fresh = s.fresh := rfl
@[simp] theorem State.setTempo_pending (s : State) (u : TempoUnit) : (s.setTempo u).pending = s.pending := rfl
@[simp] theorem State.setTempo_port (s : State) (u : TempoUnit) (q : Port) : (s.setTempo u).port q = s.port q := by cases q <;> rfl

/-! ### setModulation -/

@[simp] theorem State.setModulation_power (s : State) (m : ModulationUnit) : (s.setModulation m).power = s.power := rfl
@[simp] theorem State.setModulation_supply (s : State) (m : ModulationUnit) : (s.setModulation m).supply = s.supply := rfl
@[simp] theorem State.setModulation_startKind (s : State) (m : ModulationUnit) : (s.setModulation m).startKind = s.startKind := rfl
@[simp] theorem State.setModulation_sweep (s : State) (m : ModulationUnit) : (s.setModulation m).sweep = s.sweep := rfl
@[simp] theorem State.setModulation_rate (s : State) (m : ModulationUnit) : (s.setModulation m).rate = s.rate := rfl
@[simp] theorem State.setModulation_portA (s : State) (m : ModulationUnit) : (s.setModulation m).portA = s.portA := rfl
@[simp] theorem State.setModulation_portB (s : State) (m : ModulationUnit) : (s.setModulation m).portB = s.portB := rfl
@[simp] theorem State.setModulation_lastServed (s : State) (m : ModulationUnit) : (s.setModulation m).lastServed = s.lastServed := rfl
@[simp] theorem State.setModulation_slots (s : State) (m : ModulationUnit) : (s.setModulation m).slots = s.slots := rfl
@[simp] theorem State.setModulation_holds (s : State) (m : ModulationUnit) : (s.setModulation m).holds = s.holds := rfl
@[simp] theorem State.setModulation_morphs (s : State) (m : ModulationUnit) : (s.setModulation m).morphs = s.morphs := rfl
@[simp] theorem State.setModulation_entries (s : State) (m : ModulationUnit) : (s.setModulation m).entries = s.entries := rfl
@[simp] theorem State.setModulation_recallRecord (s : State) (m : ModulationUnit) : (s.setModulation m).recallRecord = s.recallRecord := rfl
@[simp] theorem State.setModulation_pool (s : State) (m : ModulationUnit) : (s.setModulation m).pool = s.pool := rfl
@[simp] theorem State.setModulation_voices (s : State) (m : ModulationUnit) : (s.setModulation m).voices = s.voices := rfl
@[simp] theorem State.setModulation_supplyGain (s : State) (m : ModulationUnit) : (s.setModulation m).supplyGain = s.supplyGain := rfl
@[simp] theorem State.setModulation_quietGain (s : State) (m : ModulationUnit) : (s.setModulation m).quietGain = s.quietGain := rfl
@[simp] theorem State.setModulation_stopped (s : State) (m : ModulationUnit) : (s.setModulation m).stopped = s.stopped := rfl
@[simp] theorem State.setModulation_fadeReports (s : State) (m : ModulationUnit) : (s.setModulation m).fadeReports = s.fadeReports := rfl
@[simp] theorem State.setModulation_crossfadeReports (s : State) (m : ModulationUnit) : (s.setModulation m).crossfadeReports = s.crossfadeReports := rfl
@[simp] theorem State.setModulation_quietReport (s : State) (m : ModulationUnit) : (s.setModulation m).quietReport = s.quietReport := rfl
@[simp] theorem State.setModulation_audio (s : State) (m : ModulationUnit) : (s.setModulation m).audio = s.audio := rfl
@[simp] theorem State.setModulation_tempo (s : State) (m : ModulationUnit) : (s.setModulation m).tempo = s.tempo := rfl
@[simp] theorem State.setModulation_modulation (s : State) (m : ModulationUnit) : (s.setModulation m).modulation = m := rfl
@[simp] theorem State.setModulation_scenes (s : State) (m : ModulationUnit) : (s.setModulation m).scenes = s.scenes := rfl
@[simp] theorem State.setModulation_fresh (s : State) (m : ModulationUnit) : (s.setModulation m).fresh = s.fresh := rfl
@[simp] theorem State.setModulation_pending (s : State) (m : ModulationUnit) : (s.setModulation m).pending = s.pending := rfl
@[simp] theorem State.setModulation_port (s : State) (m : ModulationUnit) (q : Port) : (s.setModulation m).port q = s.port q := by cases q <;> rfl

/-! ### setLine -/

@[simp] theorem State.setLine_power (s : State) (n : SlotId) (l : LineId) (v : Line) : (s.setLine n l v).power = s.power := rfl
@[simp] theorem State.setLine_supply (s : State) (n : SlotId) (l : LineId) (v : Line) : (s.setLine n l v).supply = s.supply := rfl
@[simp] theorem State.setLine_startKind (s : State) (n : SlotId) (l : LineId) (v : Line) : (s.setLine n l v).startKind = s.startKind := rfl
@[simp] theorem State.setLine_sweep (s : State) (n : SlotId) (l : LineId) (v : Line) : (s.setLine n l v).sweep = s.sweep := rfl
@[simp] theorem State.setLine_rate (s : State) (n : SlotId) (l : LineId) (v : Line) : (s.setLine n l v).rate = s.rate := rfl
@[simp] theorem State.setLine_portA (s : State) (n : SlotId) (l : LineId) (v : Line) : (s.setLine n l v).portA = s.portA := rfl
@[simp] theorem State.setLine_portB (s : State) (n : SlotId) (l : LineId) (v : Line) : (s.setLine n l v).portB = s.portB := rfl
@[simp] theorem State.setLine_lastServed (s : State) (n : SlotId) (l : LineId) (v : Line) : (s.setLine n l v).lastServed = s.lastServed := rfl
@[simp] theorem State.setLine_slots (s : State) (n : SlotId) (l : LineId) (v : Line) : (s.setLine n l v).slots = s.slots.set n { s.slots[n] with lines := s.slots[n].lines.set l.val v } := rfl
@[simp] theorem State.setLine_holds (s : State) (n : SlotId) (l : LineId) (v : Line) : (s.setLine n l v).holds = s.holds := rfl
@[simp] theorem State.setLine_morphs (s : State) (n : SlotId) (l : LineId) (v : Line) : (s.setLine n l v).morphs = s.morphs := rfl
@[simp] theorem State.setLine_entries (s : State) (n : SlotId) (l : LineId) (v : Line) : (s.setLine n l v).entries = s.entries := rfl
@[simp] theorem State.setLine_recallRecord (s : State) (n : SlotId) (l : LineId) (v : Line) : (s.setLine n l v).recallRecord = s.recallRecord := rfl
@[simp] theorem State.setLine_pool (s : State) (n : SlotId) (l : LineId) (v : Line) : (s.setLine n l v).pool = s.pool := rfl
@[simp] theorem State.setLine_voices (s : State) (n : SlotId) (l : LineId) (v : Line) : (s.setLine n l v).voices = s.voices := rfl
@[simp] theorem State.setLine_supplyGain (s : State) (n : SlotId) (l : LineId) (v : Line) : (s.setLine n l v).supplyGain = s.supplyGain := rfl
@[simp] theorem State.setLine_quietGain (s : State) (n : SlotId) (l : LineId) (v : Line) : (s.setLine n l v).quietGain = s.quietGain := rfl
@[simp] theorem State.setLine_stopped (s : State) (n : SlotId) (l : LineId) (v : Line) : (s.setLine n l v).stopped = s.stopped := rfl
@[simp] theorem State.setLine_fadeReports (s : State) (n : SlotId) (l : LineId) (v : Line) : (s.setLine n l v).fadeReports = s.fadeReports := rfl
@[simp] theorem State.setLine_crossfadeReports (s : State) (n : SlotId) (l : LineId) (v : Line) : (s.setLine n l v).crossfadeReports = s.crossfadeReports := rfl
@[simp] theorem State.setLine_quietReport (s : State) (n : SlotId) (l : LineId) (v : Line) : (s.setLine n l v).quietReport = s.quietReport := rfl
@[simp] theorem State.setLine_audio (s : State) (n : SlotId) (l : LineId) (v : Line) : (s.setLine n l v).audio = s.audio := rfl
@[simp] theorem State.setLine_tempo (s : State) (n : SlotId) (l : LineId) (v : Line) : (s.setLine n l v).tempo = s.tempo := rfl
@[simp] theorem State.setLine_modulation (s : State) (n : SlotId) (l : LineId) (v : Line) : (s.setLine n l v).modulation = s.modulation := rfl
@[simp] theorem State.setLine_scenes (s : State) (n : SlotId) (l : LineId) (v : Line) : (s.setLine n l v).scenes = s.scenes := rfl
@[simp] theorem State.setLine_fresh (s : State) (n : SlotId) (l : LineId) (v : Line) : (s.setLine n l v).fresh = s.fresh := rfl
@[simp] theorem State.setLine_pending (s : State) (n : SlotId) (l : LineId) (v : Line) : (s.setLine n l v).pending = s.pending := rfl
@[simp] theorem State.setLine_port (s : State) (n : SlotId) (l : LineId) (v : Line) (q : Port) : (s.setLine n l v).port q = s.port q := by cases q <;> rfl

/-! ### raiseBoth -/

@[simp] theorem State.raiseBoth_power (s : State) (f : Flag) : (s.raiseBoth f).power = s.power := rfl
@[simp] theorem State.raiseBoth_supply (s : State) (f : Flag) : (s.raiseBoth f).supply = s.supply := rfl
@[simp] theorem State.raiseBoth_startKind (s : State) (f : Flag) : (s.raiseBoth f).startKind = s.startKind := rfl
@[simp] theorem State.raiseBoth_sweep (s : State) (f : Flag) : (s.raiseBoth f).sweep = s.sweep := rfl
@[simp] theorem State.raiseBoth_rate (s : State) (f : Flag) : (s.raiseBoth f).rate = s.rate := rfl
@[simp] theorem State.raiseBoth_portA (s : State) (f : Flag) : (s.raiseBoth f).portA = s.portA.raise f := rfl
@[simp] theorem State.raiseBoth_portB (s : State) (f : Flag) : (s.raiseBoth f).portB = s.portB.raise f := rfl
@[simp] theorem State.raiseBoth_lastServed (s : State) (f : Flag) : (s.raiseBoth f).lastServed = s.lastServed := rfl
@[simp] theorem State.raiseBoth_slots (s : State) (f : Flag) : (s.raiseBoth f).slots = s.slots := rfl
@[simp] theorem State.raiseBoth_holds (s : State) (f : Flag) : (s.raiseBoth f).holds = s.holds := rfl
@[simp] theorem State.raiseBoth_morphs (s : State) (f : Flag) : (s.raiseBoth f).morphs = s.morphs := rfl
@[simp] theorem State.raiseBoth_entries (s : State) (f : Flag) : (s.raiseBoth f).entries = s.entries := rfl
@[simp] theorem State.raiseBoth_recallRecord (s : State) (f : Flag) : (s.raiseBoth f).recallRecord = s.recallRecord := rfl
@[simp] theorem State.raiseBoth_pool (s : State) (f : Flag) : (s.raiseBoth f).pool = s.pool := rfl
@[simp] theorem State.raiseBoth_voices (s : State) (f : Flag) : (s.raiseBoth f).voices = s.voices := rfl
@[simp] theorem State.raiseBoth_supplyGain (s : State) (f : Flag) : (s.raiseBoth f).supplyGain = s.supplyGain := rfl
@[simp] theorem State.raiseBoth_quietGain (s : State) (f : Flag) : (s.raiseBoth f).quietGain = s.quietGain := rfl
@[simp] theorem State.raiseBoth_stopped (s : State) (f : Flag) : (s.raiseBoth f).stopped = s.stopped := rfl
@[simp] theorem State.raiseBoth_fadeReports (s : State) (f : Flag) : (s.raiseBoth f).fadeReports = s.fadeReports := rfl
@[simp] theorem State.raiseBoth_crossfadeReports (s : State) (f : Flag) : (s.raiseBoth f).crossfadeReports = s.crossfadeReports := rfl
@[simp] theorem State.raiseBoth_quietReport (s : State) (f : Flag) : (s.raiseBoth f).quietReport = s.quietReport := rfl
@[simp] theorem State.raiseBoth_audio (s : State) (f : Flag) : (s.raiseBoth f).audio = s.audio := rfl
@[simp] theorem State.raiseBoth_tempo (s : State) (f : Flag) : (s.raiseBoth f).tempo = s.tempo := rfl
@[simp] theorem State.raiseBoth_modulation (s : State) (f : Flag) : (s.raiseBoth f).modulation = s.modulation := rfl
@[simp] theorem State.raiseBoth_scenes (s : State) (f : Flag) : (s.raiseBoth f).scenes = s.scenes := rfl
@[simp] theorem State.raiseBoth_fresh (s : State) (f : Flag) : (s.raiseBoth f).fresh = s.fresh := rfl
@[simp] theorem State.raiseBoth_pending (s : State) (f : Flag) : (s.raiseBoth f).pending = s.pending := rfl
@[simp] theorem State.raiseBoth_port (s : State) (f : Flag) (q : Port) : (s.raiseBoth f).port q = (s.port q).raise f := by cases q <;> rfl

/-! ### setPort -/

@[simp] theorem State.setPort_power (s : State) (p : Port) (v : PortState) : (s.setPort p v).power = s.power := by cases p <;> rfl
@[simp] theorem State.setPort_supply (s : State) (p : Port) (v : PortState) : (s.setPort p v).supply = s.supply := by cases p <;> rfl
@[simp] theorem State.setPort_startKind (s : State) (p : Port) (v : PortState) : (s.setPort p v).startKind = s.startKind := by cases p <;> rfl
@[simp] theorem State.setPort_sweep (s : State) (p : Port) (v : PortState) : (s.setPort p v).sweep = s.sweep := by cases p <;> rfl
@[simp] theorem State.setPort_rate (s : State) (p : Port) (v : PortState) : (s.setPort p v).rate = s.rate := by cases p <;> rfl
@[simp] theorem State.setPort_lastServed (s : State) (p : Port) (v : PortState) : (s.setPort p v).lastServed = s.lastServed := by cases p <;> rfl
@[simp] theorem State.setPort_slots (s : State) (p : Port) (v : PortState) : (s.setPort p v).slots = s.slots := by cases p <;> rfl
@[simp] theorem State.setPort_holds (s : State) (p : Port) (v : PortState) : (s.setPort p v).holds = s.holds := by cases p <;> rfl
@[simp] theorem State.setPort_morphs (s : State) (p : Port) (v : PortState) : (s.setPort p v).morphs = s.morphs := by cases p <;> rfl
@[simp] theorem State.setPort_entries (s : State) (p : Port) (v : PortState) : (s.setPort p v).entries = s.entries := by cases p <;> rfl
@[simp] theorem State.setPort_recallRecord (s : State) (p : Port) (v : PortState) : (s.setPort p v).recallRecord = s.recallRecord := by cases p <;> rfl
@[simp] theorem State.setPort_pool (s : State) (p : Port) (v : PortState) : (s.setPort p v).pool = s.pool := by cases p <;> rfl
@[simp] theorem State.setPort_voices (s : State) (p : Port) (v : PortState) : (s.setPort p v).voices = s.voices := by cases p <;> rfl
@[simp] theorem State.setPort_supplyGain (s : State) (p : Port) (v : PortState) : (s.setPort p v).supplyGain = s.supplyGain := by cases p <;> rfl
@[simp] theorem State.setPort_quietGain (s : State) (p : Port) (v : PortState) : (s.setPort p v).quietGain = s.quietGain := by cases p <;> rfl
@[simp] theorem State.setPort_stopped (s : State) (p : Port) (v : PortState) : (s.setPort p v).stopped = s.stopped := by cases p <;> rfl
@[simp] theorem State.setPort_fadeReports (s : State) (p : Port) (v : PortState) : (s.setPort p v).fadeReports = s.fadeReports := by cases p <;> rfl
@[simp] theorem State.setPort_crossfadeReports (s : State) (p : Port) (v : PortState) : (s.setPort p v).crossfadeReports = s.crossfadeReports := by cases p <;> rfl
@[simp] theorem State.setPort_quietReport (s : State) (p : Port) (v : PortState) : (s.setPort p v).quietReport = s.quietReport := by cases p <;> rfl
@[simp] theorem State.setPort_audio (s : State) (p : Port) (v : PortState) : (s.setPort p v).audio = s.audio := by cases p <;> rfl
@[simp] theorem State.setPort_tempo (s : State) (p : Port) (v : PortState) : (s.setPort p v).tempo = s.tempo := by cases p <;> rfl
@[simp] theorem State.setPort_modulation (s : State) (p : Port) (v : PortState) : (s.setPort p v).modulation = s.modulation := by cases p <;> rfl
@[simp] theorem State.setPort_scenes (s : State) (p : Port) (v : PortState) : (s.setPort p v).scenes = s.scenes := by cases p <;> rfl
@[simp] theorem State.setPort_fresh (s : State) (p : Port) (v : PortState) : (s.setPort p v).fresh = s.fresh := by cases p <;> rfl
@[simp] theorem State.setPort_pending (s : State) (p : Port) (v : PortState) : (s.setPort p v).pending = s.pending := by cases p <;> rfl

/-! ### raise -/

@[simp] theorem State.raise_power (s : State) (p : Port) (f : Flag) : (s.raise p f).power = s.power := by cases p <;> rfl
@[simp] theorem State.raise_supply (s : State) (p : Port) (f : Flag) : (s.raise p f).supply = s.supply := by cases p <;> rfl
@[simp] theorem State.raise_startKind (s : State) (p : Port) (f : Flag) : (s.raise p f).startKind = s.startKind := by cases p <;> rfl
@[simp] theorem State.raise_sweep (s : State) (p : Port) (f : Flag) : (s.raise p f).sweep = s.sweep := by cases p <;> rfl
@[simp] theorem State.raise_rate (s : State) (p : Port) (f : Flag) : (s.raise p f).rate = s.rate := by cases p <;> rfl
@[simp] theorem State.raise_lastServed (s : State) (p : Port) (f : Flag) : (s.raise p f).lastServed = s.lastServed := by cases p <;> rfl
@[simp] theorem State.raise_slots (s : State) (p : Port) (f : Flag) : (s.raise p f).slots = s.slots := by cases p <;> rfl
@[simp] theorem State.raise_holds (s : State) (p : Port) (f : Flag) : (s.raise p f).holds = s.holds := by cases p <;> rfl
@[simp] theorem State.raise_morphs (s : State) (p : Port) (f : Flag) : (s.raise p f).morphs = s.morphs := by cases p <;> rfl
@[simp] theorem State.raise_entries (s : State) (p : Port) (f : Flag) : (s.raise p f).entries = s.entries := by cases p <;> rfl
@[simp] theorem State.raise_recallRecord (s : State) (p : Port) (f : Flag) : (s.raise p f).recallRecord = s.recallRecord := by cases p <;> rfl
@[simp] theorem State.raise_pool (s : State) (p : Port) (f : Flag) : (s.raise p f).pool = s.pool := by cases p <;> rfl
@[simp] theorem State.raise_voices (s : State) (p : Port) (f : Flag) : (s.raise p f).voices = s.voices := by cases p <;> rfl
@[simp] theorem State.raise_supplyGain (s : State) (p : Port) (f : Flag) : (s.raise p f).supplyGain = s.supplyGain := by cases p <;> rfl
@[simp] theorem State.raise_quietGain (s : State) (p : Port) (f : Flag) : (s.raise p f).quietGain = s.quietGain := by cases p <;> rfl
@[simp] theorem State.raise_stopped (s : State) (p : Port) (f : Flag) : (s.raise p f).stopped = s.stopped := by cases p <;> rfl
@[simp] theorem State.raise_fadeReports (s : State) (p : Port) (f : Flag) : (s.raise p f).fadeReports = s.fadeReports := by cases p <;> rfl
@[simp] theorem State.raise_crossfadeReports (s : State) (p : Port) (f : Flag) : (s.raise p f).crossfadeReports = s.crossfadeReports := by cases p <;> rfl
@[simp] theorem State.raise_quietReport (s : State) (p : Port) (f : Flag) : (s.raise p f).quietReport = s.quietReport := by cases p <;> rfl
@[simp] theorem State.raise_audio (s : State) (p : Port) (f : Flag) : (s.raise p f).audio = s.audio := by cases p <;> rfl
@[simp] theorem State.raise_tempo (s : State) (p : Port) (f : Flag) : (s.raise p f).tempo = s.tempo := by cases p <;> rfl
@[simp] theorem State.raise_modulation (s : State) (p : Port) (f : Flag) : (s.raise p f).modulation = s.modulation := by cases p <;> rfl
@[simp] theorem State.raise_scenes (s : State) (p : Port) (f : Flag) : (s.raise p f).scenes = s.scenes := by cases p <;> rfl
@[simp] theorem State.raise_fresh (s : State) (p : Port) (f : Flag) : (s.raise p f).fresh = s.fresh := by cases p <;> rfl
@[simp] theorem State.raise_pending (s : State) (p : Port) (f : Flag) : (s.raise p f).pending = s.pending := by cases p <;> rfl

/-! ### placeResult -/

@[simp] theorem State.placeResult_power (s : State) (p : Port) (r : Result) : (s.placeResult p r).power = s.power := by cases p <;> rfl
@[simp] theorem State.placeResult_supply (s : State) (p : Port) (r : Result) : (s.placeResult p r).supply = s.supply := by cases p <;> rfl
@[simp] theorem State.placeResult_startKind (s : State) (p : Port) (r : Result) : (s.placeResult p r).startKind = s.startKind := by cases p <;> rfl
@[simp] theorem State.placeResult_sweep (s : State) (p : Port) (r : Result) : (s.placeResult p r).sweep = s.sweep := by cases p <;> rfl
@[simp] theorem State.placeResult_rate (s : State) (p : Port) (r : Result) : (s.placeResult p r).rate = s.rate := by cases p <;> rfl
@[simp] theorem State.placeResult_lastServed (s : State) (p : Port) (r : Result) : (s.placeResult p r).lastServed = s.lastServed := by cases p <;> rfl
@[simp] theorem State.placeResult_slots (s : State) (p : Port) (r : Result) : (s.placeResult p r).slots = s.slots := by cases p <;> rfl
@[simp] theorem State.placeResult_holds (s : State) (p : Port) (r : Result) : (s.placeResult p r).holds = s.holds := by cases p <;> rfl
@[simp] theorem State.placeResult_morphs (s : State) (p : Port) (r : Result) : (s.placeResult p r).morphs = s.morphs := by cases p <;> rfl
@[simp] theorem State.placeResult_entries (s : State) (p : Port) (r : Result) : (s.placeResult p r).entries = s.entries := by cases p <;> rfl
@[simp] theorem State.placeResult_recallRecord (s : State) (p : Port) (r : Result) : (s.placeResult p r).recallRecord = s.recallRecord := by cases p <;> rfl
@[simp] theorem State.placeResult_pool (s : State) (p : Port) (r : Result) : (s.placeResult p r).pool = s.pool := by cases p <;> rfl
@[simp] theorem State.placeResult_voices (s : State) (p : Port) (r : Result) : (s.placeResult p r).voices = s.voices := by cases p <;> rfl
@[simp] theorem State.placeResult_supplyGain (s : State) (p : Port) (r : Result) : (s.placeResult p r).supplyGain = s.supplyGain := by cases p <;> rfl
@[simp] theorem State.placeResult_quietGain (s : State) (p : Port) (r : Result) : (s.placeResult p r).quietGain = s.quietGain := by cases p <;> rfl
@[simp] theorem State.placeResult_stopped (s : State) (p : Port) (r : Result) : (s.placeResult p r).stopped = s.stopped := by cases p <;> rfl
@[simp] theorem State.placeResult_fadeReports (s : State) (p : Port) (r : Result) : (s.placeResult p r).fadeReports = s.fadeReports := by cases p <;> rfl
@[simp] theorem State.placeResult_crossfadeReports (s : State) (p : Port) (r : Result) : (s.placeResult p r).crossfadeReports = s.crossfadeReports := by cases p <;> rfl
@[simp] theorem State.placeResult_quietReport (s : State) (p : Port) (r : Result) : (s.placeResult p r).quietReport = s.quietReport := by cases p <;> rfl
@[simp] theorem State.placeResult_audio (s : State) (p : Port) (r : Result) : (s.placeResult p r).audio = s.audio := by cases p <;> rfl
@[simp] theorem State.placeResult_tempo (s : State) (p : Port) (r : Result) : (s.placeResult p r).tempo = s.tempo := by cases p <;> rfl
@[simp] theorem State.placeResult_modulation (s : State) (p : Port) (r : Result) : (s.placeResult p r).modulation = s.modulation := by cases p <;> rfl
@[simp] theorem State.placeResult_scenes (s : State) (p : Port) (r : Result) : (s.placeResult p r).scenes = s.scenes := by cases p <;> rfl
@[simp] theorem State.placeResult_fresh (s : State) (p : Port) (r : Result) : (s.placeResult p r).fresh = s.fresh := by cases p <;> rfl
@[simp] theorem State.placeResult_pending (s : State) (p : Port) (r : Result) : (s.placeResult p r).pending = s.pending := by cases p <;> rfl

/-! ### Ports -/

@[simp] theorem State.setPort_port_same (s : State) (p : Port) (v : PortState) : (s.setPort p v).port p = v := by cases p <;> rfl
@[simp] theorem State.setPort_port_other (s : State) (p : Port) (v : PortState) : (s.setPort p v).port p.other = s.port p.other := by
  cases p <;> rfl
theorem State.setPort_port (s : State) (p q : Port) (v : PortState) :
    (s.setPort p v).port q = if q = p then v else s.port q := by cases p <;> cases q <;> rfl
@[simp] theorem State.setPort_self (s : State) (p : Port) : s.setPort p (s.port p) = s := by cases p <;> rfl
@[simp] theorem State.setPort_setPort (s : State) (p : Port) (v w : PortState) : (s.setPort p v).setPort p w = s.setPort p w := by
  cases p <;> rfl
@[simp] theorem State.raise_port_same (s : State) (p : Port) (f : Flag) : (s.raise p f).port p = (s.port p).raise f := by
  cases p <;> rfl
@[simp] theorem State.raise_port_other (s : State) (p : Port) (f : Flag) : (s.raise p f).port p.other = s.port p.other := by
  cases p <;> rfl
@[simp] theorem State.placeResult_port_same (s : State) (p : Port) (r : Result) :
    (s.placeResult p r).port p = { s.port p with results := (s.port p).results ++ [r] } := by cases p <;> rfl
@[simp] theorem State.placeResult_port_other (s : State) (p : Port) (r : Result) :
    (s.placeResult p r).port p.other = s.port p.other := by cases p <;> rfl
@[simp] theorem Port.other_other (p : Port) : p.other.other = p := by cases p <;> rfl
theorem Port.other_ne (p : Port) : p.other ≠ p := by cases p <;> decide
theorem Port.eq_or_other (p q : Port) : q = p ∨ q = p.other := by cases p <;> cases q <;> decide

@[simp] theorem PortState.raise_ownAddress (v : PortState) (f : Flag) : (v.raise f).ownAddress = v.ownAddress := rfl
@[simp] theorem PortState.raise_link (v : PortState) (f : Flag) : (v.raise f).link = v.link := rfl
@[simp] theorem PortState.raise_buffer (v : PortState) (f : Flag) : (v.raise f).buffer = v.buffer := rfl
@[simp] theorem PortState.raise_callMark (v : PortState) (f : Flag) : (v.raise f).callMark = v.callMark := rfl
@[simp] theorem PortState.raise_tooLong (v : PortState) (f : Flag) : (v.raise f).tooLong = v.tooLong := rfl
@[simp] theorem PortState.raise_commands (v : PortState) (f : Flag) : (v.raise f).commands = v.commands := rfl
@[simp] theorem PortState.raise_results (v : PortState) (f : Flag) : (v.raise f).results = v.results := rfl
@[simp] theorem PortState.raise_mask (v : PortState) (f : Flag) : (v.raise f).mask = v.mask := rfl
@[simp] theorem PortState.raise_callEnable (v : PortState) (f : Flag) : (v.raise f).callEnable = v.callEnable := rfl
@[simp] theorem PortState.raise_lease (v : PortState) (f : Flag) : (v.raise f).lease = v.lease := rfl
@[simp] theorem PortState.raise_flags (v : PortState) (f : Flag) : (v.raise f).flags = v.flags ||| f.bit := rfl
@[simp] theorem PortState.raise_creditsInUse (v : PortState) (f : Flag) : (v.raise f).creditsInUse = v.creditsInUse := rfl

end Sys2Proof.Machine
end

