-- ==== Sys2Proof/Laws/Frames.lean ====
section
/-! SUPPORT. What the Slot Controller's shared operations leave alone: everything but the slots, their tables, the Recall Record, the pool,
the voices, their reports, and the event flags. -/

namespace Sys2Proof.Machine

/-! ### Folds -/

/-- A fold of steps that each keep a view keeps the view. -/
theorem foldl_keeps {α β γ : Type} (g : α → γ) (f : α → β → α) (h : ∀ a b, g (f a b) = g a) (l : List β) (a : α) :
    g (l.foldl f a) = g a := by
  induction l generalizing a with
  | nil => rfl
  | cons b l ih => rw [List.foldl_cons, ih, h]

/-- A fold of steps that each keep a property keeps the property. -/
theorem foldl_holds {α β : Type} (P : α → Prop) (f : α → β → α) (h : ∀ a b, P a → P (f a b)) (l : List β) (a : α) (ha : P a) :
    P (l.foldl f a) := by
  induction l generalizing a with
  | nil => exact ha
  | cons b l ih => exact ih _ (h a b ha)

/-! ### The surroundings of the slots -/

variable (s : State) (n : SlotId) (l : LineId)

@[simp] theorem State.setSlot_surroundings (v : Slot) : (s.setSlot n v).surroundings = s.surroundings := rfl
@[simp] theorem State.setMorph_surroundings (v : Option Morph) : (s.setMorph n v).surroundings = s.surroundings := rfl
@[simp] theorem State.setEntry_surroundings (v : Option SceneEntry) : (s.setEntry n v).surroundings = s.surroundings := rfl
@[simp] theorem State.setVoice_surroundings (v : Voice) : (s.setVoice n v).surroundings = s.surroundings := rfl
@[simp] theorem State.setPool_surroundings (p : Pool) : (s.setPool p).surroundings = s.surroundings := rfl
@[simp] theorem State.setLine_surroundings (v : Line) : (s.setLine n l v).surroundings = s.surroundings := rfl
@[simp] theorem State.raiseBoth_surroundings (f : Flag) : (s.raiseBoth f).surroundings = s.surroundings := rfl
@[simp] theorem State.setRecall_surroundings (r : RecallRecord) :
    State.surroundings { s with recallRecord := r } = s.surroundings := rfl
@[simp] theorem State.setFadeReports_surroundings (r : List SlotId) :
    State.surroundings { s with fadeReports := r } = s.surroundings := rfl
@[simp] theorem State.setCrossfadeReports_surroundings (r : List (SlotId × LineId)) :
    State.surroundings { s with crossfadeReports := r } = s.surroundings := rfl

@[simp] theorem State.recallDone_surroundings : s.recallDone.surroundings = s.surroundings := rfl

@[simp] theorem State.leaveWaiting_surroundings : (s.leaveWaiting n).surroundings = s.surroundings := by
  unfold State.leaveWaiting; dsimp only; split_ifs <;> rfl

@[simp] theorem State.recallFailed_surroundings : (s.recallFailed n).surroundings = s.surroundings := by
  unfold State.recallFailed; split_ifs <;> simp

@[simp] theorem State.removeMorph_surroundings : (s.removeMorph n).surroundings = s.surroundings := by
  unfold State.removeMorph; split <;> simp

@[simp] theorem State.endMorphing_surroundings (ixs : List ParamIx) : (s.endMorphing n ixs).surroundings = s.surroundings := by
  unfold State.endMorphing; dsimp only; split
  · rfl
  · split_ifs <;> simp

@[simp] theorem State.removeEntry_surroundings : (s.removeEntry n).surroundings = s.surroundings := by
  unfold State.removeEntry; split <;> simp

@[simp] theorem State.endVoice_surroundings : (s.endVoice n).surroundings = s.surroundings := rfl
@[simp] theorem State.followInput_surroundings : (s.followInput n).surroundings = s.surroundings := rfl

@[simp] theorem State.requestFade_surroundings (g : Rat) (k : Nat) : (s.requestFade n g k).surroundings = s.surroundings := by
  unfold State.requestFade; split_ifs <;> rfl

@[simp] theorem State.giveBackLines_surroundings (ls : List Line) : (s.giveBackLines ls).surroundings = s.surroundings := rfl
@[simp] theorem State.updateClamped_surroundings : (s.updateClamped n).surroundings = s.surroundings := rfl

@[simp] theorem State.emptySlot_surroundings : (s.emptySlot n).surroundings = s.surroundings := by
  unfold State.emptySlot; simp

@[simp] theorem State.startGrowth_surroundings (k : Nat) : (s.startGrowth n l k).surroundings = s.surroundings := by
  unfold State.startGrowth; split
  · split
    · simp
    · split <;> simp
  · rfl

@[simp] theorem State.replaceRegion_surroundings (k : Nat) : (s.replaceRegion n l k).surroundings = s.surroundings := by
  unfold State.replaceRegion; split
  · split <;> simp
  · rfl

@[simp] theorem State.needAbove_surroundings (ln : Line) (k : Nat) : (s.needAbove n l ln k).surroundings = s.surroundings := by
  unfold State.needAbove; split_ifs <;> simp

@[simp] theorem State.evalNeed_surroundings : (s.evalNeed n l).surroundings = s.surroundings := by
  unfold State.evalNeed; split_ifs
  · split
    · split_ifs <;> simp
    · rfl
  · rfl

@[simp] theorem State.evalWritten_surroundings (ixs : List ParamIx) : (s.evalWritten n ixs).surroundings = s.surroundings := by
  unfold State.evalWritten; split
  · exact foldl_keeps _ _ (fun t k => t.evalNeed_surroundings n k) _ _
  · rfl

@[simp] theorem State.growthEnd_surroundings : (s.growthEnd n l).surroundings = s.surroundings := by
  unfold State.growthEnd; split
  · dsimp only
    split
    · split_ifs <;> simp
    · simp
  · rfl

@[simp] theorem State.writeShadow_surroundings (b : Bank) : (s.writeShadow n b).surroundings = s.surroundings := rfl

@[simp] theorem State.prepare_surroundings (a : Alg) (b : Bank) (es : List EntryId) :
    (s.prepare n a b es).surroundings = s.surroundings := rfl

@[simp] theorem State.takeRouting_surroundings (e : SceneEntry) : (s.takeRouting n e).surroundings = s.surroundings := rfl

@[simp] theorem State.beginFading_surroundings (next : Option Alg) : (s.beginFading n next).surroundings = s.surroundings := by
  unfold State.beginFading; simp

@[simp] theorem State.takePending_surroundings : (s.takePending n).surroundings = s.surroundings := by
  unfold State.takePending; split <;> simp

@[simp] theorem State.fadeEnded_surroundings : (s.fadeEnded n).surroundings = s.surroundings := by
  unfold State.fadeEnded; dsimp only
  split
  · simp
  · split <;> simp

@[simp] theorem State.forceFadeEnds_surroundings : s.forceFadeEnds.surroundings = s.surroundings :=
  foldl_keeps _ _ (fun t k => by split_ifs <;> simp) _ _

@[simp] theorem State.startClearing_surroundings : s.startClearing.surroundings = s.surroundings := rfl

@[simp] theorem State.soundMute_surroundings (g : Rat) : (s.soundMute n g).surroundings = s.surroundings := by
  unfold State.soundMute; split_ifs <;> simp

@[simp] theorem State.muteSlot_surroundings : (s.muteSlot n).surroundings = s.surroundings := by
  unfold State.muteSlot; split <;> simp

@[simp] theorem State.unmuteSlot_surroundings : (s.unmuteSlot n).surroundings = s.surroundings := by
  unfold State.unmuteSlot; split <;> simp

@[simp] theorem State.routeSlot_surroundings (a : SendSet) (b : PairId) : (s.routeSlot n a b).surroundings = s.surroundings := rfl

@[simp] theorem State.writeParams_surroundings (a : Alg) (prs : List (ParamIx × Int)) :
    (s.writeParams n a prs).surroundings = s.surroundings := by unfold State.writeParams; simp

@[simp] theorem State.joinWaiting_surroundings : (s.joinWaiting n).surroundings = s.surroundings := rfl

@[simp] theorem State.makeMorph_surroundings (a : Alg) (b : Bank) (k : Nat) :
    (s.makeMorph n a b k).surroundings = s.surroundings := by unfold State.makeMorph; simp

@[simp] theorem State.cutParams_surroundings (b : Bank) : (s.cutParams n b).surroundings = s.surroundings := by
  unfold State.cutParams; simp

@[simp] theorem State.recallRouting_surroundings (e : SceneEntry) : (s.recallRouting n e).surroundings = s.surroundings := by
  unfold State.recallRouting; dsimp only; split_ifs <;> simp

@[simp] theorem State.recallSame_surroundings (e : SceneEntry) (k : Nat) : (s.recallSame n e k).1.surroundings = s.surroundings := by
  unfold State.recallSame; dsimp only; split_ifs <;> simp

@[simp] theorem State.recallEmpty_surroundings (e : SceneEntry) : (s.recallEmpty n e).1.surroundings = s.surroundings := by
  unfold State.recallEmpty; split_ifs
  · split <;> simp
  · rfl

@[simp] theorem State.recallPreparing_surroundings (e : SceneEntry) :
    (s.recallPreparing n e).1.surroundings = s.surroundings := by
  unfold State.recallPreparing; dsimp only; split_ifs <;> simp

@[simp] theorem State.recallReplace_surroundings (e : SceneEntry) : (s.recallReplace n e).1.surroundings = s.surroundings := by
  unfold State.recallReplace; split_ifs
  · split <;> simp
  · rfl

@[simp] theorem State.recallFade_surroundings (e : SceneEntry) (a : Alg) :
    (s.recallFade n e a).1.surroundings = s.surroundings := by unfold State.recallFade; split_ifs <;> simp

@[simp] theorem State.recallFading_surroundings (e : SceneEntry) (a : Alg) :
    (s.recallFading n e a).1.surroundings = s.surroundings := by unfold State.recallFading; split_ifs <;> simp

@[simp] theorem State.recallByState_surroundings (e : SceneEntry) (k : Nat) :
    (s.recallByState e k).1.surroundings = s.surroundings := by
  unfold State.recallByState; dsimp only
  split <;> (try split_ifs) <;> simp

@[simp] theorem State.abortRecall_surroundings : s.abortRecall.surroundings = s.surroundings := by
  unfold State.abortRecall; split_ifs <;> rfl

@[simp] theorem State.openRecall_surroundings (k : SceneId) (o : Origin) : (s.openRecall k o).surroundings = s.surroundings := rfl

@[simp] theorem State.morphStep_surroundings : (s.morphStep n).surroundings = s.surroundings := by
  unfold State.morphStep; split
  · dsimp only; split_ifs <;> simp
  · rfl

@[simp] theorem State.morphSteps_surroundings : s.morphSteps.surroundings = s.surroundings :=
  foldl_keeps _ _ (fun t k => t.morphStep_surroundings k) _ _

@[simp] theorem State.endPreparation_surroundings : (s.endPreparation n).surroundings = s.surroundings := by
  unfold State.endPreparation; simp

@[simp] theorem State.startCrossfade_surroundings : (s.startCrossfade n l).surroundings = s.surroundings := by
  unfold State.startCrossfade State.addCrossfade; split_ifs <;> simp

@[simp] theorem State.takeLiveReport_surroundings (ln : Line) : (s.takeLiveReport n l ln).surroundings = s.surroundings := by
  unfold State.takeLiveReport; split_ifs <;> simp

@[simp] theorem State.crossfadeEnded_surroundings : (s.crossfadeEnded n l).surroundings = s.surroundings := by
  unfold State.crossfadeEnded; split
  · split <;> simp
  · rfl

@[simp] theorem State.propagateTo_surroundings (tempo : Nat) : (s.propagateTo tempo n).surroundings = s.surroundings := by
  unfold State.propagateTo; split_ifs
  · split <;> simp
  · rfl

@[simp] theorem State.settleGrowth_surroundings : (s.settleGrowth n l).surroundings = s.surroundings := by
  unfold State.settleGrowth; split <;> simp

@[simp] theorem State.rezeroCurrent_surroundings : (s.rezeroCurrent n l).surroundings = s.surroundings := by
  unfold State.rezeroCurrent; split <;> simp

@[simp] theorem State.settleDeferred_surroundings : (s.settleDeferred n l).surroundings = s.surroundings := by
  unfold State.settleDeferred; split
  · split
    · dsimp only; split_ifs <;> simp
    · rfl
  · rfl

@[simp] theorem State.rezeroLine_surroundings : (State.rezeroLine n s l).surroundings = s.surroundings := by
  unfold State.rezeroLine; split_ifs <;> simp

@[simp] theorem State.rezeroSlot_surroundings : (s.rezeroSlot n).surroundings = s.surroundings := by
  unfold State.rezeroSlot; split_ifs
  · rfl
  · rw [foldl_keeps State.surroundings (State.rezeroLine n) (fun t k => State.rezeroLine_surroundings t n k)]; simp

@[simp] theorem State.removeMorphs_surroundings : s.removeMorphs.surroundings = s.surroundings :=
  foldl_keeps _ _ (fun t k => t.removeMorph_surroundings k) _ _

/-! ### What the Tempo Unit's operations leave alone -/

@[simp] theorem State.setTempo_outsideTempo (u : TempoUnit) : (s.setTempo u).outsideTempo = s.outsideTempo := rfl
@[simp] theorem State.raiseBoth_outsideTempo (f : Flag) : (s.raiseBoth f).outsideTempo = s.outsideTempo := rfl
@[simp] theorem State.handResync_outsideTempo : s.handResync.outsideTempo = s.outsideTempo := rfl
@[simp] theorem State.setLink_outsideTempo (k : LinkReceiver) : (s.setLink k).outsideTempo = s.outsideTempo := rfl

@[simp] theorem State.propagate_outsideTempo : s.propagate.outsideTempo = s.outsideTempo := by
  unfold State.propagate; split_ifs <;> simp

@[simp] theorem State.applyTempo_outsideTempo (v : Option Nat) : (s.applyTempo v).outsideTempo = s.outsideTempo := by
  unfold State.applyTempo; split
  · rfl
  · split_ifs <;> simp

@[simp] theorem State.chooseSource_outsideTempo : s.chooseSource.outsideTempo = s.outsideTempo := by
  unfold State.chooseSource; split_ifs <;> simp

@[simp] theorem State.reevaluate_outsideTempo : s.reevaluate.outsideTempo = s.outsideTempo := by
  unfold State.reevaluate; simp

@[simp] theorem State.writeControl_outsideTempo (v : Nat) : (s.writeControl v).outsideTempo = s.outsideTempo := by
  unfold State.writeControl; simp

@[simp] theorem State.enterTap_outsideTempo (t : Nat) : (s.enterTap t).outsideTempo = s.outsideTempo := by
  unfold State.enterTap; dsimp only
  split
  · split_ifs <;> simp
  · split_ifs <;> simp

@[simp] theorem State.linkLost_outsideTempo : s.linkLost.outsideTempo = s.outsideTempo := by unfold State.linkLost; simp

@[simp] theorem State.linkBad_outsideTempo : s.linkBad.outsideTempo = s.outsideTempo := by
  unfold State.linkBad; dsimp only
  split
  · split_ifs <;> simp
  all_goals simp

@[simp] theorem State.linkLocked_outsideTempo (a b c : Nat) : (s.linkLocked a b c).outsideTempo = s.outsideTempo := by
  unfold State.linkLocked; dsimp only; split_ifs <;> simp

@[simp] theorem State.linkTempo_outsideTempo (a b c : Nat) : (s.linkTempo a b c).outsideTempo = s.outsideTempo := by
  unfold State.linkTempo
  split
  · simp
  · split
    · split_ifs <;> simp
    · simp
  · simp
  · simp

@[simp] theorem State.linkStop_outsideTempo : s.linkStop.outsideTempo = s.outsideTempo := by
  unfold State.linkStop; dsimp only; split_ifs <;> simp

@[simp] theorem State.linkFrame_outsideTempo (fr : List Byte) (t : Nat) : (s.linkFrame fr t).outsideTempo = s.outsideTempo := by
  unfold State.linkFrame
  split
  · split_ifs <;> simp
  · split_ifs <;> simp
  · simp

@[simp] theorem State.linkHunt_outsideTempo (b : LinkByte) : (s.linkHunt b).outsideTempo = s.outsideTempo := by
  unfold State.linkHunt; split_ifs <;> simp

@[simp] theorem State.linkAssemble_outsideTempo (b : LinkByte) (t : Nat) : (s.linkAssemble b t).outsideTempo = s.outsideTempo := by
  unfold State.linkAssemble; dsimp only; split_ifs <;> simp

@[simp] theorem State.linkByte_outsideTempo (b : LinkByte) (t : Nat) : (s.linkByte b t).outsideTempo = s.outsideTempo := by
  unfold State.linkByte; split_ifs <;> simp

@[simp] theorem State.linkBytes_outsideTempo (bs : List LinkByte) (t : Nat) : (s.linkBytes bs t).outsideTempo = s.outsideTempo := by
  unfold State.linkBytes; split_ifs
  · rfl
  · exact foldl_keeps State.outsideTempo (fun t' b => t'.linkByte b t) (fun t' b => t'.linkByte_outsideTempo b t) _ _

/-! ### Holds -/

@[simp] theorem State.setHold_outsideHolds (v : Hold) : (s.setHold n v).outsideHolds = s.outsideHolds := rfl
@[simp] theorem State.raise_outsideHolds (p : Port) (f : Flag) : (s.raise p f).outsideHolds = s.outsideHolds := by cases p <;> rfl
@[simp] theorem State.releaseHoldOf_outsideHolds : (s.releaseHoldOf n).outsideHolds = s.outsideHolds := rfl

@[simp] theorem State.renew_outsideHolds (p : Port) : (s.renew p n).outsideHolds = s.outsideHolds := by
  unfold State.renew; split_ifs <;> simp

@[simp] theorem State.expireHold_outsideHolds : (s.expireHold n).outsideHolds = s.outsideHolds := by
  unfold State.expireHold; split <;> simp

@[simp] theorem State.tickHold_outsideHolds : (s.tickHold n).outsideHolds = s.outsideHolds := by
  unfold State.tickHold; split_ifs <;> simp

@[simp] theorem State.releaseHolds_outsideHolds (p : Port) (ls : List SlotId) :
    (s.releaseHolds p ls).outsideHolds = s.outsideHolds :=
  foldl_keeps _ _ (fun t k => by split_ifs <;> simp) _ _

@[simp] theorem State.takeHolds_outsideHolds (p : Port) (ls : List SlotId) : (s.takeHolds p ls).outsideHolds = s.outsideHolds :=
  foldl_keeps _ _ (fun t k => by simp) _ _

@[simp] theorem State.renewAll_outsideHolds (p : Port) (ls : List SlotId) : (s.renewAll p ls).outsideHolds = s.outsideHolds :=
  foldl_keeps _ _ (fun t k => by simp) _ _

/-! ### Scenes -/

@[simp] theorem State.setScene_outsideScenes (k : SceneId) (v : Scene) : (s.setScene k v).outsideScenes = s.outsideScenes := rfl
@[simp] theorem State.raiseBoth_outsideScenes (f : Flag) : (s.raiseBoth f).outsideScenes = s.outsideScenes := rfl

@[simp] theorem State.verifyScene_outsideScenes (k : SceneId) : (s.verifyScene k).outsideScenes = s.outsideScenes := by
  unfold State.verifyScene; split_ifs <;> simp

@[simp] theorem State.sweepRecords_outsideScenes : s.sweepRecords.outsideScenes = s.outsideScenes :=
  foldl_keeps _ _ (fun t k => by split_ifs <;> simp) _ _

@[simp] theorem State.storeSweep_outsideScenes : s.storeSweep.outsideScenes = s.outsideScenes := by
  unfold State.storeSweep; split_ifs <;> simp

/-! ### Commands taken -/

/-- What taking a command leaves alone: everything but the ports' command queues and the last-served port. -/
theorem State.takeCommand_spec {s t : State} {p : Port} {c : Command} (h : s.takeCommand p c = some t) :
    s.power ≠ .starting ∧ t.lastServed = p
      ∧ (t = s.serve p ∧ s.arbiterChoice = some (p, c)
        ∨ t = { s with lastServed := p } ∧ s.arbiterPort = none ∧ s.wouldQueue p c = true) := by
  unfold State.takeCommand at h
  split_ifs at h with h1 h2 h3
  · cases h; refine ⟨h1, ?_, Or.inl ⟨rfl, h2⟩⟩; cases p <;> rfl
  · cases h; exact ⟨h1, rfl, Or.inr ⟨rfl, h3.1, h3.2⟩⟩

/-- A command's row answers a next state: the state it was given, or the decision's state with its result placed. -/
theorem runCommand_spec {p : Port} {c : Command} {d : State → Verdict} {s t : State} (h : runCommand p c d s = .next t) :
    (s.takeCommand p c = none ∧ t = s)
      ∨ ∃ u, s.takeCommand p c = some u ∧ t = (d u).state.placeResult p ((d u).result c) := by
  unfold runCommand at h
  split at h
  · left; cases h; exact ⟨by assumption, rfl⟩
  · right; cases h; exact ⟨_, by assumption, rfl⟩

/-- A command that the arbiter takes. -/
theorem runCommand_taken {p : Port} {c : Command} {d : State → Verdict} {s u : State} (h : s.takeCommand p c = some u) :
    runCommand p c d s = .next ((d u).state.placeResult p ((d u).result c)) := by
  unfold runCommand; rw [h]

end Sys2Proof.Machine
end

