-- ==== Sys2Proof/Laws/Commands.lean ====
section
/-! SUPPORT. What the provers cite for the commands: a decision taken, the reading of an updated table, lengths of the records, holds
released, taken and ticked, scene entries placed. -/

namespace Sys2Proof

/-! ### Updated tables -/

theorem table_get_set {α : Type} {k : Nat} (v : Vector α k) (n m : Fin k) (x : α) : (v.set n x)[m] = if n = m then x else v[m] := by
  simp only [Fin.getElem_fin, Vector.getElem_set, Fin.val_inj]

theorem table_get_set_self {α : Type} {k : Nat} (v : Vector α k) (n : Fin k) (x : α) : (v.set n x)[n] = x := by
  simp [Fin.getElem_fin]

theorem table_set_self {α : Type} {k : Nat} (v : Vector α k) (n : Fin k) : v.set n v[n] = v := by
  simp [Fin.getElem_fin]

theorem table_ext {α : Type} {k : Nat} {v w : Vector α k} (h : ∀ n : Fin k, v[n] = w[n]) : v = w := by
  apply Vector.ext
  intro i hi
  exact h ⟨i, hi⟩

namespace Machine

/-! ### A decision taken -/

/-- What a controller command's row answers, from what its decision leaves. -/
theorem taken_as {p : Port} {c : Command} {d : State → Verdict} {s t u : State} {st : Status} {b : List Byte}
    (h : s.takeCommand p c = some t) (hd : d t = ⟨u, st, b⟩) :
    runCommand p c d s = .next (u.placeResult p ⟨c.tag, c.code, st, b⟩) := by
  rw [runCommand_taken h, hd]; rfl

/-- The same for a command at the port's own address. -/
theorem taken_ownCommand {p : Port} {tag code : Byte} {body : List Byte} {d : State → Verdict} {s t u : State} {st : Status}
    {b : List Byte} (h : s.takeCommand p (ownCommand tag code body) = some t) (hd : d t = ⟨u, st, b⟩) :
    runCommand p (ownCommand tag code body) d s = .next (u.placeResult p ⟨tag, code, st, b⟩) := taken_as h hd

theorem State.heldByOther_of_ne {s : State} {p : Port} {n : SlotId} (h : s.holds[n].holder ≠ some p.other) :
    s.heldByOther p n = false := by
  unfold State.heldByOther; simpa using h

theorem State.heldByOther_of_eq {s : State} {p : Port} {n : SlotId} (h : s.holds[n].holder = some p.other) :
    s.heldByOther p n = true := by
  unfold State.heldByOther; simpa using h

/-! ### Lengths of records -/

theorem bankBytes_length (b : Bank) : (bankBytes b).length = 24 := by
  unfold bankBytes
  have : ∀ l : List Int, (l.flatMap paramBytes).length = 2 * l.length := by
    intro l
    induction l with
    | nil => rfl
    | cons a l ih => simp [paramBytes, maskBytes, ih]; omega
  rw [this]; simp

theorem SceneEntry.bytes_length (e : SceneEntry) : e.bytes.length = 29 := by
  simp [SceneEntry.bytes, byte1, bankBytes_length]

theorem pairsOf_length (r : List Byte) : ∀ prs, pairsOf r = some prs → r.length = 3 * prs.length := by
  induction r using pairsOf.induct with
  | case1 => intro prs h; simp [pairsOf] at h; subst h; rfl
  | case2 ix hi lo rest ih =>
    intro prs h; simp [pairsOf] at h; obtain ⟨x, hx, rfl⟩ := h; have := ih _ hx; simp; omega
  | case3 l h1 h2 =>
    intro prs h
    exfalso
    match l, h1, h2, h with
    | [], h1, _, _ => exact h1 rfl
    | [a], _, _, h => simp [pairsOf] at h
    | [a, b], _, _, h => simp [pairsOf] at h
    | a :: b :: c :: r, _, h2, _ => exact h2 a b c r rfl

/-! ### Holds -/

/-- Holds released: those of the port among the slots listed, and nothing else. -/
theorem State.releaseHolds_spec (p : Port) (l : List SlotId) : ∀ (u : State),
    (∀ n : SlotId, (u.releaseHolds p l).holds[n] = if n ∈ l ∧ u.holds[n].holder = some p then Hold.none else u.holds[n])
      ∧ u.releaseHolds p l = { u with holds := (u.releaseHolds p l).holds } := by
  induction l with
  | nil => intro u; exact ⟨fun n => by simp [State.releaseHolds], rfl⟩
  | cons a l ih =>
    intro u
    have hstep : u.releaseHolds p (a :: l) = (if u.holds[a].holder = some p then u.releaseHoldOf a else u).releaseHolds p l := rfl
    rw [hstep]
    by_cases hp : u.holds[a].holder = some p
    · rw [if_pos hp]
      obtain ⟨h1, h2⟩ := ih (u.releaseHoldOf a)
      refine ⟨fun n => ?_, by rw [h2]; rfl⟩
      rw [h1]
      simp only [State.releaseHoldOf, State.setHold, table_get_set, List.mem_cons]
      by_cases han : a = n
      · subst han; simp only [if_true, true_or, true_and, hp]; exact ite_self _
      · rw [if_neg han]
        simp only [show (n = a) = False from eq_false fun h => han h.symm, false_or]
    · rw [if_neg hp]
      obtain ⟨h1, h2⟩ := ih u
      refine ⟨fun n => ?_, h2⟩
      rw [h1]
      simp only [List.mem_cons]
      by_cases han : n = a
      · subst han; simp only [hp, and_false, if_false]
      · simp only [han, false_or]

/-- Holds taken: the slots listed, at the port's lease length, and nothing else. -/
theorem State.takeHolds_spec (p : Port) (l : List SlotId) : ∀ (u : State),
    (∀ n : SlotId, (u.takeHolds p l).holds[n] = if n ∈ l then { holder := some p, count := (u.port p).lease } else u.holds[n])
      ∧ u.takeHolds p l = { u with holds := (u.takeHolds p l).holds } := by
  induction l with
  | nil => intro u; exact ⟨fun n => by simp [State.takeHolds], rfl⟩
  | cons a l ih =>
    intro u
    have hstep : u.takeHolds p (a :: l) = (u.setHold a { holder := some p, count := (u.port p).lease }).takeHolds p l := rfl
    have hport : ((u.setHold a { holder := some p, count := (u.port p).lease }).port p).lease = (u.port p).lease := by
      cases p <;> rfl
    rw [hstep]
    obtain ⟨h1, h2⟩ := ih (u.setHold a { holder := some p, count := (u.port p).lease })
    refine ⟨fun n => ?_, by rw [h2]; rfl⟩
    rw [h1, hport]
    simp only [State.setHold, table_get_set, List.mem_cons]
    by_cases han : a = n
    · subst han; simp only [if_true, true_or]; exact ite_self _
    · simp only [han, if_false, show (n = a) = False from eq_false fun h => han h.symm, false_or]

/-! ### Scene entries -/

/-- A placed entry stands in slot order in place of the one of its slot. -/
theorem mem_placeEntry (e : SceneEntry) (l : List SceneEntry) (hl : l.Pairwise fun a b => a.slot < b.slot) :
    (∀ x, x ∈ placeEntry e l ↔ x = e ∨ x ∈ l ∧ x.slot ≠ e.slot) ∧ (placeEntry e l).Pairwise fun a b => a.slot < b.slot := by
  induction l with
  | nil => simp [placeEntry]
  | cons h r ih =>
    have ih := ih hl.of_cons
    have hh : ∀ x ∈ r, h.slot < x.slot := fun x hx => List.rel_of_pairwise_cons hl hx
    simp only [placeEntry]
    split_ifs with h1 h2
    · refine ⟨fun x => ?_, ?_⟩
      · simp only [List.mem_cons]
        constructor
        · rintro (rfl | rfl | hx)
          · left; rfl
          · right; exact ⟨Or.inl rfl, ne_of_gt h1⟩
          · right; exact ⟨Or.inr hx, ne_of_gt (lt_trans h1 (hh _ hx))⟩
        · rintro (rfl | ⟨hx, _⟩)
          · left; rfl
          · right; exact hx
      · refine List.Pairwise.cons (fun x hx => ?_) hl
        rcases List.mem_cons.mp hx with rfl | hx
        · exact h1
        · exact lt_trans h1 (hh _ hx)
    · refine ⟨fun x => ?_, ?_⟩
      · simp only [List.mem_cons]
        constructor
        · rintro (rfl | hx)
          · left; rfl
          · right; exact ⟨Or.inr hx, by rw [h2]; exact ne_of_gt (hh _ hx)⟩
        · rintro (rfl | ⟨rfl | hx, hne⟩)
          · left; rfl
          · exact absurd h2.symm hne
          · right; exact hx
      · refine List.Pairwise.cons (fun x hx => ?_) hl.of_cons
        rw [h2]; exact hh _ hx
    · refine ⟨fun x => ?_, ?_⟩
      · simp only [List.mem_cons]
        rw [ih.1]
        constructor
        · rintro (rfl | rfl | hx)
          · right; exact ⟨Or.inl rfl, fun h => h2 h.symm⟩
          · left; rfl
          · right; exact ⟨Or.inr hx.1, hx.2⟩
        · rintro (rfl | ⟨rfl | hx, hne⟩)
          · right; left; rfl
          · left; rfl
          · right; right; exact ⟨hx, hne⟩
      · refine List.Pairwise.cons (fun x hx => ?_) ih.2
        rcases (ih.1 x).mp hx with rfl | hx
        · exact lt_of_le_of_ne (not_lt.mp h1) (fun h => h2 h.symm)
        · exact hh _ hx.1

end Machine

end Sys2Proof
end

