-- ==== Sys2Proof/Laws/Lists.lean ====
section
/-! SUPPORT. The lists of all slots, lines, parameters, entries, scenes and LFOs hold every number once, in increasing order. -/

namespace Sys2Proof

theorem mem_allSlots (n : SlotId) : n ∈ allSlots := by unfold allSlots; revert n; decide
theorem mem_allLines (l : LineId) : l ∈ allLines := by unfold allLines; revert l; decide
theorem mem_allParams (ix : ParamIx) : ix ∈ allParams := by unfold allParams; revert ix; decide
theorem allSlots_nodup : allSlots.Nodup := by unfold allSlots; decide
theorem allLines_nodup : allLines.Nodup := by unfold allLines; decide
theorem allParams_nodup : allParams.Nodup := by unfold allParams; decide
theorem allSlots_sorted : allSlots.Pairwise (· < ·) := by unfold allSlots; decide

namespace Machine

theorem mem_allEntries (e : EntryId) : e ∈ allEntries := by unfold allEntries; exact List.mem_finRange e
theorem allEntries_nodup : allEntries.Nodup := by unfold allEntries; exact List.nodup_finRange 64
theorem mem_allScenes (k : SceneId) : k ∈ allScenes := by unfold allScenes; exact List.mem_finRange k
theorem mem_allLfos (k : LfoId) : k ∈ allLfos := by unfold allLfos; revert k; decide

end Machine

end Sys2Proof
end

