-- ==== Sys2Proof/Laws/Pool.lean ====
section
/-! SUPPORT. The pool: the page contents keep their canonical form, and whatever the pool's own operations keep, every command keeps. -/

namespace Sys2Proof.Machine

/-! ### The canonical form of the page contents -/

/-- The canonical form says that the pages are strictly rising. -/
theorem Memory.wf_iff (m : Memory) : m.wf = true ↔ m.Pairwise fun a b => a.1 < b.1 := by
  have chain : ∀ m : Memory, m.wf = true ↔ m.IsChain fun a b => a.1 < b.1 := by
    intro m
    induction m with
    | nil => simp [Memory.wf]
    | cons a t ih =>
      cases t with
      | nil => simp [Memory.wf]
      | cons b r => simp [Memory.wf, ih]
  rw [chain]
  have : IsTrans (Nat × Nat) (fun a b => a.1 < b.1) := ⟨fun _ _ _ h k => Nat.lt_trans h k⟩
  exact List.isChain_iff_pairwise

theorem Memory.wf_nil : Memory.wf [] = true := rfl

theorem Memory.wf_zeroPages {m : Memory} (h : m.wf = true) (first count : Nat) : (m.zeroPages first count).wf = true := by
  rw [Memory.wf_iff] at *
  exact h.filter _

theorem Memory.wf_writePages {m : Memory} (h : m.wf = true) (first count stamp : Nat) :
    (m.writePages first count stamp).wf = true := by
  rw [Memory.wf_iff] at *
  unfold Memory.writePages
  rw [List.pairwise_append, List.pairwise_append]
  refine ⟨⟨h.filter _, ?_, ?_⟩, h.filter _, ?_⟩
  · rw [List.pairwise_map]
    exact List.pairwise_lt_range'
  · intro a ha b hb
    simp only [List.mem_filter, decide_eq_true_eq] at ha
    simp only [List.mem_map, List.mem_range'_1] at hb
    obtain ⟨x, hx, rfl⟩ := hb
    omega
  · intro a ha b hb
    simp only [List.mem_filter, decide_eq_true_eq] at hb
    rw [List.mem_append] at ha
    rcases ha with ha | ha
    · simp only [List.mem_filter, decide_eq_true_eq] at ha; omega
    · simp only [List.mem_map, List.mem_range'_1] at ha
      obtain ⟨x, hx, rfl⟩ := ha
      dsimp only; omega

/-! ### What the pool's operations keep, every command keeps -/

/-- A property that each operation of the Delay Memory Manager and the Clear Engine keeps. -/
structure PoolClosed (P : Pool → Prop) : Prop where
  place : ∀ {p q : Pool} {size : Nat} {n : SlotId} {l : LineId} {e : EntryId}, P p → p.place size n l = .ok (q, e) → P q
  extend : ∀ {p q : Pool} {e : EntryId} {target : Nat}, P p → p.extend e target = some q → P q
  addJob : ∀ {p : Pool} (k : JobKind) (e : EntryId), P p → P (p.addJob k e)
  giveBack : ∀ {p : Pool} (e : EntryId), P p → P (p.giveBack e)
  retire : ∀ {p : Pool} (e : EntryId), P p → P (p.retire e)
  rezero : ∀ {p : Pool} (e : EntryId), P p → P (p.rezero e)
  startJob : ∀ {p : Pool}, P p → P p.startJob
  pageTick : ∀ {p : Pool}, P p → P p.pageTick
  regionJobDone : ∀ {p : Pool}, P p → P p.regionJobDone
  extensionDone : ∀ {p q : Pool} {o : Option (SlotId × LineId)}, P p → p.extensionDone = some (q, o) → P q
  cancelledPageEnd : ∀ {p : Pool}, P p → P p.cancelledPageEnd
  writeRegion : ∀ {p : Pool} (e : EntryId) (stamp : Nat), P p → P (p.writeRegion e stamp)
  takeReports : ∀ {p : Pool} (r : List EntryId), P p → P { p with liveReports := r }
  sweepPage : ∀ {p : Pool} (page : Nat), P p → P { p with written := p.written.zeroPages page 1 }
  sweep : ∀ {p : Pool}, P p → P { p with written := [] }
  reset : ∀ {p : Pool}, P p → P (Pool.reset p.written)

variable {P : Pool → Prop}

/-- The pool is one of the surroundings of the Tempo Unit. -/
theorem pool_of_outsideTempo {s t : State} (h : t.outsideTempo = s.outsideTempo) : t.pool = s.pool :=
  (congrArg State.pool h : t.outsideTempo.pool = s.outsideTempo.pool)
theorem pool_of_outsideHolds {s t : State} (h : t.outsideHolds = s.outsideHolds) : t.pool = s.pool :=
  (congrArg State.pool h : t.outsideHolds.pool = s.outsideHolds.pool)
theorem pool_of_outsideScenes {s t : State} (h : t.outsideScenes = s.outsideScenes) : t.pool = s.pool :=
  (congrArg State.pool h : t.outsideScenes.pool = s.outsideScenes.pool)

section slots
variable (s : State) (n : SlotId) (l : LineId)

@[simp] theorem State.recallDone_pool : s.recallDone.pool = s.pool := rfl
@[simp] theorem State.leaveWaiting_pool : (s.leaveWaiting n).pool = s.pool := by
  unfold State.leaveWaiting; dsimp only; split_ifs <;> rfl
@[simp] theorem State.recallFailed_pool : (s.recallFailed n).pool = s.pool := by
  unfold State.recallFailed; split_ifs <;> simp
@[simp] theorem State.removeMorph_pool : (s.removeMorph n).pool = s.pool := by unfold State.removeMorph; split <;> simp
@[simp] theorem State.endMorphing_pool (ixs : List ParamIx) : (s.endMorphing n ixs).pool = s.pool := by
  unfold State.endMorphing; dsimp only; split
  · rfl
  · split_ifs <;> simp
@[simp] theorem State.removeEntry_pool : (s.removeEntry n).pool = s.pool := by unfold State.removeEntry; split <;> simp
@[simp] theorem State.endVoice_pool : (s.endVoice n).pool = s.pool := rfl
@[simp] theorem State.followInput_pool : (s.followInput n).pool = s.pool := rfl
@[simp] theorem State.requestFade_pool (g : Rat) (k : Nat) : (s.requestFade n g k).pool = s.pool := by
  unfold State.requestFade; split_ifs <;> rfl
@[simp] theorem State.updateClamped_pool : (s.updateClamped n).pool = s.pool := rfl
@[simp] theorem State.writeShadow_pool (b : Bank) : (s.writeShadow n b).pool = s.pool := rfl
@[simp] theorem State.prepare_pool (a : Alg) (b : Bank) (es : List EntryId) : (s.prepare n a b es).pool = s.pool := rfl
@[simp] theorem State.takeRouting_pool (e : SceneEntry) : (s.takeRouting n e).pool = s.pool := rfl
@[simp] theorem State.beginFading_pool (next : Option Alg) : (s.beginFading n next).pool = s.pool := by
  unfold State.beginFading; simp
@[simp] theorem State.takePending_pool : (s.takePending n).pool = s.pool := by unfold State.takePending; split <;> simp
@[simp] theorem State.soundMute_pool (g : Rat) : (s.soundMute n g).pool = s.pool := by
  unfold State.soundMute; split_ifs <;> simp
@[simp] theorem State.muteSlot_pool : (s.muteSlot n).pool = s.pool := by unfold State.muteSlot; split <;> simp
@[simp] theorem State.unmuteSlot_pool : (s.unmuteSlot n).pool = s.pool := by unfold State.unmuteSlot; split <;> simp
@[simp] theorem State.routeSlot_pool (a : SendSet) (b : PairId) : (s.routeSlot n a b).pool = s.pool := rfl
@[simp] theorem State.joinWaiting_pool : (s.joinWaiting n).pool = s.pool := rfl
@[simp] theorem State.abortRecall_pool : s.abortRecall.pool = s.pool := by unfold State.abortRecall; split_ifs <;> rfl
@[simp] theorem State.openRecall_pool (k : SceneId) (o : Origin) : (s.openRecall k o).pool = s.pool := rfl
@[simp] theorem State.endPreparation_pool : (s.endPreparation n).pool = s.pool := by unfold State.endPreparation; simp
@[simp] theorem State.startCrossfade_pool : (s.startCrossfade n l).pool = s.pool := by
  unfold State.startCrossfade State.addCrossfade; split_ifs <;> simp
@[simp] theorem State.takeLiveReport_pool (ln : Line) : (s.takeLiveReport n l ln).pool = s.pool := by
  unfold State.takeLiveReport; split_ifs <;> simp
@[simp] theorem State.recallRouting_pool (e : SceneEntry) : (s.recallRouting n e).pool = s.pool := by
  unfold State.recallRouting; dsimp only; split_ifs <;> simp
@[simp] theorem State.removeMorphs_pool : s.removeMorphs.pool = s.pool :=
  foldl_keeps _ _ (fun t k => t.removeMorph_pool k) _ _

theorem Pool.placeAll_keeps (hP : PoolClosed P) (ls : List (LineId × Nat)) :
    ∀ {p q : Pool} {es : List EntryId}, P p → Pool.placeAll n ls p = .ok (q, es) → P q := by
  induction ls with
  | nil => intro p q es h hq; cases hq; exact h
  | cons a ls ih =>
    intro p q es h hq
    obtain ⟨k, size⟩ := a
    unfold Pool.placeAll at hq
    split at hq
    · cases hq
    · split at hq
      · cases hq
      · cases hq; exact ih (hP.place h (by assumption)) (by assumption)

theorem Pool.allocate_keeps (hP : PoolClosed P) {p q : Pool} {sizes : List Nat} {es : List EntryId} (h : P p)
    (hq : p.allocate n sizes = .ok (q, es)) : P q := by
  unfold Pool.allocate at hq
  split at hq
  · cases hq
  · cases hq
    exact foldl_holds P _ (fun r e hr => hP.addJob _ _ hr) _ _ (Pool.placeAll_keeps n hP _ h (by assumption))

theorem State.giveBackLines_keeps (hP : PoolClosed P) (ls : List Line) (h : P s.pool) : P (s.giveBackLines ls).pool :=
  foldl_holds P _ (fun _ e hr => hP.giveBack e hr) _ _ h

theorem State.emptySlot_keeps (hP : PoolClosed P) (h : P s.pool) : P (s.emptySlot n).pool := by
  unfold State.emptySlot; simpa using s.giveBackLines_keeps hP _ h

theorem State.startGrowth_keeps (hP : PoolClosed P) (k : Nat) (h : P s.pool) : P (s.startGrowth n l k).pool := by
  unfold State.startGrowth
  split
  · split
    · simpa using hP.extend h (by assumption)
    · split
      · simpa using hP.addJob _ _ (hP.retire _ (hP.place h (by assumption)))
      · simpa using h
  · exact h

theorem State.replaceRegion_keeps (hP : PoolClosed P) (k : Nat) (h : P s.pool) : P (s.replaceRegion n l k).pool := by
  unfold State.replaceRegion
  split
  · split
    · simpa using hP.addJob _ _ (hP.place (hP.giveBack _ h) (by assumption))
    · exact State.emptySlot_keeps _ _ hP (by simpa using hP.giveBack _ h)
  · exact h

theorem State.needAbove_keeps (hP : PoolClosed P) (ln : Line) (k : Nat) (h : P s.pool) : P (s.needAbove n l ln k).pool := by
  unfold State.needAbove
  split_ifs
  · exact s.replaceRegion_keeps n l hP k h
  · exact s.startGrowth_keeps n l hP k h
  · simpa using h
  · exact h

theorem State.evalNeed_keeps (hP : PoolClosed P) (h : P s.pool) : P (s.evalNeed n l).pool := by
  unfold State.evalNeed
  split_ifs
  · split
    · split_ifs
      · simpa using s.needAbove_keeps n l hP _ _ h
      · simpa using h
    · exact h
  · exact h

theorem State.evalWritten_keeps (hP : PoolClosed P) (ixs : List ParamIx) (h : P s.pool) : P (s.evalWritten n ixs).pool := by
  unfold State.evalWritten
  split
  · exact foldl_holds (fun t : State => P t.pool) _ (fun t k ht => t.evalNeed_keeps n k hP ht) _ _ h
  · exact h

theorem State.growthEnd_keeps (hP : PoolClosed P) (h : P s.pool) : P (s.growthEnd n l).pool := by
  unfold State.growthEnd
  split
  · dsimp only
    split
    · split_ifs
      · simpa using State.startGrowth_keeps _ _ _ hP _ (by simpa using h)
      · simpa using h
    · simpa using h
  · exact h

theorem State.startClearing_keeps (hP : PoolClosed P) (h : P s.pool) : P s.startClearing.pool := hP.startJob h

theorem State.fadeEnded_keeps (hP : PoolClosed P) (h : P s.pool) : P (s.fadeEnded n).pool := by
  have h1 : P ((s.giveBackLines s.slots[n].lines).endVoice n).pool := by simpa using s.giveBackLines_keeps hP _ h
  unfold State.fadeEnded; dsimp only
  split
  · exact State.emptySlot_keeps _ _ hP h1
  · split
    · simpa using Pool.allocate_keeps n hP h1 (by assumption)
    · exact State.emptySlot_keeps _ _ hP (by simpa using h1)

theorem State.forceFadeEnds_keeps (hP : PoolClosed P) (h : P s.pool) : P s.forceFadeEnds.pool :=
  foldl_holds (fun t : State => P t.pool) _
    (fun t k ht => by
      split_ifs
      · exact t.fadeEnded_keeps k hP ht
      · exact ht) _ _ h

theorem State.writeParams_keeps (hP : PoolClosed P) (a : Alg) (prs : List (ParamIx × Int)) (h : P s.pool) :
    P (s.writeParams n a prs).pool := by
  unfold State.writeParams
  exact State.startClearing_keeps _ hP (State.evalWritten_keeps _ _ hP _ (by simpa using h))

theorem State.makeMorph_keeps (hP : PoolClosed P) (a : Alg) (b : Bank) (k : Nat) (h : P s.pool) :
    P (s.makeMorph n a b k).pool := by
  unfold State.makeMorph; exact State.evalWritten_keeps _ _ hP _ (by simpa using h)

theorem State.cutParams_keeps (hP : PoolClosed P) (b : Bank) (h : P s.pool) : P (s.cutParams n b).pool := by
  unfold State.cutParams; exact State.evalWritten_keeps _ _ hP _ (by simpa using h)

theorem State.recallByState_keeps (hP : PoolClosed P) (e : SceneEntry) (k : Nat) (h : P s.pool) :
    P (s.recallByState e k).1.pool := by
  have same : P (s.recallSame e.slot e k).1.pool := by
    unfold State.recallSame; dsimp only; split_ifs
    · simpa using State.makeMorph_keeps _ _ hP _ _ _ (by simpa using h)
    · exact State.cutParams_keeps _ _ hP _ (by simpa using h)
  have empty : P (s.recallEmpty e.slot e).1.pool := by
    unfold State.recallEmpty State.allocateEntry; split_ifs
    · split
      · simpa using Pool.allocate_keeps _ hP h (by assumption)
      · exact h
    · exact h
  have prep : P (s.recallPreparing e.slot e).1.pool := by
    have t := State.evalWritten_keeps ((s.takeRouting e.slot e).writeShadow e.slot (s.entryBank e)) e.slot hP allParams (by simpa using h)
    unfold State.recallPreparing; dsimp only; split_ifs <;> simpa using t
  have repl : P (s.recallReplace e.slot e).1.pool := by
    unfold State.recallReplace State.allocateEntry; split_ifs
    · split
      · simpa using State.giveBackLines_keeps _ hP _ (by simpa using Pool.allocate_keeps _ hP h (by assumption))
      · exact h
    · exact h
  have fade : ∀ a, P (s.recallFade e.slot e a).1.pool := by
    intro a; unfold State.recallFade; split_ifs <;> simpa using h
  have fading : ∀ a, P (s.recallFading e.slot e a).1.pool := by
    intro a; unfold State.recallFading; split_ifs <;> simpa using h
  unfold State.recallByState; dsimp only
  split <;> (try split_ifs) <;> first | assumption | exact fade _ | exact fading _

theorem State.morphStep_keeps (hP : PoolClosed P) (h : P s.pool) : P (s.morphStep n).pool := by
  unfold State.morphStep
  split
  · dsimp only
    split_ifs
    · simpa using State.evalWritten_keeps _ _ hP _ (by simpa using h)
    · exact State.evalWritten_keeps _ _ hP _ (by simpa using h)
  · exact h

theorem State.crossfadeEnded_keeps (hP : PoolClosed P) (h : P s.pool) : P (s.crossfadeEnded n l).pool := by
  unfold State.crossfadeEnded
  split
  · split
    · exact State.growthEnd_keeps _ _ _ hP (by simpa using hP.giveBack _ h)
    · exact h
  · exact h

theorem State.propagateTo_keeps (hP : PoolClosed P) (tempo : Nat) (h : P s.pool) : P (s.propagateTo tempo n).pool := by
  unfold State.propagateTo
  split_ifs
  · split
    · exact State.evalWritten_keeps _ _ hP _ (by simpa using h)
    · exact h
  · exact h

theorem State.rezeroSlot_keeps (hP : PoolClosed P) (h : P s.pool) : P (s.rezeroSlot n).pool := by
  have line : ∀ (t : State) (k : LineId), P t.pool → P (State.rezeroLine n t k).pool := by
    intro t k ht
    have h1 : P (t.settleGrowth n k).pool := by
      unfold State.settleGrowth; split
      · exact foldl_holds P Pool.giveBack (fun _ e hr => hP.giveBack e hr) _ _ ht
      · exact ht
    have h2 : P ((t.settleGrowth n k).rezeroCurrent n k).pool := by
      unfold State.rezeroCurrent; split
      · simpa using hP.rezero _ h1
      · exact h1
    have h3 : P (((t.settleGrowth n k).rezeroCurrent n k).settleDeferred n k).pool := by
      unfold State.settleDeferred; split
      · split
        · dsimp only; split_ifs
          · exact State.replaceRegion_keeps _ _ _ hP _ (by simpa using h2)
          · simpa using h2
        · exact h2
      · exact h2
    unfold State.rezeroLine; split_ifs
    · simpa using h3
    · exact ht
  unfold State.rezeroSlot; split_ifs
  · exact h
  · exact foldl_holds (fun t : State => P t.pool) _ line _ _ (by simpa using h)

end slots

/-- A decision that keeps the property makes its row keep it. -/
theorem runCommand_keeps {p : Port} {c : Command} {d : State → Verdict} {s t : State} (hd : ∀ u, P u.pool → P (d u).state.pool)
    (h : P s.pool) (he : runCommand p c d s = .next t) : P t.pool := by
  rcases runCommand_spec he with ⟨_, rfl⟩ | ⟨u, hu, rfl⟩
  · exact h
  · have hp : u.pool = s.pool := by
      rcases State.takeCommand_spec hu with ⟨_, _, ⟨rfl, _⟩ | ⟨rfl, _⟩⟩
      · cases p <;> rfl
      · rfl
    rw [State.placeResult_pool]; exact hd u (hp ▸ h)

@[simp] theorem State.renew_pool (s : State) (p : Port) (n : SlotId) : (s.renew p n).pool = s.pool :=
  pool_of_outsideHolds (s.renew_outsideHolds n p)

theorem Verdict.renewed_pool (v : Verdict) (p : Port) (n : SlotId) : (v.renewed p n).state.pool = v.state.pool := by
  unfold Verdict.renewed; split_ifs <;> simp

end Sys2Proof.Machine
end

