-- ==== Sys2Proof/Laws/Tempo.lean ====
section
/-! SUPPORT. What the Tempo Unit's shared operations leave in the Tempo Unit, said once: choosing the source, applying a tempo, re-evaluating,
the link's losses and locks; and that they keep the source in charge applied and propagated. -/

namespace Sys2Proof.Machine

variable (s : State)

@[simp] theorem State.setTempo_flagsOf (u : TempoUnit) : (s.setTempo u).flagsOf = s.flagsOf := rfl
@[simp] theorem State.setLink_tempo (k : LinkReceiver) : (s.setLink k).tempo = { s.tempo with link := k } := rfl
@[simp] theorem State.setLink_power (k : LinkReceiver) : (s.setLink k).power = s.power := rfl
@[simp] theorem State.placeResult_flagsOf (p : Port) (r : Result) : (s.placeResult p r).flagsOf = s.flagsOf := by cases p <;> rfl

/-- Two states alike outside the Tempo Unit are so after a result is placed. -/
theorem State.placeResult_outsideTempo {s t : State} (p : Port) (r : Result) (h : s.outsideTempo = t.outsideTempo) :
    (s.placeResult p r).outsideTempo = (t.placeResult p r).outsideTempo := by
  cases p
  · have := congrArg (fun x : State => { x with portA := { x.portA with results := x.portA.results ++ [r] } }) h
    exact this
  · have := congrArg (fun x : State => { x with portB := { x.portB with results := x.portB.results ++ [r] } }) h
    exact this

/-! ### The source in charge -/

theorem State.chooseSource_tempo : s.chooseSource.tempo = { s.tempo with source := s.tempo.choice } := by
  unfold State.chooseSource
  split_ifs with h
  · rw [h]
  · rfl

/-- The Tempo Unit after a tempo is applied: propagated when it moved by 5 or more from the last one propagated. -/
def TempoUnit.withApplied (u : TempoUnit) (v : Nat) : TempoUnit :=
  if v = u.applied ∨ tempoDistance v u.lastPropagated < 5 then { u with applied := v }
  else { u with applied := v, lastPropagated := v, toSlots := u.toSlots ++ [v], toModulation := u.toModulation ++ [.propagation v] }

theorem State.applyTempo_tempo (v : Nat) : (s.applyTempo (some v)).tempo = s.tempo.withApplied v := by
  unfold State.applyTempo State.propagate TempoUnit.withApplied
  by_cases h : v = s.tempo.applied
  · subst h; simp
  · by_cases h5 : tempoDistance v s.tempo.lastPropagated < 5
    · simp [h, h5, Nat.not_le.mpr h5]
    · simp [h, h5, Nat.not_lt.mp h5]

/-- The Tempo Unit after a re-evaluation. -/
def TempoUnit.reevaluated (u : TempoUnit) : TempoUnit :=
  match u.offer u.choice with
  | none => { u with source := u.choice }
  | some v => { u with source := u.choice }.withApplied v

theorem State.reevaluate_tempo : s.reevaluate.tempo = s.tempo.reevaluated := by
  unfold State.reevaluate TempoUnit.reevaluated
  simp only [State.chooseSource_tempo]
  have e : ({ s.tempo with source := s.tempo.choice } : TempoUnit).offer s.tempo.choice = s.tempo.offer s.tempo.choice := by
    cases s.tempo.choice <;> rfl
  rw [e]
  cases h : s.tempo.offer s.tempo.choice with
  | none => exact s.chooseSource_tempo
  | some v => rw [State.applyTempo_tempo, State.chooseSource_tempo]

/-- A re-evaluation writes source, applied tempo, last propagated tempo and what is handed over, and nothing else. -/
theorem TempoUnit.reevaluated_frame (u : TempoUnit) :
    { u.reevaluated with applied := u.applied, lastPropagated := u.lastPropagated, source := u.source, toSlots := u.toSlots,
                         toModulation := u.toModulation } = u := by
  unfold TempoUnit.reevaluated
  split
  · rfl
  · unfold TempoUnit.withApplied; split_ifs <;> rfl

/-- A re-evaluation leaves everything that decides the choice and the offers. -/
theorem TempoUnit.reevaluated_choice (u : TempoUnit) : u.reevaluated.choice = u.choice := by
  have h := congrArg TempoUnit.choice u.reevaluated_frame
  exact h

theorem TempoUnit.reevaluated_offer (u : TempoUnit) (c : Source) : u.reevaluated.offer c = u.offer c := by
  have h := congrArg (fun x => TempoUnit.offer x c) u.reevaluated_frame
  cases c <;> exact h

theorem TempoUnit.reevaluated_source (u : TempoUnit) : u.reevaluated.source = u.choice := by
  unfold TempoUnit.reevaluated
  split
  · rfl
  · unfold TempoUnit.withApplied; split_ifs <;> rfl

theorem TempoUnit.reevaluated_applied (u : TempoUnit) (v : Nat) (h : u.offer u.choice = some v) : u.reevaluated.applied = v := by
  unfold TempoUnit.reevaluated
  rw [h]
  show (TempoUnit.withApplied _ v).applied = v
  unfold TempoUnit.withApplied; split_ifs <;> rfl

/-- The applied tempo stays within 4 of the last propagated one. -/
theorem TempoUnit.reevaluated_distance (u : TempoUnit) (h : tempoDistance u.applied u.lastPropagated ≤ 4) :
    tempoDistance u.reevaluated.applied u.reevaluated.lastPropagated ≤ 4 := by
  unfold TempoUnit.reevaluated
  split
  · exact h
  · rename_i v _
    unfold TempoUnit.withApplied
    split_ifs with hc
    · rcases hc with rfl | hc
      · exact h
      · exact Nat.lt_succ_iff.mp hc
    · simp [tempoDistance]

/-- What the arbiter's rules ask of the Tempo Unit (R75, R91). -/
def TempoUnit.settled (u : TempoUnit) : Prop :=
  u.source = u.choice ∧ (∀ v, u.offer u.source = some v → u.applied = v) ∧ tempoDistance u.applied u.lastPropagated ≤ 4

theorem State.tempoOk_iff : s.tempoOk ↔ s.tempo.settled := Iff.rfl

/-- A re-evaluation settles the Tempo Unit, whatever was written before it. -/
theorem TempoUnit.reevaluated_settled (u : TempoUnit) (h : tempoDistance u.applied u.lastPropagated ≤ 4) : u.reevaluated.settled := by
  refine ⟨by rw [u.reevaluated_source, u.reevaluated_choice], fun v hv => ?_, u.reevaluated_distance h⟩
  rw [u.reevaluated_source, u.reevaluated_offer] at hv
  exact u.reevaluated_applied v hv

/-! ### Flags and power -/

theorem State.applyTempo_power (v : Option Nat) : (s.applyTempo v).power = s.power := by
  unfold State.applyTempo State.propagate; split
  · rfl
  · split_ifs <;> rfl

@[simp] theorem State.reevaluate_power : s.reevaluate.power = s.power := by
  unfold State.reevaluate; rw [State.applyTempo_power]; unfold State.chooseSource; split_ifs <;> rfl

/-! ### Raised flags stand -/

theorem State.flagged_raiseBoth (f : Flag) : (s.raiseBoth f).flagged f := by
  have h : ∀ w : BitVec 14, ((w ||| f.bit) &&& f.bit != 0) = true := by
    intro w
    have : (w ||| f.bit) &&& f.bit = f.bit := by
      ext i hi; simp; tauto
    rw [this]; cases f <;> decide
  exact ⟨h _, h _⟩

theorem PortState.hasFlag_raise {v : PortState} {f : Flag} (g : Flag) (h : v.hasFlag f = true) : (v.raise g).hasFlag f = true := by
  unfold PortState.hasFlag PortState.raise at *
  simp only [bne_iff_ne, ne_eq] at *
  intro h0
  apply h
  have e : (v.flags ||| g.bit) &&& f.bit = (v.flags &&& f.bit) ||| (g.bit &&& f.bit) := by
    ext i hi; simp [Bool.and_or_distrib_right]
  have : v.flags &&& f.bit = ((v.flags ||| g.bit) &&& f.bit) &&& (v.flags &&& f.bit) := by
    ext i hi; simp; tauto
  have h0' : (v.flags ||| g.bit) &&& f.bit = 0 := h0
  rw [this, h0']; simp

theorem State.flagged_raiseBoth_of {f : Flag} (g : Flag) (h : s.flagged f) : (s.raiseBoth g).flagged f :=
  ⟨PortState.hasFlag_raise g h.1, PortState.hasFlag_raise g h.2⟩

/-- Raising one flag leaves another as it is. -/
theorem PortState.hasFlag_raise_ne {v : PortState} {f g : Flag} (h : f ≠ g) : (v.raise g).hasFlag f = v.hasFlag f := by
  unfold PortState.hasFlag PortState.raise
  have e : (v.flags ||| g.bit) &&& f.bit = (v.flags &&& f.bit) ||| (g.bit &&& f.bit) := by
    ext i hi; simp [Bool.and_or_distrib_right]
  have hz : g.bit &&& f.bit = 0 := by cases f <;> cases g <;> first | exact absurd rfl h | decide
  show ((v.flags ||| g.bit) &&& f.bit != 0) = _
  rw [e, hz]; simp

theorem State.reevaluate_flagged {f : Flag} (h : s.flagged f) : s.reevaluate.flagged f := by
  unfold State.reevaluate
  have h1 : s.chooseSource.flagged f := by
    unfold State.chooseSource; split_ifs
    · exact h
    · exact State.flagged_raiseBoth_of _ _ h
  revert h1
  generalize s.chooseSource = t
  intro h1
  unfold State.applyTempo State.propagate
  dsimp only
  split
  · exact h1
  · split_ifs
    · exact h1
    · exact State.flagged_raiseBoth_of _ _ h1
    · exact h1

/-- A re-evaluation raises TEMPO_CHANGED and TEMPO_SOURCE only. -/
theorem State.reevaluate_hasFlag {f : Flag} (h1 : f ≠ .tempoChanged) (h2 : f ≠ .tempoSource) (q : Port) :
    (s.reevaluate.port q).hasFlag f = (s.port q).hasFlag f := by
  have hc : (s.chooseSource.port q).hasFlag f = (s.port q).hasFlag f := by
    unfold State.chooseSource; split_ifs
    · rfl
    · cases q <;> exact PortState.hasFlag_raise_ne h2
  unfold State.reevaluate
  rw [← hc]
  generalize s.chooseSource = t
  unfold State.applyTempo State.propagate
  dsimp only
  split
  · rfl
  · split_ifs
    · rfl
    · cases q <;> exact PortState.hasFlag_raise_ne h1
    · rfl

/-! ### The pulse timer (R78) -/

theorem TempoUnit.heldTimer_range (u : TempoUnit) (time : Nat) : 600 ≤ u.heldTimer time ∧ u.heldTimer time ≤ 2999 := by
  unfold TempoUnit.heldTimer; omega

/-- R78: within what HELD admits the timer is the time since the falling edge. -/
theorem TempoUnit.heldTimer_eq (u : TempoUnit) {time : Nat} (h1 : u.edgeTime + 600 ≤ time) (h2 : time < u.edgeTime + 3000) :
    u.heldTimer time = time - u.edgeTime := by
  unfold TempoUnit.heldTimer; omega

/-! ### LFO outputs (R95, R96) -/

theorem Lfo.shapeOutput_output (f : Lfo) (o : LfoOutput) : ({ f with output := o } : Lfo).shapeOutput = f.shapeOutput := rfl

/-- R95: the output an LFO's step leaves is that of its shape at the phase it leaves. -/
theorem ModulationUnit.stepLfo_output (m : ModulationUnit) (k : LfoId) :
    ((m.stepLfo k).lfos[k]).output = ((m.stepLfo k).lfos[k]).shapeOutput := by
  unfold ModulationUnit.stepLfo
  dsimp only
  split <;> simp only [Fin.getElem_fin, Vector.getElem_set_self] <;> rfl

end Sys2Proof.Machine
end

