-- ==== Sys2Proof/Laws/Slots.lean ====
section
/-! SUPPORT. What an operation on one slot leaves of every other slot (record, morph, pending entry, voice), and what the evaluation of needs
leaves of the slot itself: all but its lines and the clamped flag, or, of a PREPARING slot, the slot emptied by a failed replacement; what a
stopped Voice Engine keeps, and WAKE's restart of it. -/

namespace Sys2Proof.Machine

/-- What a state holds of one slot. -/
def State.slotView (s : State) (m : SlotId) : Slot × Option Morph × Option SceneEntry × Voice :=
  (s.slots[m], s.morphs[m], s.entries[m], s.voices[m])

/-- States that agree on the view of every other slot are the same but for slot `n`. -/
theorem State.sameSlotsBut_of_slotView {s t : State} {n : SlotId} (h : ∀ m : SlotId, n ≠ m → s.slotView m = t.slotView m) :
    s.sameSlotsBut t n := by
  intro m hm
  have e := h m (Ne.symm hm)
  exact ⟨congrArg (·.1) e, congrArg (·.2.1) e, congrArg (·.2.2.1) e, congrArg (·.2.2.2) e⟩

variable (s : State) {n m : SlotId} (l : LineId)

theorem State.setSlot_slotView (h : n ≠ m) (v : Slot) : (s.setSlot n v).slotView m = s.slotView m := by
  simp only [State.slotView, State.setSlot, table_get_set, if_neg h]

theorem State.setMorph_slotView (h : n ≠ m) (v : Option Morph) : (s.setMorph n v).slotView m = s.slotView m := by
  simp only [State.slotView, State.setMorph, table_get_set, if_neg h]

theorem State.setEntry_slotView (h : n ≠ m) (v : Option SceneEntry) : (s.setEntry n v).slotView m = s.slotView m := by
  simp only [State.slotView, State.setEntry, table_get_set, if_neg h]

theorem State.setVoice_slotView (h : n ≠ m) (v : Voice) : (s.setVoice n v).slotView m = s.slotView m := by
  simp only [State.slotView, State.setVoice, table_get_set, if_neg h]

theorem State.setLine_slotView (h : n ≠ m) (v : Line) : (s.setLine n l v).slotView m = s.slotView m := s.setSlot_slotView h _

@[simp] theorem State.setPool_slotView (p : Pool) : (s.setPool p).slotView m = s.slotView m := rfl
@[simp] theorem State.startClearing_slotView : s.startClearing.slotView m = s.slotView m := rfl
@[simp] theorem State.raiseBoth_slotView (f : Flag) : (s.raiseBoth f).slotView m = s.slotView m := rfl
@[simp] theorem State.giveBackLines_slotView (ls : List Line) : (s.giveBackLines ls).slotView m = s.slotView m := rfl
@[simp] theorem State.recallDone_slotView : s.recallDone.slotView m = s.slotView m := rfl
@[simp] theorem State.placeResult_slotView (p : Port) (r : Result) : (s.placeResult p r).slotView m = s.slotView m := by
  cases p <;> rfl

@[simp] theorem State.renew_slotView (p : Port) (k : SlotId) : (s.renew p k).slotView m = s.slotView m := by
  unfold State.renew; split_ifs <;> rfl

@[simp] theorem State.leaveWaiting_slotView (k : SlotId) : (s.leaveWaiting k).slotView m = s.slotView m := by
  unfold State.leaveWaiting; dsimp only; split_ifs <;> rfl

@[simp] theorem State.recallFailed_slotView (k : SlotId) : (s.recallFailed k).slotView m = s.slotView m := by
  unfold State.recallFailed; split_ifs
  · rw [State.leaveWaiting_slotView]; rfl
  · rfl

theorem State.removeMorph_slotView (h : n ≠ m) : (s.removeMorph n).slotView m = s.slotView m := by
  unfold State.removeMorph; split
  · rfl
  · rw [State.leaveWaiting_slotView, State.setMorph_slotView _ h]

theorem State.endMorphing_slotView (h : n ≠ m) (ixs : List ParamIx) : (s.endMorphing n ixs).slotView m = s.slotView m := by
  unfold State.endMorphing; dsimp only; split
  · rfl
  · split_ifs
    · exact s.removeMorph_slotView h
    · exact s.setMorph_slotView h _

theorem State.removeEntry_slotView (h : n ≠ m) : (s.removeEntry n).slotView m = s.slotView m := by
  unfold State.removeEntry; split
  · rfl
  · rw [State.leaveWaiting_slotView, State.setEntry_slotView _ h]

theorem State.endVoice_slotView (h : n ≠ m) : (s.endVoice n).slotView m = s.slotView m := s.setVoice_slotView h _

theorem State.followInput_slotView (h : n ≠ m) : (s.followInput n).slotView m = s.slotView m := s.setVoice_slotView h _

theorem State.requestFade_slotView (h : n ≠ m) (g : Rat) (k : Nat) : (s.requestFade n g k).slotView m = s.slotView m := by
  unfold State.requestFade; split_ifs
  · exact s.setVoice_slotView h _
  · rfl

theorem State.updateClamped_slotView (h : n ≠ m) : (s.updateClamped n).slotView m = s.slotView m := s.setSlot_slotView h _

theorem State.emptySlot_slotView (h : n ≠ m) : (s.emptySlot n).slotView m = s.slotView m := by
  unfold State.emptySlot
  rw [State.raiseBoth_slotView, State.leaveWaiting_slotView, State.setEntry_slotView _ h, State.setMorph_slotView _ h,
    State.setSlot_slotView _ h, State.endVoice_slotView _ h, State.giveBackLines_slotView]

theorem State.startGrowth_slotView (h : n ≠ m) (k : Nat) : (s.startGrowth n l k).slotView m = s.slotView m := by
  unfold State.startGrowth; split
  · split
    · rw [State.setLine_slotView _ _ h, State.setPool_slotView]
    · split <;> rw [State.setLine_slotView _ _ h]
      · rfl
      · rfl
  · rfl

theorem State.replaceRegion_slotView (h : n ≠ m) (k : Nat) : (s.replaceRegion n l k).slotView m = s.slotView m := by
  unfold State.replaceRegion; split
  · split
    · rw [State.setLine_slotView _ _ h, State.setPool_slotView]
    · rw [State.emptySlot_slotView _ h, State.recallFailed_slotView, State.raiseBoth_slotView, State.setPool_slotView]
  · rfl

theorem State.needAbove_slotView (h : n ≠ m) (ln : Line) (k : Nat) : (s.needAbove n l ln k).slotView m = s.slotView m := by
  unfold State.needAbove; split_ifs
  · exact s.replaceRegion_slotView l h k
  · exact s.startGrowth_slotView l h k
  · exact s.setLine_slotView l h _
  · rfl

theorem State.evalNeed_slotView (h : n ≠ m) : (s.evalNeed n l).slotView m = s.slotView m := by
  unfold State.evalNeed; split_ifs
  · split
    · split_ifs
      · rw [State.updateClamped_slotView _ h, State.needAbove_slotView _ _ h]
      · exact s.updateClamped_slotView h
    · rfl
  · rfl

theorem State.evalWritten_slotView (h : n ≠ m) (ixs : List ParamIx) : (s.evalWritten n ixs).slotView m = s.slotView m := by
  unfold State.evalWritten; split
  · exact foldl_keeps (fun t => State.slotView t m) _ (fun t k => t.evalNeed_slotView k h) _ _
  · rfl

theorem State.growthEnd_slotView (h : n ≠ m) : (s.growthEnd n l).slotView m = s.slotView m := by
  unfold State.growthEnd; split
  · dsimp only
    split
    · split_ifs
      · rw [State.updateClamped_slotView _ h, State.startGrowth_slotView _ _ h, State.setLine_slotView _ _ h]
      · rw [State.updateClamped_slotView _ h, State.setLine_slotView _ _ h]
    · rw [State.updateClamped_slotView _ h, State.setLine_slotView _ _ h]
  · rfl

theorem State.writeShadow_slotView (h : n ≠ m) (b : Bank) : (s.writeShadow n b).slotView m = s.slotView m := s.setSlot_slotView h _

theorem State.prepare_slotView (h : n ≠ m) (a : Alg) (b : Bank) (es : List EntryId) :
    (s.prepare n a b es).slotView m = s.slotView m := by
  unfold State.prepare; rw [State.setSlot_slotView _ h, State.endVoice_slotView _ h]

theorem State.takeRouting_slotView (h : n ≠ m) (e : SceneEntry) : (s.takeRouting n e).slotView m = s.slotView m :=
  s.setSlot_slotView h _

theorem State.beginFading_slotView (h : n ≠ m) (next : Option Alg) : (s.beginFading n next).slotView m = s.slotView m := by
  unfold State.beginFading
  rw [State.followInput_slotView _ h, State.requestFade_slotView _ h, State.removeMorph_slotView _ h, State.setSlot_slotView _ h]

theorem State.takePending_slotView (h : n ≠ m) : (s.takePending n).slotView m = s.slotView m := by
  unfold State.takePending; split
  · rw [State.setEntry_slotView _ h, State.takeRouting_slotView _ h]
  · rfl

theorem State.fadeEnded_slotView (h : n ≠ m) : (s.fadeEnded n).slotView m = s.slotView m := by
  have e : ((s.giveBackLines s.slots[n].lines).endVoice n).slotView m = s.slotView m := by
    rw [State.endVoice_slotView _ h, State.giveBackLines_slotView]
  unfold State.fadeEnded; dsimp only
  split
  · rw [State.emptySlot_slotView _ h, e]
  · split
    · rw [State.takePending_slotView _ h, State.prepare_slotView _ h, State.setPool_slotView, e]
    · rw [State.emptySlot_slotView _ h, State.recallFailed_slotView, State.raiseBoth_slotView, e]

theorem State.soundMute_slotView (h : n ≠ m) (g : Rat) : (s.soundMute n g).slotView m = s.slotView m := by
  unfold State.soundMute; split_ifs
  · rfl
  · rw [State.followInput_slotView _ h, State.requestFade_slotView _ h]

theorem State.muteSlot_slotView (h : n ≠ m) : (s.muteSlot n).slotView m = s.slotView m := by
  unfold State.muteSlot; split
  · rw [State.soundMute_slotView _ h, State.setSlot_slotView _ h]
  · exact s.setSlot_slotView h _
  · rfl

theorem State.unmuteSlot_slotView (h : n ≠ m) : (s.unmuteSlot n).slotView m = s.slotView m := by
  unfold State.unmuteSlot; split
  · rw [State.soundMute_slotView _ h, State.setSlot_slotView _ h]
  · exact s.setSlot_slotView h _
  · rfl

theorem State.writeParams_slotView (h : n ≠ m) (a : Alg) (prs : List (ParamIx × Int)) :
    (s.writeParams n a prs).slotView m = s.slotView m := by
  unfold State.writeParams
  rw [State.startClearing_slotView, State.evalWritten_slotView _ h, State.endMorphing_slotView _ h, State.writeShadow_slotView _ h]

theorem State.endPreparation_slotView (h : n ≠ m) : (s.endPreparation n).slotView m = s.slotView m := by
  unfold State.endPreparation; dsimp only
  rw [State.raiseBoth_slotView, State.leaveWaiting_slotView, State.updateClamped_slotView _ h, State.setVoice_slotView _ h,
    State.setSlot_slotView _ h]

theorem State.startCrossfade_slotView (h : n ≠ m) : (s.startCrossfade n l).slotView m = s.slotView m := by
  unfold State.startCrossfade State.addCrossfade
  rw [State.updateClamped_slotView _ h]
  split_ifs
  · rfl
  · exact s.setVoice_slotView h _

theorem State.crossfadeEnded_slotView (h : n ≠ m) : (s.crossfadeEnded n l).slotView m = s.slotView m := by
  unfold State.crossfadeEnded; split
  · split
    · rw [State.growthEnd_slotView _ _ h, State.setLine_slotView _ _ h, State.setPool_slotView]
    · rfl
  · rfl

theorem State.propagateTo_slotView (h : n ≠ m) (tempo : Nat) : (s.propagateTo tempo n).slotView m = s.slotView m := by
  unfold State.propagateTo; split_ifs
  · split
    · rw [State.evalWritten_slotView _ h, State.endMorphing_slotView _ h, State.writeShadow_slotView _ h]
    · rfl
  · rfl

theorem State.morphStep_slotView (h : n ≠ m) : (s.morphStep n).slotView m = s.slotView m := by
  unfold State.morphStep; split
  · dsimp only; split_ifs
    · rw [State.removeMorph_slotView _ h, State.evalWritten_slotView _ h, State.writeShadow_slotView _ h, State.setMorph_slotView _ h]
    · rw [State.evalWritten_slotView _ h, State.writeShadow_slotView _ h, State.setMorph_slotView _ h]
  · rfl

theorem State.rezeroLine_slotView (h : n ≠ m) : (State.rezeroLine n s l).slotView m = s.slotView m := by
  have e1 : (s.settleGrowth n l).slotView m = s.slotView m := by
    unfold State.settleGrowth; split
    · rw [State.setLine_slotView _ _ h, State.setPool_slotView]
    · rfl
  have e2 : ((s.settleGrowth n l).rezeroCurrent n l).slotView m = s.slotView m := by
    rw [← e1]; unfold State.rezeroCurrent; split <;> rfl
  have e3 : ∀ t : State, (t.settleDeferred n l).slotView m = t.slotView m := by
    intro t
    unfold State.settleDeferred; split
    · split
      · dsimp only; split_ifs
        · rw [State.replaceRegion_slotView _ _ h, State.setLine_slotView _ _ h]
        · exact t.setLine_slotView l h _
      · rfl
    · rfl
  unfold State.rezeroLine; split_ifs
  · rw [State.updateClamped_slotView _ h, e3, e2]
  · rfl

theorem State.rezeroSlot_slotView (h : n ≠ m) : (s.rezeroSlot n).slotView m = s.slotView m := by
  unfold State.rezeroSlot; split_ifs
  · rfl
  · rw [foldl_keeps (fun t => State.slotView t m) (State.rezeroLine n) (fun t k => State.rezeroLine_slotView t k h),
      State.setSlot_slotView _ h, State.endVoice_slotView _ h]

/-! ### The slot itself, when its needs are evaluated -/

/-- What the evaluation of needs leaves alone in a slot that is not PREPARING: all but its lines and the clamped flag. -/
def State.slotCore (s : State) (n : SlotId) : Slot × Option Morph × Option SceneEntry × Voice :=
  ({ s.slots[n] with lines := [], clamped := false }, s.morphs[n], s.entries[n], s.voices[n])

theorem State.setSlot_slotCore (v : Slot) :
    (s.setSlot n v).slotCore n = ({ v with lines := [], clamped := false }, s.morphs[n], s.entries[n], s.voices[n]) := by
  simp only [State.slotCore, State.setSlot, table_get_set_self]

@[simp] theorem State.setPool_slotCore (p : Pool) : (s.setPool p).slotCore n = s.slotCore n := rfl
@[simp] theorem State.raiseBoth_slotCore (f : Flag) : (s.raiseBoth f).slotCore n = s.slotCore n := rfl
theorem State.updateClamped_slotCore : (s.updateClamped n).slotCore n = s.slotCore n := s.setSlot_slotCore _
theorem State.setLine_slotCore (v : Line) : (s.setLine n l v).slotCore n = s.slotCore n := s.setSlot_slotCore _

theorem State.startGrowth_slotCore (k : Nat) : (s.startGrowth n l k).slotCore n = s.slotCore n := by
  unfold State.startGrowth; split
  · split
    · rw [State.setLine_slotCore, State.setPool_slotCore]
    · split
      · rw [State.setLine_slotCore, State.setPool_slotCore]
      · rw [State.setLine_slotCore, State.raiseBoth_slotCore]
  · rfl

theorem State.slotCore_state {s t : State} (h : s.slotCore n = t.slotCore n) : s.slots[n].state = t.slots[n].state :=
  congrArg (fun x => x.1.state) h

/-- A slot record with the core of another, its own lines and its own clamped flag. -/
theorem State.slotCore_slot {s t : State} (h : s.slotCore n = t.slotCore n) :
    s.slots[n] = { t.slots[n] with lines := s.slots[n].lines, clamped := s.slots[n].clamped } := by
  have e := congrArg (fun x => ({ x.1 with lines := s.slots[n].lines, clamped := s.slots[n].clamped } : Slot)) h
  exact e

/-- Evaluating a line of a slot that is not PREPARING changes its lines and clamped flag alone. -/
theorem State.evalNeed_slotCore (h : s.slots[n].state ≠ .preparing) : (s.evalNeed n l).slotCore n = s.slotCore n := by
  unfold State.evalNeed; split_ifs
  · split
    · split_ifs
      · rw [State.updateClamped_slotCore]
        unfold State.needAbove; split_ifs
        · exact s.startGrowth_slotCore l _
        · exact s.setLine_slotCore l _
        · rfl
      · exact s.updateClamped_slotCore
    · rfl
  · rfl

theorem State.evalWritten_slotCore (h : s.slots[n].state ≠ .preparing) (ixs : List ParamIx) :
    (s.evalWritten n ixs).slotCore n = s.slotCore n := by
  unfold State.evalWritten; split
  · have key : ∀ (ls : List LineId) (t : State), t.slots[n].state ≠ .preparing →
        (ls.foldl (fun t l => t.evalNeed n l) t).slotCore n = t.slotCore n := by
      intro ls
      induction ls with
      | nil => intro t _; rfl
      | cons k ls ih =>
        intro t ht
        have e := t.evalNeed_slotCore k ht
        rw [List.foldl_cons, ih _ (by rw [State.slotCore_state e]; exact ht), e]
    exact key _ _ h
  · rfl

/-- What a replacement that fails leaves of a slot: EMPTY, with POOL_SHORT and SLOT_EMPTY in both ports (R52). -/
def State.emptiedShort (s : State) (n : SlotId) : Prop := s.slots[n].state = .empty ∧ s.flagged .poolShort ∧ s.flagged .slotEmpty

theorem State.flagged_of_ports {s t : State} {f : Flag} (hA : s.portA = t.portA) (hB : s.portB = t.portB) (h : t.flagged f) :
    s.flagged f := by
  unfold State.flagged; rw [hA, hB]; exact h

theorem State.leaveWaiting_flagged {f : Flag} (k : SlotId) (h : s.flagged f) : (s.leaveWaiting k).flagged f := by
  unfold State.leaveWaiting; dsimp only; split_ifs
  · exact State.flagged_raiseBoth_of _ _ h
  · exact h
  · exact h

theorem State.recallFailed_flagged {f : Flag} (k : SlotId) (h : s.flagged f) : (s.recallFailed k).flagged f := by
  unfold State.recallFailed; split_ifs
  · exact State.leaveWaiting_flagged _ _ h
  · exact h

/-- A slot emptied is EMPTY, with SLOT_EMPTY raised; flags that stand stay. -/
theorem State.emptySlot_state : (s.emptySlot n).slots[n].state = .empty := by
  unfold State.emptySlot; dsimp only
  have e : ∀ t : State, ((t.leaveWaiting n).raiseBoth .slotEmpty).slots = t.slots := by
    intro t; unfold State.leaveWaiting; dsimp only; split_ifs <;> rfl
  rw [e]
  simp only [State.setEntry, State.setMorph, State.setSlot, table_get_set_self]

theorem State.emptySlot_slotEmpty : (s.emptySlot n).flagged .slotEmpty := State.flagged_raiseBoth _ _

theorem State.emptySlot_flagged {f : Flag} (h : s.flagged f) : (s.emptySlot n).flagged f := by
  unfold State.emptySlot; dsimp only
  refine State.flagged_raiseBoth_of _ _ (State.leaveWaiting_flagged _ _ (State.flagged_of_ports (t := s) ?_ ?_ h))
  · simp only [State.setEntry, State.setMorph, State.setSlot, State.endVoice, State.setVoice, State.giveBackLines, State.setPool]
  · simp only [State.setEntry, State.setMorph, State.setSlot, State.endVoice, State.setVoice, State.giveBackLines, State.setPool]

theorem State.replaceRegion_outcome (k : Nat) :
    (s.replaceRegion n l k).slotCore n = s.slotCore n ∨ (s.replaceRegion n l k).emptiedShort n := by
  unfold State.replaceRegion; split
  · split
    · left; rw [State.setLine_slotCore, State.setPool_slotCore]
    · right
      exact ⟨State.emptySlot_state _, State.emptySlot_flagged _ (State.recallFailed_flagged _ _ (State.flagged_raiseBoth _ _)),
        State.emptySlot_slotEmpty _⟩
  · left; rfl

theorem State.updateClamped_emptiedShort (h : s.emptiedShort n) : (s.updateClamped n).emptiedShort n := by
  obtain ⟨h1, h2, h3⟩ := h
  refine ⟨?_, State.flagged_of_ports rfl rfl h2, State.flagged_of_ports rfl rfl h3⟩
  rw [State.slotCore_state s.updateClamped_slotCore, h1]

/-- Evaluating a line of any slot changes its lines and clamped flag alone, or empties a PREPARING slot. -/
theorem State.evalNeed_outcome : (s.evalNeed n l).slotCore n = s.slotCore n ∨ (s.evalNeed n l).emptiedShort n := by
  by_cases hp : s.slots[n].state = .preparing
  · unfold State.evalNeed; split_ifs
    · split
      · split_ifs
        · unfold State.needAbove; split_ifs
          · rcases s.replaceRegion_outcome (n := n) l (s.need n l) with h | h
            · left; rw [State.updateClamped_slotCore, h]
            · right; exact State.updateClamped_emptiedShort _ h
          · left; rw [State.updateClamped_slotCore, State.setLine_slotCore]
          · left; rw [State.updateClamped_slotCore]
        · left; exact s.updateClamped_slotCore
      · left; rfl
    · left; rfl
  · left; exact s.evalNeed_slotCore l hp

theorem State.evalNeed_of_empty (h : s.slots[n].state = .empty) : s.evalNeed n l = s := by
  unfold State.evalNeed; rw [h]; simp

theorem State.evalWritten_outcome (ixs : List ParamIx) :
    (s.evalWritten n ixs).slotCore n = s.slotCore n ∨ (s.evalWritten n ixs).emptiedShort n := by
  unfold State.evalWritten; split
  · have stay : ∀ (ls : List LineId) (t : State), t.emptiedShort n → (ls.foldl (fun t l => t.evalNeed n l) t).emptiedShort n := by
      intro ls
      induction ls with
      | nil => intro t ht; exact ht
      | cons k ls ih => intro t ht; rw [List.foldl_cons, t.evalNeed_of_empty k ht.1]; exact ih t ht
    have key : ∀ (ls : List LineId) (t : State), (ls.foldl (fun t l => t.evalNeed n l) t).slotCore n = t.slotCore n
        ∨ (ls.foldl (fun t l => t.evalNeed n l) t).emptiedShort n := by
      intro ls
      induction ls with
      | nil => intro t; left; rfl
      | cons k ls ih =>
        intro t
        rw [List.foldl_cons]
        rcases t.evalNeed_outcome (n := n) k with h | h
        · rcases ih (t.evalNeed n k) with h' | h'
          · left; rw [h', h]
          · right; exact h'
        · right; exact stay ls _ h
    exact key _ _
  · left; rfl

/-! ### What a stopped Voice Engine keeps, and WAKE's restart (R69, R70) -/

/-- R70: a MUTE or UNMUTE taken while the Voice Engine is stopped leaves its records. -/
theorem State.soundMute_of_stopped (s : State) (n : SlotId) (g : Rat) (h : s.stopped = true) : s.soundMute n g = s := if_pos h

/-- R70: a crossfade asked for while the Voice Engine is stopped makes no record. -/
theorem State.addCrossfade_of_stopped (s : State) (n : SlotId) (l : LineId) (h : s.stopped = true) : s.addCrossfade n l = s :=
  if_pos h

/-- Clearing peaks changes the voices alone. -/
theorem State.clearPeaks_frame (ns : List SlotId) : ∀ s : State,
    ns.foldl State.clearPeak s = { s with voices := (ns.foldl State.clearPeak s).voices } := by
  induction ns with
  | nil => intro s; rfl
  | cons n ns ih =>
    intro s
    rw [List.foldl_cons, ih (s.clearPeak n)]
    rfl

/-- Clearing peaks, at one slot. -/
theorem State.clearPeaks_voice (m : SlotId) (ns : List SlotId) : ∀ s : State,
    (ns.foldl State.clearPeak s).voices[m] = if m ∈ ns then { s.voices[m] with peak := false } else s.voices[m] := by
  induction ns with
  | nil => intro s; rfl
  | cons n ns ih =>
    intro s
    rw [List.foldl_cons, ih]
    by_cases h : n = m
    · subst h; simp [State.clearPeak]
    · have e : (s.clearPeak n).voices[m] = s.voices[m] := by
        simp only [State.clearPeak, State.setVoice, table_get_set, if_neg h]
      simp [e, Ne.symm h]

/-- R69, R180: the restart clears every peak, drops the returns, and changes nothing else but the quiet gain, the stop and the power
state. -/
theorem State.restartSound_spec (s : State) :
    s.restartSound = { s with
      voices := s.restartSound.voices, audio := { s.audio with returns := [] }, quietGain := GainFade.reset, stopped := false,
      power := .ready }
    ∧ ∀ n : SlotId, s.restartSound.voices[n] = { s.voices[n] with peak := false } := by
  refine ⟨?_, fun n => ?_⟩
  · unfold State.restartSound; rw [State.clearPeaks_frame]
  · show (allSlots.foldl State.clearPeak s).voices[n] = _
    rw [State.clearPeaks_voice, if_pos (mem_allSlots n)]

/-! ### Morph entries (R125, R126) -/

/-- One index taken out of a set. -/
theorem clearedBit (i ix : ParamIx) : (~~~(1#12 <<< i.val)).getLsbD ix.val = !(ix == i) := by decide +kernel +revert

/-- R126: the indices left when some are taken out of a morphing set (`State.endMorphing`). -/
theorem clearedBits (ixs : List ParamIx) (ix : ParamIx) : ∀ w : BitVec 12,
    (ixs.foldl (fun (w : BitVec 12) (i : ParamIx) => w &&& ~~~(1#12 <<< i.val)) w).getLsbD ix.val
      = (w.getLsbD ix.val && !ixs.contains ix) := by
  induction ixs with
  | nil => intro w; simp
  | cons i rest ih =>
    intro w
    rw [List.foldl_cons, ih, BitVec.getLsbD_and, clearedBit, List.contains_cons]
    cases w.getLsbD ix.val <;> cases (ix == i) <;> simp

/-- Writing the time leaves the division. -/
theorem Bank.division_set_time (b : Bank) (v : Int) : Bank.division (b.set timeIx v) = b.division := by
  unfold Bank.division; simp

/-- R125: the time of a bank that a step leaves tempo-locked: the derived time of the division written, or the time that stands. -/
theorem Alg.morphBank_time (a : Alg) (tempo : Nat) (m : Morph) (k : Nat) (b : Bank) (h : a.locked (a.morphBank tempo m k b) = true) :
    (a.morphBank tempo m k b)[timeIx] = if m.morphing.getLsbD divisionIx.val then
      (derivedTime a tempo (a.morphBank tempo m k b).division : Int) else b[timeIx] := by
  unfold Alg.morphBank at h ⊢
  dsimp only at h ⊢
  generalize (paramsOf m.morphing).foldl (fun (acc : Bank) (ix : ParamIx) => acc.set ix (a.morphValue m k ix)) b = w at h ⊢
  unfold Alg.withDerived at h ⊢
  by_cases hw : a.locked w = true
  · simp only [hw, if_true] at h ⊢
    by_cases hm : m.morphing.getLsbD divisionIx.val = true
    · simp only [hm, if_true]
      rw [Bank.division_set_time]; simp
    · simp only [hm]; simp
  · rw [if_neg hw] at h; exact absurd h hw

end Sys2Proof.Machine
end

