-- ==== Sys2Proof/Laws/PoolExec.lean ====
section
/-! SUPPORT. Every command and every step keeps whatever the pool's own operations keep. -/

namespace Sys2Proof.Machine

variable {P : Pool → Prop}

@[simp] theorem State.refuse_state (s : State) (st : Status) : (s.refuse st).state = s := rfl
@[simp] theorem State.refuseHeld_state (s : State) (p : Port) (ls : List SlotId) : (s.refuseHeld p ls).state = s := rfl
@[simp] theorem State.refuseCorrupt_state (s : State) : s.refuseCorrupt.state = s := rfl
@[simp] theorem State.answerDone_state (s : State) (b : List Byte) : (s.answerDone b).state = s := rfl
@[simp] theorem State.answerAccepted_state (s : State) (b : List Byte) : (s.answerAccepted b).state = s := rfl
@[simp] theorem State.serve_pool (s : State) (p : Port) : (s.serve p).pool = s.pool := by cases p <;> rfl
@[simp] theorem State.releaseHolds_pool (s : State) (p : Port) (ls : List SlotId) : (s.releaseHolds p ls).pool = s.pool :=
  pool_of_outsideHolds (s.releaseHolds_outsideHolds p ls)
@[simp] theorem State.takeHolds_pool (s : State) (p : Port) (ls : List SlotId) : (s.takeHolds p ls).pool = s.pool :=
  pool_of_outsideHolds (s.takeHolds_outsideHolds p ls)
@[simp] theorem State.renewAll_pool (s : State) (p : Port) (ls : List SlotId) : (s.renewAll p ls).pool = s.pool :=
  pool_of_outsideHolds (s.renewAll_outsideHolds p ls)
@[simp] theorem State.expireHold_pool (s : State) (n : SlotId) : (s.expireHold n).pool = s.pool :=
  pool_of_outsideHolds (s.expireHold_outsideHolds n)
@[simp] theorem State.tickHold_pool (s : State) (n : SlotId) : (s.tickHold n).pool = s.pool :=
  pool_of_outsideHolds (s.tickHold_outsideHolds n)
@[simp] theorem State.verifyScene_pool (s : State) (k : SceneId) : (s.verifyScene k).pool = s.pool :=
  pool_of_outsideScenes (s.verifyScene_outsideScenes k)
@[simp] theorem State.storeSweep_pool (s : State) : s.storeSweep.pool = s.pool := pool_of_outsideScenes s.storeSweep_outsideScenes
@[simp] theorem State.reevaluate_pool (s : State) : s.reevaluate.pool = s.pool := pool_of_outsideTempo s.reevaluate_outsideTempo
@[simp] theorem State.writeControl_pool (s : State) (v : Nat) : (s.writeControl v).pool = s.pool :=
  pool_of_outsideTempo (s.writeControl_outsideTempo v)
@[simp] theorem State.enterTap_pool (s : State) (v : Nat) : (s.enterTap v).pool = s.pool :=
  pool_of_outsideTempo (s.enterTap_outsideTempo v)
@[simp] theorem State.linkLost_pool (s : State) : s.linkLost.pool = s.pool := pool_of_outsideTempo s.linkLost_outsideTempo
@[simp] theorem State.linkBytes_pool (s : State) (b : List LinkByte) (v : Nat) : (s.linkBytes b v).pool = s.pool :=
  pool_of_outsideTempo (s.linkBytes_outsideTempo b v)
@[simp] theorem State.handResync_pool (s : State) : s.handResync.pool = s.pool := rfl

/-! ### Decisions -/

theorem setTempoDecision_pool (b : List Byte) (s : State) : (setTempoDecision b s).state.pool = s.pool := by
  unfold setTempoDecision; repeat' split
  all_goals simp
theorem setTempoSourceDecision_pool (b : List Byte) (s : State) : (setTempoSourceDecision b s).state.pool = s.pool := by
  unfold setTempoSourceDecision; repeat' split
  all_goals simp
theorem tapDecision_pool (b : List Byte) (v : Nat) (s : State) : (tapDecision b v s).state.pool = s.pool := by
  unfold tapDecision; repeat' split
  all_goals simp
theorem readTempoDecision_pool (b : List Byte) (s : State) : (readTempoDecision b s).state.pool = s.pool := by
  unfold readTempoDecision; split <;> simp
theorem setTapOptionsDecision_pool (b : List Byte) (s : State) : (setTapOptionsDecision b s).state.pool = s.pool := by
  unfold setTapOptionsDecision; repeat' split
  all_goals simp
theorem setLfoDecision_pool (p : Port) (b : List Byte) (s : State) : (setLfoDecision p b s).state.pool = s.pool := by
  unfold setLfoDecision; repeat' split
  all_goals simp
theorem seedRandomDecision_pool (b : List Byte) (s : State) : (seedRandomDecision b s).state.pool = s.pool := by
  unfold seedRandomDecision; repeat' split
  all_goals simp
theorem setRandomModeDecision_pool (b : List Byte) (s : State) : (setRandomModeDecision b s).state.pool = s.pool := by
  unfold setRandomModeDecision; repeat' split
  all_goals simp
theorem muteChecks_pool (p : Port) (b : List Byte) (f : State → SlotId → State) (hf : ∀ s n, (f s n).pool = s.pool) (s : State) :
    (muteChecks p b f s).state.pool = s.pool := by
  unfold muteChecks; repeat' split
  all_goals simp [Verdict.renewed_pool, hf]
theorem routeDecision_pool (p : Port) (b : List Byte) (s : State) : (routeDecision p b s).state.pool = s.pool := by
  unfold routeDecision; repeat' split
  all_goals simp [Verdict.renewed_pool]
theorem readSlotDecision_pool (p : Port) (b : List Byte) (s : State) : (readSlotDecision p b s).state.pool = s.pool := by
  unfold readSlotDecision State.clearClip; repeat' split
  all_goals simp
theorem readPoolDecision_pool (b : List Byte) (s : State) : (readPoolDecision b s).state.pool = s.pool := by
  unfold readPoolDecision; split <;> simp
theorem takeHoldDecision_pool (p : Port) (b : List Byte) (s : State) : (takeHoldDecision p b s).state.pool = s.pool := by
  unfold takeHoldDecision; dsimp only; repeat' split
  all_goals simp
theorem releaseHoldDecision_pool (p : Port) (b : List Byte) (s : State) : (releaseHoldDecision p b s).state.pool = s.pool := by
  unfold releaseHoldDecision; dsimp only; split <;> simp
theorem setLeaseDecision_pool (p : Port) (b : List Byte) (s : State) : (setLeaseDecision p b s).state.pool = s.pool := by
  unfold setLeaseDecision; dsimp only; repeat' split
  all_goals simp
theorem storeSceneDecision_pool (b : List Byte) (s : State) : (storeSceneDecision b s).state.pool = s.pool := by
  unfold storeSceneDecision; dsimp only; repeat' split
  all_goals simp
theorem writeSceneEntryDecision_pool (b : List Byte) (s : State) : (writeSceneEntryDecision b s).state.pool = s.pool := by
  unfold writeSceneEntryDecision State.writeEntry; dsimp only; repeat' split
  all_goals simp
theorem eraseSceneDecision_pool (b : List Byte) (s : State) : (eraseSceneDecision b s).state.pool = s.pool := by
  unfold eraseSceneDecision; repeat' split
  all_goals simp
theorem readSceneDecision_pool (b : List Byte) (s : State) : (readSceneDecision b s).state.pool = s.pool := by
  unfold readSceneDecision; repeat' split
  all_goals simp
theorem abortMorphDecision_pool (p : Port) (b : List Byte) (s : State) : (abortMorphDecision p b s).state.pool = s.pool := by
  unfold abortMorphDecision State.abortMorphs; dsimp only; repeat' split
  all_goals simp [foldl_keeps State.pool State.removeMorph (fun t k => t.removeMorph_pool k)]
theorem readRecallDecision_pool (b : List Byte) (s : State) : (readRecallDecision b s).state.pool = s.pool := by
  unfold readRecallDecision; split <;> simp
theorem readEventsDecision_pool (p : Port) (b : List Byte) (s : State) : (readEventsDecision p b s).state.pool = s.pool := by
  unfold readEventsDecision; split <;> simp
theorem setEventMaskDecision_pool (p : Port) (b : List Byte) (s : State) : (setEventMaskDecision p b s).state.pool = s.pool := by
  unfold setEventMaskDecision; repeat' split
  all_goals simp
theorem portResetDecision_pool (p : Port) (b : List Byte) (s : State) : (portResetDecision p b s).state.pool = s.pool := by
  unfold portResetDecision; split <;> simp
theorem quietDecision_pool (b : List Byte) (s : State) : (quietDecision b s).state.pool = s.pool := by
  unfold quietDecision; repeat' split
  · simp
  · unfold State.enterQuiet State.startQuietFade
    split_ifs <;> simp [State.endQuietFade]
  · simp

theorem State.allocateFor_keeps (hP : PoolClosed P) (s : State) (n : SlotId) (a : Alg) (take : State → List EntryId → State)
    (ht : ∀ t es, P t.pool → P (take t es).pool) (h : P s.pool) : P (s.allocateFor n a take).state.pool := by
  unfold State.allocateFor; split
  · simpa using h
  · dsimp only
    exact State.startClearing_keeps _ hP (ht _ _ (Pool.allocate_keeps n hP h (by assumption)))

theorem assignDecision_keeps (hP : PoolClosed P) (p : Port) (b : List Byte) (s : State) (h : P s.pool) :
    P (assignDecision p b s).state.pool := by
  have same : ∀ n a, P (s.assignSame n a).state.pool := fun n a => by
    unfold State.assignSame
    exact State.startClearing_keeps _ hP (State.evalWritten_keeps _ _ hP _ (by simpa using h))
  have fade : ∀ n o a, P (s.assignFade n o a).state.pool := fun n o a => by
    unfold State.assignFade; split_ifs <;> simpa using h
  have next : ∀ n o a, P (s.assignNext n o a).state.pool := fun n o a => by
    unfold State.assignNext; split_ifs <;> simpa using h
  have empty : ∀ n a, P (s.assignEmpty n a).state.pool := fun n a => by
    unfold State.assignEmpty; split_ifs
    · exact State.allocateFor_keeps hP _ _ _ _ (fun t es ht => by simpa using ht) h
    · simpa using h
  have repl : ∀ n a, P (s.assignReplace n a).state.pool := fun n a => by
    unfold State.assignReplace; split_ifs
    · exact State.allocateFor_keeps hP _ _ _ _ (fun t es ht => by simpa using t.giveBackLines_keeps hP _ ht) h
    · simpa using h
  have all : ∀ n a, P (s.assignByState n a).state.pool := fun n a => by
    unfold State.assignByState; repeat' split
    all_goals first | exact same _ _ | exact fade _ _ _ | exact next _ _ _ | exact empty _ _ | exact repl _ _
  unfold assignDecision; repeat' split
  all_goals first | exact h | (rw [Verdict.renewed_pool]; exact all _ _)

theorem clearDecision_keeps (hP : PoolClosed P) (p : Port) (b : List Byte) (s : State) (h : P s.pool) :
    P (clearDecision p b s).state.pool := by
  have all : ∀ n, P (s.clearByState n).state.pool := fun n => by
    unfold State.clearByState; split
    · exact h
    · exact s.emptySlot_keeps n hP h
    all_goals simpa using h
  unfold clearDecision; repeat' split
  all_goals first | exact h | (rw [Verdict.renewed_pool]; exact all _)

theorem paramsDecision_keeps (hP : PoolClosed P) (p : Port) (b : List Byte) (s : State) (h : P s.pool) :
    P (paramsDecision p b s).state.pool := by
  have all : ∀ n prs, P (s.paramsByState n prs).state.pool := fun n prs => by
    unfold State.paramsByState; repeat' split
    all_goals first | exact h | exact s.writeParams_keeps n hP _ _ h
  unfold paramsDecision; repeat' split
  all_goals first | exact h | (rw [Verdict.renewed_pool]; exact all _ _)

theorem recallDecision_keeps (hP : PoolClosed P) (p : Port) (g : Bool) (b : List Byte) (s : State) (h : P s.pool) :
    P (recallDecision p g b s).state.pool := by
  have entry : ∀ k (t : State) e, P t.pool → P (State.recallEntry p g k t e).pool := fun k t e ht => by
    unfold State.recallEntry; dsimp only
    split_ifs
    · exact ht
    all_goals simpa using t.recallByState_keeps hP e k ht
  have all : ∀ k time, P (s.carryOutRecall p g k time).state.pool := fun k time => by
    unfold State.carryOutRecall; dsimp only
    rw [State.answerAccepted_state]
    refine State.startClearing_keeps _ hP ?_
    have offer : P ((s.abortRecall.openRecall k (recallOrigin p g)).offerTempo s.scenes[k].tempo).1.pool := by
      unfold State.offerTempo; repeat' split
      all_goals simpa using h
    have folded := foldl_holds (fun t : State => P t.pool) _ (entry (s.rate.blocks (time.getD s.scenes[k].morphTime)))
      s.scenes[k].entries _ offer
    split_ifs
    · simpa using folded
    · exact folded
  unfold recallDecision; repeat' split
  all_goals first | exact h | exact all _ _ | simpa using h

theorem State.wakeUp_keeps (hP : PoolClosed P) (s : State) (h : P s.pool) : P s.wakeUp.pool := by
  unfold State.wakeUp
  refine State.startClearing_keeps _ hP ?_
  have ended : P s.storeSweep.endQuietPeriod.pool := State.forceFadeEnds_keeps _ hP (by simpa using h)
  have rezeroed : P s.storeSweep.endQuietPeriod.rezeroSlots.pool :=
    foldl_holds (fun t : State => P t.pool) State.rezeroSlot (fun t n ht => t.rezeroSlot_keeps n hP ht) _ _ ended
  rw [(State.restartSound_spec _).1]; exact rezeroed

theorem wakeDecision_keeps (hP : PoolClosed P) (b : List Byte) (s : State) (h : P s.pool) : P (wakeDecision b s).state.pool := by
  unfold wakeDecision; repeat' split
  · exact s.wakeUp_keeps hP h
  all_goals exact h

/-! ### The block end -/

@[simp] theorem State.handPeaks_pool (s : State) : s.handPeaks.pool = s.pool := by
  have fold : (allSlots.foldl State.handPeak s).pool = s.pool :=
    foldl_keeps State.pool _ (fun t n => by unfold State.handPeak; split_ifs <;> rfl) _ _
  unfold State.handPeaks; dsimp only; split_ifs
  · simpa using fold
  · exact fold

@[simp] theorem State.takeUp_pool (s : State) : s.takeUp.pool = s.pool := by
  have begins : (allSlots.foldl State.beginOrSwap s).pool = s.pool :=
    foldl_keeps State.pool _ (fun t n => by unfold State.beginOrSwap; split_ifs <;> rfl) _ _
  have returns : ∀ t : State, t.applyReturn.pool = t.pool := fun t => by
    have fold : (allSlots.foldl State.returnSlot t).pool = t.pool :=
      foldl_keeps State.pool _ (fun t n => by unfold State.returnSlot; split_ifs <;> rfl) _ _
    unfold State.applyReturn; split_ifs
    · exact fold
    · rfl
  unfold State.takeUp
  rw [foldl_keeps State.pool (State.followBank s.slots)
    (fun t n => by unfold State.followBank; repeat' split
                   all_goals rfl), returns, begins]

@[simp] theorem State.finishFades_pool (s : State) : s.finishFades.pool = s.pool :=
  foldl_keeps State.pool _ (fun t n => by
    have h1 : (t.finishFade n).pool = t.pool := by
      unfold State.finishFade; dsimp only; repeat' split
      all_goals rfl
    rw [← h1]; unfold State.finishCrossfades; split_ifs <;> rfl) _ _

theorem State.blockEnd_keeps (hP : PoolClosed P) (s : State) (sends : List (Vector Sample 8)) (h : P s.pool) :
    P (s.blockEnd sends).pool := by
  have hand : P (s.feed sends).handOff.pool := by
    unfold State.handOff
    rw [State.handPeaks_pool]
    exact foldl_holds (fun t : State => P t.pool) State.morphStep (fun t n ht => t.morphStep_keeps n hP ht) _ _ h
  unfold State.blockEnd; dsimp only; split_ifs
  · exact h
  · unfold State.soundingBlockEnd; dsimp only
    refine State.startClearing_keeps _ hP ?_
    have mid : P (((s.feed sends).handOff).takeUp.finishFades).finishSupply.pool := by simpa [State.finishSupply] using hand
    generalize (((s.feed sends).handOff).takeUp.finishFades).finishSupply = m at mid ⊢
    split_ifs
    · exact mid
    · exact foldl_holds P _ (fun r e hr => hP.writeRegion e _ hr) _ _ mid

/-! ### Every command -/

/-- Whatever the operations of the Delay Memory Manager and the Clear Engine keep of the pool, every command keeps. -/
theorem exec_keeps_pool (hP : PoolClosed P) {i : Instr} {s t : State} (h : P s.pool) (he : exec i s = .next t) : P t.pool := by
  cases i <;> unfold exec at he <;> dsimp only at he
  case assign p tag b => exact runCommand_keeps (fun u hu => assignDecision_keeps hP p b u hu) h he
  case clear p tag b => exact runCommand_keeps (fun u hu => clearDecision_keeps hP p b u hu) h he
  case params p tag b => exact runCommand_keeps (fun u hu => paramsDecision_keeps hP p b u hu) h he
  case mute p tag b =>
    exact runCommand_keeps (fun u hu => by rw [muteChecks_pool _ _ _ (fun s n => s.muteSlot_pool n)]; exact hu) h he
  case unmute p tag b =>
    exact runCommand_keeps (fun u hu => by rw [muteChecks_pool _ _ _ (fun s n => s.unmuteSlot_pool n)]; exact hu) h he
  case route p tag b => exact runCommand_keeps (fun u hu => by rw [routeDecision_pool]; exact hu) h he
  case readSlot p tag b => exact runCommand_keeps (fun u hu => by rw [readSlotDecision_pool]; exact hu) h he
  case readPool p tag b => exact runCommand_keeps (fun u hu => by rw [readPoolDecision_pool]; exact hu) h he
  case takeHold p tag b => exact runCommand_keeps (fun u hu => by rw [takeHoldDecision_pool]; exact hu) h he
  case releaseHold p tag b => exact runCommand_keeps (fun u hu => by rw [releaseHoldDecision_pool]; exact hu) h he
  case setLease p tag b => exact runCommand_keeps (fun u hu => by rw [setLeaseDecision_pool]; exact hu) h he
  case storeScene p tag b => exact runCommand_keeps (fun u hu => by rw [storeSceneDecision_pool]; exact hu) h he
  case writeSceneEntry p tag b => exact runCommand_keeps (fun u hu => by rw [writeSceneEntryDecision_pool]; exact hu) h he
  case eraseScene p tag b => exact runCommand_keeps (fun u hu => by rw [eraseSceneDecision_pool]; exact hu) h he
  case readScene p tag b => exact runCommand_keeps (fun u hu => by rw [readSceneDecision_pool]; exact hu) h he
  case recallScene p tag g b => exact runCommand_keeps (fun u hu => recallDecision_keeps hP p g b u hu) h he
  case abortMorph p tag b => exact runCommand_keeps (fun u hu => by rw [abortMorphDecision_pool]; exact hu) h he
  case readRecall p tag b => exact runCommand_keeps (fun u hu => by rw [readRecallDecision_pool]; exact hu) h he
  case setTempo p tag b => exact runCommand_keeps (fun u hu => by rw [setTempoDecision_pool]; exact hu) h he
  case setTempoSource p tag b => exact runCommand_keeps (fun u hu => by rw [setTempoSourceDecision_pool]; exact hu) h he
  case tap p tag g b v => exact runCommand_keeps (fun u hu => by rw [tapDecision_pool]; exact hu) h he
  case readTempo p tag b => exact runCommand_keeps (fun u hu => by rw [readTempoDecision_pool]; exact hu) h he
  case setTapOptions p tag b => exact runCommand_keeps (fun u hu => by rw [setTapOptionsDecision_pool]; exact hu) h he
  case setLfo p tag b => exact runCommand_keeps (fun u hu => by rw [setLfoDecision_pool]; exact hu) h he
  case seedRandom p tag b => exact runCommand_keeps (fun u hu => by rw [seedRandomDecision_pool]; exact hu) h he
  case setRandomMode p tag b => exact runCommand_keeps (fun u hu => by rw [setRandomModeDecision_pool]; exact hu) h he
  case readEvents p tag b => exact runCommand_keeps (fun u hu => by rw [readEventsDecision_pool]; exact hu) h he
  case setEventMask p tag b => exact runCommand_keeps (fun u hu => by rw [setEventMaskDecision_pool]; exact hu) h he
  case portReset p tag b => exact runCommand_keeps (fun u hu => by rw [portResetDecision_pool]; exact hu) h he
  case quiet p tag b => exact runCommand_keeps (fun u hu => by rw [quietDecision_pool]; exact hu) h he
  case wake p tag b => exact runCommand_keeps (fun u hu => wakeDecision_keeps hP b u hu) h he
  case unknownCommand p tag c b =>
    unfold execUnknownCommand at he; split_ifs at he
    · cases he; exact h
    · exact runCommand_keeps (fun u hu => hu) h he
  case restart p tag b =>
    unfold execRestart at he; split at he
    · cases he; exact h
    · have hp : ∀ u, s.takeCommand p (ownCommand tag 0x62 b) = some u → u.pool = s.pool := fun u hu => by
        rcases State.takeCommand_spec hu with ⟨_, _, ⟨rfl, _⟩ | ⟨rfl, _⟩⟩
        · simp
        · rfl
      split_ifs at he <;> cases he
      · exact hP.reset (by rw [hp _ (by assumption)]; exact h)
      · rw [State.placeResult_pool, hp _ (by assumption)]; exact h
  case i2cAddress p a d =>
    unfold execI2cAddress State.judgeAddress at he; dsimp only at he
    repeat' split at he
    all_goals (cases he; simpa using h)
  case messageEnd p bs => unfold execMessageEnd at he; split_ifs at he <;> cases he <;> simpa using h
  case resultSent r => unfold execResultSent at he; split at he <;> cases he <;> simpa using h
  case readEnd r => unfold execReadEnd at he; split_ifs at he <;> cases he <;> simpa using h
  case busTimeout p bs => unfold execBusTimeout at he; dsimp only at he; split_ifs at he <;> cases he <;> simpa using h
  case busStop r => cases he; simpa using h
  case frameSync => unfold execFrameSync at he; repeat' split at he
                    all_goals (cases he; simpa using h)
  case frameTaken w =>
    unfold execFrameTaken at he; dsimp only at he; split_ifs at he <;> cases he
    · exact h
    · exact State.blockEnd_keeps hP _ _ h
    · exact h
  case clockLost =>
    unfold execClockLost at he; dsimp only at he
    have drop : s.dropModulation.pool = s.pool := foldl_keeps State.pool State.dropModulationOf (fun t n => rfl) _ _
    generalize s.dropModulation = m at he drop
    split_ifs at he <;> cases he <;> first | exact h | (rw [← drop] at h; exact h)
  case fadeEnd n =>
    unfold execFadeEnd at he; dsimp only at he; split_ifs at he <;> cases he
    · exact State.startClearing_keeps _ hP (State.fadeEnded_keeps _ _ hP h)
    · exact h
    · exact h
  case crossfadeEnd n l =>
    unfold execCrossfadeEnd at he; split_ifs at he <;> cases he
    · exact State.startClearing_keeps _ hP (State.crossfadeEnded_keeps _ _ _ hP h)
    · exact h
  case quietFadeEnd =>
    unfold execQuietFadeEnd at he; split_ifs at he <;> cases he
    · exact State.startClearing_keeps _ hP (State.forceFadeEnds_keeps _ hP h)
    · exact h
  case regionJobComplete => cases he; exact hP.regionJobDone h
  case regionLive e =>
    unfold execRegionLive at he; dsimp only at he
    repeat' split at he
    all_goals (cases he; first | exact h | simpa using hP.takeReports _ h)
  case extensionComplete =>
    unfold execExtensionComplete at he; split at he <;> cases he
    · refine State.startClearing_keeps _ hP ?_
      unfold State.extensionEnded; split
      · exact State.growthEnd_keeps _ _ _ hP (hP.extensionDone h (by assumption))
      · exact hP.extensionDone h (by assumption)
    · exact h
  case abandonedPageEnd => cases he; exact hP.cancelledPageEnd h
  case slotPropagation =>
    unfold execSlotPropagation at he; split at he <;> cases he
    · exact State.startClearing_keeps _ hP
        (foldl_holds (fun t : State => P t.pool) _ (fun t n ht => t.propagateTo_keeps n hP _ ht) _ _ h)
    · exact h
  case lfoPropagation => unfold execLfoPropagation at he; split at he <;> cases he <;> exact h
  case resync => unfold execResync at he; split at he <;> cases he <;> exact h
  case tapPress v => unfold execTapPress at he; split_ifs at he <;> cases he <;> exact h
  case tapRelease v =>
    unfold execTapRelease at he; dsimp only at he; split_ifs at he <;> cases he <;> simpa using h
  case longPress v => unfold execLongPress at he; split_ifs at he <;> cases he <;> exact h
  case stuckSwitch v => unfold execStuckSwitch at he; split_ifs at he <;> cases he <;> exact h
  case tapFreshExpiry v => unfold execTapFreshExpiry at he; split_ifs at he <;> cases he <;> simpa using h
  case tapHistoryClear v => unfold execTapHistoryClear at he; split_ifs at he <;> cases he <;> exact h
  case linkTempoFrame a b c d v => cases he; rw [State.linkBytes_pool]; exact h
  case linkStopFrame a b v => cases he; rw [State.linkBytes_pool]; exact h
  case linkBadFrame bs v => cases he; rw [State.linkBytes_pool]; exact h
  case linkBreak v => cases he; rw [State.linkBytes_pool]; exact h
  case linkSilenceTimeout v => unfold execLinkSilenceTimeout at he; split_ifs at he <;> cases he <;> simpa using h
  case leaseTick =>
    unfold execLeaseTick at he; split_ifs at he <;> cases he
    · exact h
    · rw [foldl_keeps State.pool State.tickHold (fun t n => t.tickHold_pool n)]; exact h
  case holdExpiry n => unfold execHoldExpiry at he; split_ifs at he <;> cases he <;> simpa using h
  case supplyLow v =>
    unfold execSupplyLow State.supplyFalls State.fadeSupply at he
    split_ifs at he <;> cases he <;> first | exact h | exact hP.reset h
  case supplyNormal v => unfold execSupplyNormal State.fadeSupply at he; split_ifs at he <;> cases he <;> exact h
  case powerOnReset => cases he; exact hP.reset h
  case resetLow => cases he; exact hP.reset h
  case startUpSweep r v => unfold execStartUpSweep at he; split_ifs at he <;> cases he <;> exact h
  case startUpSweepEnd pins =>
    have swept : P (s.sweptUp.pinsSampled pins).pool := by
      unfold State.sweptUp State.pinsSampled; dsimp only
      split_ifs
      · simpa using hP.sweep h
      · exact hP.sweep h
    unfold execStartUpSweepEnd at he; split_ifs at he <;> cases he
    · unfold State.firstJudgement; split_ifs
      · exact hP.reset swept
      · unfold State.supplyFalls State.fadeSupply; split_ifs <;> exact swept
      · exact swept
    · exact h
  case tapHighSample time => unfold execTapHighSample at he; split_ifs at he <;> cases he <;> exact h

/-- And every step keeps it. -/
theorem step_keeps_pool (hP : PoolClosed P) {s t : State} (h : P s.pool) (he : step s = .next t) : P t.pool := by
  unfold step at he; split at he
  · rename_i c rest _
    exact exec_keeps_pool hP (s := { s with pending := rest }) h he
  · cases he
    unfold State.pageTime; split
    · unfold State.sweepPage; split_ifs
      · exact hP.sweepPage _ h
      · exact h
    · exact hP.pageTick h

end Sys2Proof.Machine
end

