-- ==== Sys2Proof/Laws/Voice.lean ====
section
/-! SUPPORT. What the Voice Engine's and the ports' shared operations can do: the level's root, the bytes of a read, a page time. -/

namespace Sys2Proof.Machine

/-! ### The level (R61) -/

/-- One bit of the root. -/
theorem root40_bits (m n : Nat) : ∀ acc, acc ^ 40 ≤ m → m < (acc + 2 ^ n) ^ 40 →
    ((List.range n).foldr (fun i a => if (a + 2 ^ i) ^ 40 ≤ m then a + 2 ^ i else a) acc) ^ 40 ≤ m
      ∧ m < ((List.range n).foldr (fun i a => if (a + 2 ^ i) ^ 40 ≤ m then a + 2 ^ i else a) acc + 1) ^ 40 := by
  induction n with
  | zero => intro acc h1 h2; exact ⟨h1, by simpa using h2⟩
  | succ n ih =>
    intro acc h1 h2
    rw [List.range_succ, List.foldr_append]
    by_cases h : (acc + 2 ^ n) ^ 40 ≤ m
    · have step : ([n].foldr (fun i a => if (a + 2 ^ i) ^ 40 ≤ m then a + 2 ^ i else a) acc) = acc + 2 ^ n := if_pos h
      rw [step]
      exact ih _ h (by rw [Nat.add_assoc, ← Nat.two_mul, ← Nat.pow_succ']; exact h2)
    · have step : ([n].foldr (fun i a => if (a + 2 ^ i) ^ 40 ≤ m then a + 2 ^ i else a) acc) = acc := if_neg h
      rw [step]
      exact ih _ h1 (by omega)

/-- `root40` is the 40th root rounded down. -/
theorem root40_spec (m : Nat) : root40 m ^ 40 ≤ m ∧ m < (root40 m + 1) ^ 40 := by
  unfold root40
  refine root40_bits m _ 0 (by simp) ?_
  rw [Nat.zero_add, ← Nat.pow_mul]
  refine Nat.lt_of_lt_of_le Nat.lt_log2_self (Nat.pow_le_pow_right (by norm_num) ?_)
  omega

/-- R61: a levelled sample's magnitude is the root of its power, or that and one more where the power is no whole root. -/
theorem levelled_natAbs (up : Bool) (q : Rat) (level : Int) :
    (levelled up q level).natAbs = root40 ((levelPower q level).1 / (levelPower q level).2)
      ∨ (levelled up q level).natAbs = root40 ((levelPower q level).1 / (levelPower q level).2) + 1
        ∧ root40 ((levelPower q level).1 / (levelPower q level).2) ^ 40 * (levelPower q level).2 ≠ (levelPower q level).1 := by
  unfold levelled; dsimp only
  split_ifs <;> omega

/-- The fraction `levelPower` is |q|^40 · 10^level. -/
theorem levelPower_eq (q : Rat) (level : Int) :
    (((levelPower q level).1 : Rat)) = |q| ^ 40 * (10 : Rat) ^ level * ((levelPower q level).2 : Rat) ∧ 0 < (levelPower q level).2 := by
  unfold levelPower
  have hd : (q.den : Rat) ≠ 0 := by exact_mod_cast q.den_nz
  have hq : |q| * (q.den : Rat) = (q.num.natAbs : Rat) := by
    have h1 : q * (q.den : Rat) = (q.num : Rat) := Rat.mul_den_eq_num q
    rw [show (q.num.natAbs : Rat) = ((q.num.natAbs : Int) : Rat) from rfl, Int.natCast_natAbs, Int.cast_abs, ← h1, abs_mul]
    congr 1
    exact (abs_of_nonneg (by positivity)).symm
  have hl : (10 : Rat) ^ level * (10 : Rat) ^ (-level).toNat = (10 : Rat) ^ level.toNat := by
    rw [← zpow_natCast, ← zpow_natCast, ← zpow_add₀ (by norm_num)]
    congr 1; omega
  refine ⟨?_, by have := q.den_pos; positivity⟩
  dsimp only
  push_cast
  rw [← hq, ← hl]; ring

/-- R61: the whole number between which and the next one a levelled sample's magnitude lies. -/
theorem root40_of_power {q : Rat} {level : Int} {k : Nat} (h1 : (k : Rat) ^ 40 ≤ |q| ^ 40 * (10 : Rat) ^ level)
    (h2 : |q| ^ 40 * (10 : Rat) ^ level < ((k : Rat) + 1) ^ 40) :
    root40 ((levelPower q level).1 / (levelPower q level).2) = k := by
  obtain ⟨e, hp⟩ := levelPower_eq q level
  have hpr : (0 : Rat) < ((levelPower q level).2 : Rat) := by exact_mod_cast hp
  generalize levelPower q level = p at *
  have a : k ^ 40 * p.2 ≤ p.1 := by
    have := mul_le_mul_of_nonneg_right h1 hpr.le
    rw [← e] at this; exact_mod_cast this
  have b : p.1 < (k + 1) ^ 40 * p.2 := by
    have := mul_lt_mul_of_pos_right h2 hpr
    rw [← e] at this; exact_mod_cast this
  obtain ⟨r1, r2⟩ := root40_spec (p.1 / p.2)
  have a' : k ^ 40 ≤ p.1 / p.2 := (Nat.le_div_iff_mul_le hp).mpr a
  have b' : p.1 / p.2 < (k + 1) ^ 40 := (Nat.div_lt_iff_lt_mul hp).mpr b
  have c1 : k < root40 (p.1 / p.2) + 1 := lt_of_pow_lt_pow_left₀ 40 (by omega) (lt_of_le_of_lt a' r2)
  have c2 : root40 (p.1 / p.2) < k + 1 := lt_of_pow_lt_pow_left₀ 40 (by omega) (lt_of_le_of_lt r1 b')
  omega

/-- R61: a levelled sample lies at the whole number k whose magnitude its power reaches, or at the next one, as `up` says, where the power is no
whole root. -/
theorem levelled_between (up : Bool) {q : Rat} {level : Int} {k : Nat} (h1 : (k : Rat) ^ 40 ≤ |q| ^ 40 * (10 : Rat) ^ level)
    (h2 : |q| ^ 40 * (10 : Rat) ^ level < ((k : Rat) + 1) ^ 40) :
    (0 ≤ q → levelled up q level = if |q| ^ 40 * (10 : Rat) ^ level ≠ (k : Rat) ^ 40 ∧ up = true then (k : Int) + 1 else k)
    ∧ (q < 0 → levelled up q level
        = if |q| ^ 40 * (10 : Rat) ^ level ≠ (k : Rat) ^ 40 ∧ up = false then -(k : Int) - 1 else -(k : Int)) := by
  have hr := root40_of_power h1 h2
  obtain ⟨e, hp⟩ := levelPower_eq q level
  have hpr : ((levelPower q level).2 : Rat) ≠ 0 := by exact_mod_cast hp.ne'
  have hx : k ^ 40 * (levelPower q level).2 = (levelPower q level).1 ↔ |q| ^ 40 * (10 : Rat) ^ level = (k : Rat) ^ 40 := by
    constructor
    · intro h
      have : ((k : Rat) ^ 40) * ((levelPower q level).2 : Rat) = ((levelPower q level).1 : Rat) := by exact_mod_cast h
      rw [e] at this
      exact (mul_right_cancel₀ hpr this).symm
    · intro h
      rw [h] at e; exact_mod_cast e.symm
  unfold levelled; dsimp only
  rw [hr]
  by_cases he : |q| ^ 40 * (10 : Rat) ^ level = (k : Rat) ^ 40
  · simp only [hx.mpr he, he]
    constructor <;> intro hq <;> simp [hq, not_lt.mpr]
  · have hn : ¬ k ^ 40 * (levelPower q level).2 = (levelPower q level).1 := fun h => he (hx.mp h)
    rw [if_neg hn]
    constructor <;> intro hq
    · rw [if_neg (not_lt.mpr hq)]; cases up <;> simp [he]
    · rw [if_pos hq]; cases up <;> simp [he]

/-! ### The bytes of a read (R169) -/

/-- What a byte clocked in a read may change: the link, the bytes sent and the results. -/
theorem PortState.sendByte_frame (v : PortState) (acked : Bool) :
    v.sendByte acked = { v with
      link := (v.sendByte acked).link, sent := (v.sendByte acked).sent, results := (v.sendByte acked).results } := by
  unfold PortState.sendByte PortState.resultOut
  split <;> (try split_ifs) <;> rfl

/-- The same for the bytes of a whole read. -/
theorem PortState.sendBytes_frame (acks : List Bool) : ∀ v : PortState,
    v.sendBytes acks = { v with
      link := (v.sendBytes acks).link, sent := (v.sendBytes acks).sent, results := (v.sendBytes acks).results } := by
  induction acks with
  | nil => intro v; rfl
  | cons a acks ih =>
    intro v
    have h := ih (v.sendByte a)
    have hb := v.sendByte_frame a
    show (v.sendByte a).sendBytes acks = { v with
      link := ((v.sendByte a).sendBytes acks).link, sent := ((v.sendByte a).sendBytes acks).sent,
      results := ((v.sendByte a).sendBytes acks).results }
    generalize (v.sendByte a).sendBytes acks = x at h ⊢
    generalize v.sendByte a = w at h hb
    rw [h, hb]

/-- A port that sends nothing clocks no byte out. -/
theorem PortState.sendBytes_idle {v : PortState} (h : v.link.reading = false) (acks : List Bool) : v.sendBytes acks = v := by
  induction acks with
  | nil => rfl
  | cons a acks ih =>
    have hv : v.sendByte a = v := by
      unfold PortState.sendByte
      split <;> simp_all [PortLink.reading]
    show (v.sendByte a).sendBytes acks = v
    rw [hv]; exact ih

/-! ### A page time (R39, R178) -/

/-- What a page time may change: the sweep and the pool. -/
theorem State.pageTime_frame (s : State) : s.pageTime = { s with sweep := s.pageTime.sweep, pool := s.pageTime.pool } := by
  unfold State.pageTime State.sweepPage
  split
  · split_ifs <;> rfl
  · rfl

end Sys2Proof.Machine
end

