-- ==== Sys2Proof/WellFormed.lean ====
section
/-! DEFINITION. Which terms of `Instr` are rows that the outside can present. An ill-formed term still has a meaning (it changes
nothing or is answered as the spec says); these checks say what a sender sends. -/

namespace Sys2Proof

/-- A framed message carries a body of 0 to 60 bytes (9.3). -/
def bodyOk (body : List Byte) : Bool := body.length ≤ 60

/-- The checks on a term of `Instr`. -/
def Instr.wf : Instr → Bool
  | .assign _ _ body | .clear _ _ body | .params _ _ body | .mute _ _ body | .unmute _ _ body | .route _ _ body
  | .readSlot _ _ body | .readPool _ _ body | .takeHold _ _ body | .releaseHold _ _ body | .setLease _ _ body
  | .storeScene _ _ body | .writeSceneEntry _ _ body | .eraseScene _ _ body | .readScene _ _ body
  | .recallScene _ _ _ body | .abortMorph _ _ body | .readRecall _ _ body | .setTempo _ _ body
  | .setTempoSource _ _ body | .tap _ _ _ body _ | .readTempo _ _ body | .setTapOptions _ _ body
  | .setLfo _ _ body | .seedRandom _ _ body | .setRandomMode _ _ body | .readEvents _ _ body
  | .setEventMask _ _ body | .portReset _ _ body | .quiet _ _ body | .wake _ _ body | .restart _ _ body => bodyOk body
  -- a known code makes another row (R147)
  | .unknownCommand _ _ code body => bodyOk body && !commandCodes.contains code
  -- a bad frame holds at least one byte (R86)
  | .linkBadFrame bytes _ => !bytes.isEmpty
  -- the thresholds of R181 and R177
  | .supplyLow mv => mv < 3050
  | .supplyNormal mv => 3100 < mv
  | .startUpSweep resetHigh mv => resetHigh && 2900 < mv
  | .i2cAddress _ _ _ | .messageEnd _ _ | .resultSent _ | .readEnd _ | .busTimeout _ _ | .busStop _
  | .frameSync | .frameTaken _ | .clockLost | .fadeEnd _ | .crossfadeEnd _ _ | .quietFadeEnd
  | .regionJobComplete | .regionLive _ | .extensionComplete | .abandonedPageEnd
  | .slotPropagation | .lfoPropagation | .resync
  | .tapPress _ | .tapRelease _ | .longPress _ | .stuckSwitch _ | .tapFreshExpiry _ | .tapHistoryClear _ | .tapHighSample _
  | .linkTempoFrame _ _ _ _ _ | .linkStopFrame _ _ _ | .linkBreak _ | .linkSilenceTimeout _
  | .leaseTick | .holdExpiry _ | .powerOnReset | .resetLow | .startUpSweepEnd _ => true

end Sys2Proof
end

