-- ==== Sys2Proof/Tests/Slice0.lean ====
section
/-! SUPPORT. Tests: ill-formed terms that the checks refuse, single steps on small states, and for every statement with hypotheses a
state and operands that meet them (each clause at a boundary of its range). -/

namespace Sys2Proof.Tests

open Sys2Proof.Machine

set_option Elab.async false

/-! ### Small states -/

/-- The part READY, everything else at its reset value. -/
def up : State := { State.reset with power := .ready }

/-- The state after the arbiter takes a command of Port A from empty queues. -/
def served (s : State) : State := { s with lastServed := .a }

/-- The arbiter takes the command from Port A. -/
abbrev taken (s : State) (c : Command) : Prop := s.takeCommand .a c = some (served s)

/-- A slot record with an algorithm at its defaults. -/
def slotOf (st : SlotState) (a : Alg) : Slot :=
  { Slot.reset with state := st, algorithm := some a, active := a.defaults, shadow := a.defaults }

/-- Slot 15 with the record given. -/
def withSlot (sl : Slot) : State := { up with slots := up.slots.set (15 : SlotId) sl }

/-- Slot 15 held by a port. -/
def heldBy (q : Port) (count : Nat) (s : State) : State :=
  { s with holds := s.holds.set (15 : SlotId) { holder := some q, count := count } }

/-- A PREPARING TAPE slot 15 on the 20 pages of entry 63, its shadow bank asking for 24, with the free runs given. -/
def needy (st : SlotState) (runs : List Run) (deferred : Option Nat) (growth : Growth) : State :=
  { withSlot { slotOf st .tape with
      lines := [{ current := 63, retiring := none, growth := growth, deferred := deferred }] } with
    pool := { up.pool with
      entries := up.pool.entries.set (63 : EntryId) (some ⟨.live, 0, 20, none, some (15, 0)⟩), runs := runs } }

/-- Scene 31 with the record given. -/
def withScene (k : Scene) : State := { up with scenes := up.scenes.set (31 : SceneId) k }

/-- An entry of slot 15 that runs CHORUS at its defaults. -/
def chorusEntry : SceneEntry :=
  { slot := 15, algorithm := .chorus, sendSet := 1, returnPair := 7, mute := false, params := Alg.chorus.defaults }

/-- A record of one entry, sealed. -/
def oneEntry : Scene :=
  Scene.sealed { state := .valid, entries := [chorusEntry], tempo := none, morphTime := 8000, check := 0 }

/-- The same record with a check value that does not match. -/
def badCheck : Scene := { oneEntry with check := oneEntry.check ^^^ 1 }

/-- The Tempo Unit with the receiver in a state. -/
def linked (k : LinkState) (bad : Nat) (ref : Option Nat) : State :=
  { up with tempo := { up.tempo with link := { up.tempo.link with state := k, badRun := bad, seekReference := ref } } }

/-- The pool with entry 63 as given and one job for it. -/
def pooled (r : Region) (j : Job) (zeroed : Nat) : State :=
  { up with pool := { up.pool with
      entries := up.pool.entries.set (63 : EntryId) (some r), runs := [{ first := 30, count := 4066 }], jobs := [j],
      progress := some { first := 0, pages := 30, zeroed := zeroed } } }

/-- A state answered, for the tests. -/
def after (a : Answer) : State :=
  match a with
  | .next s => s
  | _ => State.reset

/-! ### Ill-formed terms -/

theorem test_longBody_refused : (Instr.assign .a 0 (List.replicate 61 0)).wf = false := by decide +kernel
theorem test_knownCode_refused : (Instr.unknownCommand .a 0 0x01 []).wf = false := by decide +kernel
theorem test_emptyBadFrame_refused : (Instr.linkBadFrame [] 0).wf = false := by decide +kernel
theorem test_supplyNotLow_refused : (Instr.supplyLow 3050).wf = false := by decide +kernel
theorem test_supplyNotNormal_refused : (Instr.supplyNormal 3100).wf = false := by decide +kernel
theorem test_sweepWithResetLow_refused : (Instr.startUpSweep false 3300).wf = false := by decide +kernel
theorem test_sweepBelowThreshold_refused : (Instr.startUpSweep true 2900).wf = false := by decide +kernel
theorem test_wellFormed_accepted : (Instr.assign .a 0 [0, 2]).wf = true ∧ (Instr.unknownCommand .b 0 0x7F []).wf = true
    ∧ (Instr.startUpSweep true 2901).wf = true := by decide +kernel

/-! ### Single steps -/

/-- The check values of CRC-8 with polynomial 0x31 and of CRC-16 with initial value 0xFFFF over the digits 1 to 9. -/
theorem test_crc_checkValues :
    crc8 [0x31, 0x32, 0x33, 0x34, 0x35, 0x36, 0x37, 0x38, 0x39] = 0xA2
    ∧ crc16 [0x31, 0x32, 0x33, 0x34, 0x35, 0x36, 0x37, 0x38, 0x39] = 0x29B1 := by decide +kernel

theorem test_idle_step_changes_nothing : after (step up) = up := by decide +kernel

theorem test_assign_queues_regions :
    let s := after (exec (.assign .a 7 [15, 1]) up)
    s.slots[15].state = .preparing ∧ s.loadTally = 6 ∧ s.pool.jobs.length = 4 ∧ s.portA.results = [⟨7, 1, .accepted, [1, 6]⟩]
      ∧ s.portB.results = [] := by decide +kernel

theorem test_time_of_locked_slot_is_refused :
    (after (exec (.params .a 7 [15, 2, 0, 4, 0, 1, 0xF4]) (withSlot (slotOf .muted .tape)))).portA.results
      = [⟨7, 3, .range, []⟩] := by decide +kernel

theorem test_division_derives_time :
    let s := after (exec (.params .a 7 [15, 2, 0, 4]) (withSlot (slotOf .muted .tape)))
    s.slots[15].shadow[0] = 500 ∧ s.portA.results = [⟨7, 3, .done, []⟩] := by decide +kernel

theorem test_tap_gives_tempo :
    let s := { up with tempo := { up.tempo with lastTap := some 1000, tapFresh := true, intervals := [500] } }
    (after (exec (.tap .b 9 true [] 1500) s)).tempo.applied = 12000
      ∧ (after (exec (.tap .b 9 true [] 1500) s)).tempo.source = .tap := by decide +kernel

theorem test_quiet_aborts_recall :
    let s := { up with recallRecord := { up.recallRecord with state := .running, scene := some 31, waiting := 1 } }
    (after (exec (.quiet .a 1 []) s)).recallRecord.state = .aborted
      ∧ (after (exec (.quiet .a 1 []) s)).quietGain.value = 0 := by decide +kernel

theorem test_frame_returns_samples :
    let frame := Vector.ofFn fun c : Fin 16 => (BitVec.ofNat 24 c.val)
    let s := { up with audio := { up.audio with clock := .present, frameOpen := true, returns := [frame] } }
    (after (exec (.frameTaken (Vector.replicate 16 0xABCDEF00)) s)).audio.output[3] = 0x300
      ∧ (after (exec (.frameTaken (Vector.replicate 16 0xABCDEF00)) s)).audio.sends.length = 1 := by decide +kernel

/-- A level of −40 half-decibels is a tenth, exactly; half of 1001 at level 0 falls between two values and is rounded as `up` says. -/
theorem test_level_scales :
    levelled false 1000 (-40) = 100 ∧ levelled true (-1000) (-40) = -100 ∧ levelled false (1001 / 2) 0 = 500
      ∧ levelled true (1001 / 2) 0 = 501 ∧ levelled false (-1001 / 2) 0 = -501 ∧ levelled false 1000000 (-12) = 501187 := by
  decide +kernel

/-- A result of Port A being read. -/
def reading (k : Sending) : State :=
  { up with portA := { up.portA with link := .sending k, results := [⟨9, 0x60, .done, []⟩] } }

theorem test_read_sends_the_record :
    let r : Result := ⟨9, 0x60, .done, []⟩
    (after (exec (.readEnd ⟨.a, [true, true, true]⟩) (reading (.result r)))).portA.sent = [9, 0x60, 0]
      ∧ (after (exec (.readEnd ⟨.a, [true, true, true]⟩) (reading (.result r)))).portA.results = [r]
      ∧ (after (exec (.busStop ⟨.a, List.replicate 7 true⟩) (reading (.result r)))).portA.sent = r.bytes ++ [0xFF, 0xFF]
      ∧ (after (exec (.busStop ⟨.a, List.replicate 7 true⟩) (reading (.result r)))).portA.results = [] := by decide +kernel

theorem test_sweep_zeroes_pages :
    let s := { State.reset with sweep := some 4095, pool := { State.reset.pool with written := [(4095, 7)] } }
    (after (step s)).sweep = some 4096 ∧ (after (step s)).pool.written = [] := by decide +kernel

theorem test_release_of_held_switch_sets_timer :
    let s := { up with tempo := { up.tempo with pulse := .held, pulseTimer := 600, edgeTime := 100 } }
    (after (exec (.tapRelease 1100) s)).tempo.pulseTimer = 1000 ∧ (after (exec (.tapRelease 1100) s)).tempo.pulse = .open
      ∧ (after (exec (.tapHighSample 1100) s)).tempo.pulseTimer = 1000
      ∧ (after (exec (.tapHighSample 1100) s)).tempo.pulse = .open := by decide +kernel

/-- A morph of the division from 4 to 6 at 120.00 BPM: the derived time is that of the division which each step leaves. -/
theorem test_morph_of_division_derives_time :
    let m : Morph := { start := Alg.tape.defaults.set 2 4, target := (Alg.tape.defaults.set 2 6).set 0 375, total := 4, done := 0, morphing := 4 }
    let b := (Alg.tape.defaults.set 2 4).set 0 375
    (Alg.tape.morphBank 12000 m 1 b)[0] = 500 ∧ (Alg.tape.morphBank 12000 m 1 b)[2] = 4
      ∧ (Alg.tape.morphBank 12000 m 2 b)[0] = 375 ∧ (Alg.tape.morphBank 12000 m 2 b)[2] = 6 := by decide +kernel

theorem test_early_frame_sync_drops_a_return :
    let s := { up with audio := { up.audio with
      clock := .present, frameOpen := true, returns := [Vector.replicate 16 1, Vector.replicate 16 2] } }
    (after (exec .frameSync s)).audio.returns = [Vector.replicate 16 2] := by decide +kernel

theorem test_supply_below_reset_level :
    (after (exec (.supplyLow 2799) up)).power = .starting ∧ (after (exec (.supplyLow 2800) up)).supply = .low := by decide +kernel

/-! ### Witnesses: commands and slots -/

theorem witness_StepRunsTheFrontCommand : ({ up with pending := [.leaseTick] } : State).pending = .leaseTick :: [] := rfl

theorem witness_CommandsAreTaken :
    let c := ownCommand 1 2 [15]
    let one := { up with portA := { up.portA with commands := [c] } }
    let both := { one with portB := { one.portB with commands := [c] } }
    let call : Command := ⟨1, 0x24, true, List.replicate 60 0⟩
    let full := { up.portA with results := List.replicate 8 ⟨0, 0, .done, []⟩ }
    State.reset.power = .starting ∧ up.power ≠ .starting
      ∧ (one.port .a).commands = c :: [] ∧ (one.port .b).commands = []
      ∧ (both.port .a).commands = c :: [] ∧ both.lastServed = .b
      ∧ (both.port .b).commands ≠ [] ∧ { both with lastServed := Port.a }.lastServed = .a
      ∧ (up.port .a).link = .idle ∧ (up.port .a).creditsInUse < 8 ∧ call.body.length ≤ 60 ∧ call.generalCall = true
      ∧ (up.port .a).callEnable = true ∧ call.code = 0x24 ∧ 8 ≤ full.creditsInUse
      ∧ (PortState.addressed up.portA true).link ≠ .idle := by decide +kernel

theorem witness_AssignNewAlgorithm :
    let fullLoad := { up with slots := (Vector.replicate 16 (slotOf .running .plate)).set (15 : SlotId) Slot.reset }
    let noRoom := { up with pool := { up.pool with runs := [{ first := 0, count := 20 }] } }
    let noEntry := { up with pool := { up.pool with entries := Vector.replicate 64 (some ⟨.live, 0, 1, none, none⟩) } }
    taken up (ownCommand 1 1 [15, 6]) ∧ up.power ≠ .quiet ∧ slotField 15 = some (15 : SlotId) ∧ algField 6 = some .flanger
      ∧ up.holds[15].holder ≠ some .b ∧ up.slots[15].state = .empty
      ∧ fullLoad.rate.budget < fullLoad.loadTally - fullLoad.slots[15].load + Alg.flanger.load
      ∧ taken fullLoad (ownCommand 1 1 [15, 6]) ∧ fullLoad.slots[15].state = .empty
      ∧ up.loadTally - up.slots[15].load + Alg.hall.load ≤ up.rate.budget
      ∧ (up.pool.allocate 15 (allocationSizes up.rate .hall Alg.hall.defaults)).toOption.isSome = true
      ∧ (noRoom.pool.allocate 15 (allocationSizes up.rate .hall Alg.hall.defaults)).toOption = none
      ∧ (noEntry.pool.allocate 15 (allocationSizes up.rate .hall Alg.hall.defaults)).toOption = none := by decide +kernel

/-- A PREPARING slot of TAPE that is assigned HALL, with room and without. -/
theorem witness_AssignNewAlgorithm_preparing :
    let s := needy .preparing [⟨40, 500⟩] none .steady
    let full := { s with slots := (Vector.replicate 16 (slotOf .running .hall)).set (15 : SlotId) (slotOf .preparing .tape) }
    taken s (ownCommand 1 1 [15, 2]) ∧ s.power ≠ .quiet ∧ s.holds[15].holder ≠ some .b ∧ s.slots[15].state = .preparing
      ∧ algField 2 = some .hall ∧ s.slots[15].algorithm ≠ some .hall
      ∧ s.loadTally - s.slots[15].load + Alg.hall.load ≤ s.rate.budget
      ∧ (s.pool.allocate 15 (allocationSizes s.rate .hall Alg.hall.defaults)).toOption.isSome = true
      ∧ ((needy .preparing [⟨40, 9⟩] none .steady).pool.allocate 15 (allocationSizes s.rate .hall Alg.hall.defaults)).toOption = none
      ∧ taken full (ownCommand 1 1 [15, 2]) ∧ full.slots[15].state = .preparing
      ∧ full.rate.budget < full.loadTally - full.slots[15].load + Alg.hall.load := by decide +kernel

theorem witness_AssignOwnAlgorithm :
    let running := withSlot (slotOf .running .tape)
    let preparing := withSlot (slotOf .preparing .tape)
    taken running (ownCommand 1 1 [15, 3]) ∧ running.power ≠ .quiet ∧ slotField 15 = some (15 : SlotId) ∧ algField 3 = some .tape
      ∧ running.holds[15].holder ≠ some .b ∧ running.slots[15].algorithm = some .tape ∧ running.slots[15].state = .running
      ∧ taken preparing (ownCommand 1 1 [15, 3]) ∧ preparing.slots[15].state = .preparing
      ∧ preparing.slots[15].algorithm = some .tape := by decide +kernel

/-- A replacement that fails, and one that does not. -/
theorem witness_replacementFails :
    (needy .preparing [⟨40, 9⟩] none .steady).replacementFails 15 0
      ∧ (needy .preparing [⟨40, 9⟩] none .steady).evaluationFails 15 allParams
      ∧ taken (needy .preparing [⟨40, 9⟩] none .steady) (ownCommand 1 1 [15, 3])
      ∧ ¬ (needy .preparing [⟨40, 30⟩] none .steady).replacementFails 15 0 := by
  refine ⟨?_, ?_, by decide +kernel, ?_⟩
  · exact ⟨⟨63, none, .steady, none⟩, .tape, .noRoom, by decide +kernel, by decide +kernel, by decide +kernel, rfl,
      by decide +kernel, by rfl⟩
  · refine ⟨.tape, [], 0, [1, 2, 3], by decide +kernel, by decide +kernel, ?_⟩
    exact ⟨⟨63, none, .steady, none⟩, .tape, .noRoom, by decide +kernel, by decide +kernel, by decide +kernel, rfl,
      by decide +kernel, by rfl⟩
  · rintro ⟨ln, a, f, _, h1, h2, _, _, h3⟩
    have e1 : ln = ⟨63, none, .steady, none⟩ := Option.some.inj (h1.symm.trans (by decide +kernel))
    have e2 : a = .tape := Option.some.inj (h2.symm.trans (by decide +kernel))
    subst e1 e2
    have : (((needy .preparing [⟨40, 30⟩] none .steady).pool.giveBack 63).place (allocationSize .tape
        (requiredPages (needy .preparing [⟨40, 30⟩] none .steady).rate .tape
          (needy .preparing [⟨40, 30⟩] none .steady).slots[(15 : SlotId)].shadow 0)) 15 0).toOption.isSome = true := by decide +kernel
    rw [h3] at this
    cases this

theorem witness_NeedIsEvaluated :
    let need := requiredPages .k48 .tape Alg.tape.defaults 0
    let room := needy .muted [⟨20, 10⟩, ⟨50, 40⟩] none .steady
    let split := needy .muted [⟨20, 9⟩, ⟨50, 40⟩] none .steady
    let short := needy .muted [⟨20, 9⟩] none .steady
    let busy := needy .running [] none .extending
    let due := needy .running [] (some 21) .relocating
    need = 24 ∧ room.slots[15].lines[(0 : LineId).val]? = some ⟨63, none, .steady, none⟩ ∧ room.slots[15].algorithm = some .tape
      ∧ room.slots[15].state = .muted ∧ room.pool.countOf 63 = 20 ∧ room.pool.sizeOf 63 = 20 ∧ 20 < need
      ∧ (room.pool.extend 63 30).isSome = true ∧ split.pool.extend 63 30 = none
      ∧ (split.pool.place 30 15 0).toOption.isSome = true ∧ short.pool.extend 63 30 = none ∧ (short.pool.place 30 15 0).toOption = none
      ∧ busy.slots[15].lines[(0 : LineId).val]? = some ⟨63, none, .extending, none⟩
      ∧ (needy .preparing [⟨40, 30⟩] none .steady).slots[15].state = .preparing
      ∧ ((needy .preparing [⟨40, 30⟩] none .steady).pool.giveBack 63 |>.place 30 15 0).toOption.isSome = true
      ∧ room.pool.entries[63] = some ⟨.live, 0, 20, none, some (15, 0)⟩
      ∧ due.slots[15].lines[(0 : LineId).val]? = some ⟨63, none, .relocating, some 21⟩ ∧ due.pool.countOf 63 < 21
      ∧ (needy .fading [] (some 21) .extending).slots[15].state = .fading
      ∧ requiredPages .k48 .tape (Alg.tape.defaults.set 0 426) 0 = 20 ∧ requiredPages .k48 .tape (Alg.tape.defaults.set 0 427) 0 = 21 := by
  decide +kernel

theorem witness_NeedIsEvaluated_runs : runsOk (needy .muted [⟨20, 10⟩, ⟨50, 40⟩] none .steady).pool.runs :=
  ⟨by decide, by decide, show 0 < 40 by decide⟩

theorem witness_EndFadeStarts :
    let s := heldBy .a 1 (withSlot (slotOf .muted .tape))
    let full := { s with slots := (Vector.replicate 16 (slotOf .running .hall)).set (15 : SlotId) (slotOf .muted .tape) }
    taken s (ownCommand 1 1 [15, 2]) ∧ taken s (ownCommand 1 2 [15]) ∧ s.power ≠ .quiet ∧ s.holds[15].holder ≠ some .b
      ∧ s.slots[15].state = .muted ∧ s.slots[15].algorithm = some .tape ∧ algField 2 = some .hall ∧ Alg.hall ≠ .tape
      ∧ s.loadTally - s.slots[15].load + max Alg.tape.load Alg.hall.load ≤ s.rate.budget
      ∧ taken full (ownCommand 1 1 [15, 2]) ∧ full.slots[15].state = .muted ∧ full.slots[15].algorithm = some .tape
      ∧ full.rate.budget < full.loadTally - full.slots[15].load + max Alg.tape.load Alg.hall.load := by decide +kernel

theorem witness_ClearEmptiesAtOnce :
    let preparing := withSlot (slotOf .preparing .hall)
    taken up (ownCommand 1 2 [15]) ∧ up.power ≠ .quiet ∧ slotField 15 = some (15 : SlotId) ∧ up.holds[15].holder ≠ some .b
      ∧ up.slots[15].state = .empty ∧ taken preparing (ownCommand 1 2 [15]) ∧ preparing.slots[15].state = .preparing := by
  decide +kernel

theorem witness_FadingSlotSettlesWhatFollows :
    let s := withSlot { slotOf .fading .tape with next := some .hall }
    slotField 15 = some (15 : SlotId) ∧ s.holds[15].holder ≠ some .b ∧ s.slots[15].state = .fading ∧ s.power ≠ .quiet
      ∧ s.slots[15].algorithm = some .tape ∧ algField 1 = some .plate
      ∧ s.loadTally - s.slots[15].load + max Alg.tape.load Alg.plate.load ≤ s.rate.budget
      ∧ taken s (ownCommand 1 1 [15, 1]) ∧ taken s (ownCommand 1 2 [15]) ∧ taken s (ownCommand 1 3 [15, 11, 0, 1])
      ∧ paramsBody [15, 11, 0, 1] = some (15, [(11, 1)]) ∧ indexedPairs [(11, 1)] = some [(11, 1)]
      ∧ taken s (ownCommand 1 4 [15]) ∧ taken s (ownCommand 1 5 [15]) ∧ taken s (ownCommand 1 6 [15, 0xFF, 7])
      ∧ pairField 7 = some (7 : PairId) := by decide +kernel

theorem witness_ParamsAllOrNothing :
    let s := withSlot (slotOf .running .tape)
    let p := withSlot (slotOf .preparing .tape)
    taken s (ownCommand 1 3 [15, 2, 0, 9]) ∧ paramsBody [15, 2, 0, 9] = some (15, [(2, 9)]) ∧ indexedPairs [(2, 9)] = some [(2, 9)]
      ∧ slotField 15 = some (15 : SlotId) ∧ s.holds[15].holder ≠ some .b ∧ s.slots[15].state = .running
      ∧ s.slots[15].algorithm = some .tape ∧ Alg.tape.admits 2 9 = true
      ∧ taken p (ownCommand 1 3 [15, 2, 0, 9]) ∧ p.slots[15].state = .preparing
      ∧ (Alg.tape.evaluatedBy Alg.tape.defaults [(0, 501)]) = [0]
      ∧ taken s (ownCommand 1 3 [15, 2, 0, 10]) ∧ paramsBody [15, 2, 0, 10] = some (15, [(2, 10)])
      ∧ Alg.tape.admits 2 10 = false
      ∧ taken s (ownCommand 1 3 [15, 2, 0, 9, 0, 0, 10])
      ∧ paramsBody [15, 2, 0, 9, 0, 0, 10] = some (15, [(2, 9), (0, 10)])
      ∧ indexedPairs [(2, 9), (0, 10)] = some [(2, 9), (0, 10)] := by decide +kernel

/-- Morph entries that a PARAMS of the division to 9 (which takes the division and the time) leaves with nothing, and with index 3. -/
theorem witness_ParamsAllOrNothing_morph :
    let m : Morph := { start := Alg.tape.defaults, target := Alg.tape.defaults, total := 4, done := 0, morphing := 5 }
    let s := fun (w : BitVec 12) => { withSlot (slotOf .running .tape) with
      morphs := up.morphs.set (15 : SlotId) (some { m with morphing := w }) }
    (s 5).morphs[15] = some { m with morphing := 5 } ∧ (s 13).morphs[15] = some { m with morphing := 13 }
      ∧ (withSlot (slotOf .running .tape)).morphs[15] = none
      ∧ (∀ ix : ParamIx, (5 : BitVec 12).getLsbD ix.val = true → ix = 2 ∨ ix = 0)
      ∧ (13 : BitVec 12).getLsbD 3 = true := by decide +kernel

theorem witness_MuteAndUnmute :
    let s := fun st => withSlot (slotOf st .hall)
    slotField 15 = some (15 : SlotId)
      ∧ (∀ st ∈ [SlotState.running, .muted, .preparing],
          taken (s st) (ownCommand 1 4 [15]) ∧ taken (s st) (ownCommand 1 5 [15]) ∧ (s st).slots[15].state = st
          ∧ (s st).holds[15].holder ≠ some .b)
      ∧ taken (s .fading) (ownCommand 1 4 [15]) ∧ taken (s .fading) (ownCommand 1 5 [15]) ∧ (s .fading).slots[15].state = .fading
      ∧ taken { s .running with power := .quiet, stopped := true } (ownCommand 1 4 [15])
      ∧ taken { s .muted with power := .quiet, stopped := true } (ownCommand 1 5 [15])
      ∧ taken up (ownCommand 1 4 [15]) ∧ taken up (ownCommand 1 5 [15]) ∧ up.slots[15].state = .empty := by decide +kernel

theorem witness_RouteAndReadSlot :
    let s := heldBy .b 240 up
    slotField 15 = some (15 : SlotId) ∧ taken up (ownCommand 1 6 [15, 0xFF, 7]) ∧ pairField 7 = some (7 : PairId)
      ∧ up.holds[15].holder ≠ some .b ∧ up.slots[15].state ≠ .fading ∧ taken s (ownCommand 1 7 [15])
      ∧ s.holds[15].holder = some .b := by decide +kernel

theorem witness_HeldSlotRefusesTheOtherPort :
    let s := heldBy .b 240 up
    slotField 15 = some (15 : SlotId) ∧ s.holds[15].holder = some .b ∧ s.power ≠ .quiet
      ∧ taken s (ownCommand 1 1 [15, 6]) ∧ (algField 6).isSome = true ∧ taken s (ownCommand 1 2 [15])
      ∧ taken s (ownCommand 1 3 [15, 11, 0, 1]) ∧ paramsBody [15, 11, 0, 1] = some (15, [(11, 1)])
      ∧ (indexedPairs [(11, 1)]).isSome = true ∧ taken s (ownCommand 1 4 [15]) ∧ taken s (ownCommand 1 5 [15])
      ∧ taken s (ownCommand 1 6 [15, 0xFF, 7]) ∧ (pairField 7).isSome = true := by decide +kernel

/-! ### Witnesses: reports and holds -/

theorem witness_ReportsAreRead :
    taken up (ownCommand 1 0x10 []) ∧ taken up (ownCommand 1 0x33 []) ∧ taken up (ownCommand 1 0x26 []) := by decide +kernel

theorem witness_TakeHoldAllOrNone :
    let s := heldBy .b 240 up
    taken up (ownCommand 1 0x11 [0x80, 0x01])
      ∧ (∀ n : SlotId, slotIn (bits16 0x80 0x01) n = true → up.holds[n].holder ≠ some .b)
      ∧ taken s (ownCommand 1 0x11 [0x80, 0x01])
      ∧ (∃ n : SlotId, slotIn (bits16 0x80 0x01) n = true ∧ s.holds[n].holder = some .b) := by decide +kernel

theorem witness_ReleaseHoldAndSetLease :
    taken up (ownCommand 1 0x12 [0xFF, 0xFF])
      ∧ (∀ u ∈ [(4 : Byte), 240, 3, 241], taken up (ownCommand 1 0x13 [u]))
      ∧ (4 ≤ (4 : Byte).toNat ∧ (240 : Byte).toNat ≤ 240) ∧ (3 : Byte).toNat < 4 ∧ 240 < (241 : Byte).toNat := by decide +kernel

theorem witness_LeasesTickAndExpire :
    let s := heldBy .b 1 up
    s.power ≠ .starting ∧ s.holds[15].holder = some .b ∧ s.holds[15].count ≤ 1 := by decide +kernel

/-! ### Witnesses: scenes and recalls -/

theorem witness_StoreSceneCaptures :
    let s := withSlot (slotOf .fading .hall)
    taken s (ownCommand 1 0x20 [31, 0x80, 0, 1, 0x1F, 0x40]) ∧ sceneField 31 = some (31 : SceneId) ∧ boolField 1 = some true
      ∧ morphField 0x1F 0x40 = some 8000 ∧ s.slots[15].state ≠ .empty ∧ s.slots[15].algorithm = some .hall
      ∧ s.slots[0].state = .empty ∧ (slotsOf (bits16 0x80 0)).filterMap s.captureEntry ≠ []
      ∧ taken up (ownCommand 1 0x20 [31, 0x80, 0, 1, 0x1F, 0x40])
      ∧ (slotsOf (bits16 0x80 0)).filterMap up.captureEntry = [] := by decide +kernel

theorem witness_WriteSceneEntryPlaces :
    let body := chorusEntry.bytes
    taken up (ownCommand 1 0x21 (31 :: 0 :: 0 :: 0x1F :: 0x40 :: body)) ∧ body.length = 29 ∧ sceneField 31 = some (31 : SceneId)
      ∧ sceneTempoField 0 0 = some none ∧ sceneTempoField 0x75 0x30 = some (some 30000) ∧ morphField 0x1F 0x40 = some 8000
      ∧ entryField body = some chorusEntry
      ∧ up.scenes[31].state = .empty ∧ up.scenes[31].entries = []
      ∧ taken (withScene oneEntry) (ownCommand 1 0x21 (31 :: 0x75 :: 0x30 :: 0 :: 0 :: body))
      ∧ (withScene oneEntry).scenes[31].state = .valid
      ∧ (withScene oneEntry).scenes[31].check = (withScene oneEntry).scenes[31].freshCheck
      ∧ (withScene oneEntry).scenes[31].entries.length = 1 := by decide +kernel

theorem witness_EraseSceneEmpties :
    taken up (ownCommand 1 0x22 [31]) ∧ (31 : Byte).toNat = (31 : SceneId).val ∧ taken up (ownCommand 1 0x22 [32])
      ∧ 32 ≤ (32 : Byte).toNat := by decide +kernel

theorem witness_ReadSceneReturns :
    let s := withScene oneEntry
    taken up (ownCommand 1 0x23 [31, 15]) ∧ sceneField 31 = some (31 : SceneId) ∧ (15 : Byte).toNat ≤ 15
      ∧ up.scenes[31].state = .empty
      ∧ taken s (ownCommand 1 0x23 [31, 0]) ∧ s.scenes[31].state = .valid ∧ s.scenes[31].check = s.scenes[31].freshCheck
      ∧ s.scenes[31].entries[(0 : Byte).toNat]? = some chorusEntry
      ∧ taken s (ownCommand 1 0x23 [31, 1]) ∧ s.scenes[31].entries.length ≤ (1 : Byte).toNat := by decide +kernel

theorem witness_CorruptRecordRefused :
    let s := withScene badCheck
    let c := withScene { badCheck with state := SceneState.corrupt }
    sceneField 31 = some (31 : SceneId) ∧ s.scenes[31].state = .valid ∧ s.scenes[31].check ≠ s.scenes[31].freshCheck
      ∧ c.scenes[31].state = .corrupt ∧ taken s (ownCommand 1 0x23 [31, 15]) ∧ taken c (ownCommand 1 0x23 [31, 15])
      ∧ taken s (ownCommand 1 0x21 (31 :: 0 :: 0 :: 0 :: 0 :: chorusEntry.bytes)) ∧ chorusEntry.bytes.length = 29
      ∧ (sceneTempoField 0 0).isSome = true ∧ (morphField 0 0).isSome = true ∧ (entryField chorusEntry.bytes).isSome = true
      ∧ taken s { tag := 1, code := 0x24, generalCall := true, body := [31, 0xFF, 0xFF] } ∧ s.power ≠ .quiet
      ∧ (recallMorphField 0xFF 0xFF).isSome = true := by decide +kernel

theorem witness_RecallCountsEveryEntry :
    let s := withScene oneEntry
    taken s { tag := 1, code := 0x24, generalCall := true, body := [31, 0xFF, 0xFF] } ∧ s.power ≠ .quiet
      ∧ sceneField 31 = some (31 : SceneId) ∧ (recallMorphField 0xFF 0xFF).isSome = true
      ∧ (recallMorphField 0x1F 0x40).isSome = true ∧ s.scenes[31].state = .valid
      ∧ s.scenes[31].check = s.scenes[31].freshCheck
      ∧ (s.scenes[31].entries.Pairwise fun a b => a.slot < b.slot)
      ∧ recallMorphField 0x1F 0x40 = some (some 8000) ∧ recallMorphField 0xFF 0xFF = some none
      ∧ ({ oneEntry with tempo := some 3000 } : Scene).tempo = some 3000
      ∧ ({ up.tempo with mode := .control } : TempoUnit).mode = .control ∧ up.tempo.mode ≠ .control
      ∧ taken up { tag := 1, code := 0x24, generalCall := false, body := [31, 0, 0] } ∧ up.scenes[31].state = .empty := by
  decide +kernel

/-- The clauses of `RecallCountsEveryEntry` on an entry: each slot state it meets, with and without room, moving and not. -/
theorem witness_RecallCountsEveryEntry_entry :
    let e := chorusEntry
    let held := heldBy .b 1 up
    let moved := { slotOf .running .chorus with active := Alg.chorus.defaults.set 0 5 }
    let full := { up with slots := (Vector.replicate 16 (slotOf .running .hall)).set (15 : SlotId) Slot.reset }
    let noRoom := { up with pool := { up.pool with runs := [] } }
    let fits := fun (s : State) (units : Nat) => s.loadTally - s.slots[15].load + units ≤ s.rate.budget
    held.holds[e.slot].holder = some (Port.a).other ∧ up.holds[e.slot].holder ≠ some .b
      ∧ slotIn up.recallRecord.waiting e.slot = false ∧ up.slots[e.slot].state = .empty ∧ fits up Alg.chorus.load
      ∧ (up.pool.allocate 15 (allocationSizes up.rate .chorus (up.entryBank e))).toOption.isSome = true
      ∧ (noRoom.pool.allocate 15 (allocationSizes up.rate .chorus (up.entryBank e))).toOption = none
      ∧ ¬ fits full Alg.chorus.load ∧ full.slots[e.slot].state = .empty
      ∧ (withSlot (slotOf .preparing .chorus)).slots[e.slot].algorithm = some e.algorithm
      ∧ (withSlot (slotOf .preparing .hall)).slots[e.slot].algorithm ≠ some e.algorithm
      ∧ (withSlot moved).slots[e.slot].state = .running
      ∧ Alg.chorus.morphingSet moved.active (up.entryBank e) ≠ [] ∧ Alg.chorus.morphingSet Alg.chorus.defaults (up.entryBank e) = []
      ∧ (withSlot (slotOf .muted .hall)).slots[e.slot].algorithm = some .hall ∧ Alg.hall ≠ e.algorithm
      ∧ fits (withSlot (slotOf .muted .hall)) (max Alg.hall.load Alg.chorus.load)
      ∧ (withSlot (slotOf .fading .hall)).slots[e.slot].state = .fading := by decide +kernel

/-- R52, R119: a recall entry on a PREPARING slot of its own algorithm whose replacement region cannot be placed. -/
theorem test_recall_replacement_fails :
    let e := { chorusEntry with algorithm := .tape, params := Alg.tape.defaults, sendSet := 0x81 }
    let v := needy .preparing [⟨40, 9⟩] none .steady
    let u := State.recallEntry .a false 0 v e
    v.slots[15].algorithm = some e.algorithm ∧ u.slots[15].state = .empty ∧ u.slots[15].sendSet = 0x81
      ∧ u.recallRecord.failed = v.recallRecord.failed + 1 ∧ u.recallRecord.waiting = v.recallRecord.waiting
      ∧ u.portA.hasFlag .poolShort = true ∧ u.portB.hasFlag .slotEmpty = true := by decide +kernel

/-- The same entry's evaluation fails as `RecallCountsEveryEntry` says it. -/
theorem witness_RecallCountsEveryEntry_fails :
    let e := { chorusEntry with algorithm := .tape, params := Alg.tape.defaults, sendSet := 0x81 }
    let v := needy .preparing [⟨40, 9⟩] none .steady
    let w := (v.takeRouting 15 e).writeShadow 15 (v.entryBank e)
    w.slots[15].algorithm = some .tape ∧ (allLines.filter fun k => allParams.any (Alg.tape.entersNeed k)) = [] ++ 0 :: [1, 2, 3]
      ∧ w.slots[15].state = .preparing ∧ w.slots[15].lines[(0 : LineId).val]? = some ⟨63, none, .steady, none⟩
      ∧ w.pool.countOf 63 < requiredPages w.rate .tape w.slots[15].shadow 0
      ∧ ((w.pool.giveBack 63).place (allocationSize .tape (requiredPages w.rate .tape w.slots[15].shadow 0)) 15 0).toOption
          = none := by decide +kernel

theorem witness_AbortMorphRemoves :
    let s := heldBy .b 1 up
    taken up (ownCommand 1 0x25 [0x80, 0]) ∧ (∀ n : SlotId, slotIn (bits16 0x80 0) n = true → up.holds[n].holder ≠ some .b)
      ∧ taken s (ownCommand 1 0x25 [0x80, 0])
      ∧ (∃ n : SlotId, slotIn (bits16 0x80 0) n = true ∧ s.holds[n].holder = some .b) := by decide +kernel

/-! ### Witnesses: tempo -/

theorem witness_SetTempoPropagates :
    (∀ b ∈ [[(0x0B : Byte), 0xB8], [0x75, 0x30], [0x0B, 0xB7], [0x75, 0x31], [0x2E, 0xE0], [0x2E, 0xE4], [0x2E, 0xE5]],
        taken up (ownCommand 1 0x30 b))
      ∧ up.tempo.choice = .control ∧ up.tempo.applied = 12000 ∧ up.tempo.lastPropagated = 12000 := by decide +kernel

theorem witness_SetTempoPropagates_values :
    word16 0x0B 0xB8 = 3000 ∧ word16 0x75 0x30 = 30000 ∧ word16 0x0B 0xB7 = 2999 ∧ word16 0x75 0x31 = 30001
      ∧ word16 0x2E 0xE0 = 12000 ∧ word16 0x2E 0xE4 = 12004 ∧ word16 0x2E 0xE5 = 12005 := by decide +kernel

theorem witness_ModeCommands :
    taken up (ownCommand 1 0x31 [3]) ∧ modeField 3 = some .link ∧ taken up (ownCommand 1 0x34 [1]) ∧ boolField 1 = some true
      ∧ taken up (ownCommand 1 0x41 [0, 1]) ∧ ((0 : Byte) ++ (1 : Byte) : BitVec 16) ≠ 0#16
      ∧ taken up (ownCommand 1 0x41 [0, 0]) ∧ ((0 : Byte) ++ (0 : Byte) : BitVec 16) = 0#16
      ∧ taken up (ownCommand 1 0x42 [1]) ∧ randomField 1 = some .live := by decide +kernel

theorem witness_TapTempo :
    let tapped := fun held => { up with tempo := { up.tempo with lastTap := some 1000, intervals := held } }
    let far := fun (i : Nat) (held : List Nat) =>
      4 * ((i * held.length - held.sum) + (held.sum - i * held.length)) > held.sum
    (∀ s ∈ [up, tapped [], tapped [200], tapped [800, 800, 800, 800]],
        taken s { tag := 1, code := 0x32, generalCall := true, body := [] })
      ∧ up.tempo.lastTap = none ∧ (tapped []).tempo.lastTap = some 1000 ∧ 1199 < 1000 + 200
      ∧ 1200 = 1000 + 200 ∧ 3000 = 1000 + 2000 ∧ far 2000 [200] ∧ ¬ far 250 [200] ∧ ¬ far 1000 [800, 800, 800, 800] := by
  decide +kernel

theorem witness_Footswitch :
    let pulse := fun k => { up with tempo := { up.tempo with pulse := k, edgeTime := 100, lastTap := none } }
    let fresh := { up with tempo := { up.tempo with tapFresh := true, freshSince := 100, lastTap := some 100 } }
    let off := { pulse .timing with tempo := { (pulse .timing).tempo with spikeRejection := false } }
    up.power ≠ .starting ∧ (pulse .open).tempo.pulse = .open ∧ (pulse .timing).tempo.pulse = .timing
      ∧ (pulse .timing).tempo.edgeTime < 101 ∧ 107 < (pulse .timing).tempo.edgeTime + 8
      ∧ (pulse .timing).tempo.spikeRejection = true ∧ 699 < (pulse .timing).tempo.edgeTime + 600
      ∧ (pulse .timing).tempo.edgeTime + 8 ≤ 108 ∧ off.tempo.spikeRejection = false ∧ (pulse .timing).tempo.lastTap = none
      ∧ (pulse .timing).tempo.edgeTime + 599 ≤ 699 ∧ (pulse .held).tempo.pulse = .held
      ∧ (pulse .held).tempo.edgeTime + 2999 ≤ 3099 ∧ (pulse .stopped).tempo.pulse = .stopped
      ∧ fresh.tempo.tapFresh = true ∧ fresh.tempo.freshSince + 30000 ≤ 30100 ∧ fresh.tempo.lastTap = some 100
      ∧ 100 + 2000 ≤ 2100 ∧ (pulse .held).tempo.edgeTime + 600 ≤ 700 ∧ 3099 < (pulse .held).tempo.edgeTime + 3000 := by
  decide +kernel

/-- A release whose falling edge came 500 ms after the last tap: every case of R82 is open to it. -/
theorem witness_Footswitch_interval :
    let s := fun last held => { up with tempo := { up.tempo with
      pulse := .timing, edgeTime := 3000, lastTap := some last, intervals := held } }
    (s 2500 [500]).tempo.pulse = .timing ∧ (s 2500 [500]).tempo.edgeTime < 3008 ∧ 3008 < (s 2500 [500]).tempo.edgeTime + 600
      ∧ (s 2500 [500]).tempo.edgeTime + 8 ≤ 3008 ∧ (s 2500 [500]).tempo.lastTap = some 2500 ∧ 3000 = 2500 + 500
      ∧ 3000 < 2801 + 200 ∧ 999 + 2000 < 3000 ∧ 3000 = 2800 + 200 ∧ 3000 = 1000 + 2000 := by decide +kernel

theorem witness_LinkFrames :
    up.power ≠ .starting ∧ up.tempo.link.assembly = [] ∧ (0 : Byte).toNat ≤ 95 ∧ (95 : Byte).toNat ≤ 95
      ∧ word16 0x0B 0xB8 = 3000 ∧ word16 0x75 0x30 = 30000 ∧ up.tempo.link.state = .silent
      ∧ (linked .lost 0 none).tempo.link.state = .lost ∧ (linked .lost 0 none).tempo.link.assembly = []
      ∧ (linked .seeking 0 (some 100)).tempo.link.state = .seeking
      ∧ (linked .seeking 0 (some 100)).tempo.link.seekReference = some 100 ∧ 100 + 500 < 601 ∧ 600 ≤ 100 + 500
      ∧ (linked .locked 2 none).tempo.link.state = .locked ∧ up.tempo.link.cutByte = false
      ∧ ({ up.tempo.link with cutByte := true } : LinkReceiver).cutByte = true := by decide +kernel

theorem witness_LinkLoss :
    let s := fun bad => linked .locked bad none
    (s 0).power ≠ .starting ∧ (s 0).tempo.link.state = .locked ∧ (s 0).tempo.link.assembly = []
      ∧ (s 0).tempo.link.cutByte = false
      ∧ (0 : Byte) ≠ crc8 [0xF5, 0x2E, 0xE0, 0] ∧ (s 1).tempo.link.badRun < 2 ∧ 2 ≤ (s 2).tempo.link.badRun
      ∧ (s 0).tempo.link.silenceStart + 500 ≤ 500 := by decide +kernel

theorem witness_PropagationWritesLockedSlots :
    let lockedSlot := { slotOf .muted .tape with shadow := Alg.tape.defaults.set 2 9 }
    let s := { withSlot lockedSlot with tempo := { up.tempo with toSlots := [30000] } }
    let p := { withSlot { lockedSlot with state := SlotState.preparing } with tempo := s.tempo }
    let m : Morph := { start := zeroBank, target := zeroBank, total := 2, done := 0, morphing := 1 }
    s.tempo.toSlots = 30000 :: [] ∧ s.slots[15].state = .muted ∧ s.slots[15].algorithm = some .tape
      ∧ s.slots[15].shadow[2].toNat ≠ 0 ∧ s.slots[0].state = .empty ∧ p.slots[15].state = .preparing
      ∧ p.tempo.toSlots = 30000 :: [] ∧ s.morphs[15] = none ∧ m.morphing &&& ~~~1#12 = 0
      ∧ ({ m with morphing := 3 } : Morph).morphing &&& ~~~1#12 ≠ 0 := by decide +kernel

/-! ### Witnesses: modulation -/

theorem witness_SetLfoWrites :
    let s := heldBy .b 1 (withSlot (slotOf .running .chorus))
    (∀ b ∈ [[(3 : Byte), 5, 0x07, 0xD0, 9, 0x01, 0x67], [3, 0, 0, 1, 0, 0, 0], [3, 0, 0, 100, 0, 0, 0]],
        taken up (ownCommand 1 0x40 b))
      ∧ lfoField 3 = some (3 : LfoId) ∧ shapeField 5 = some .smoothRandom ∧ 1 ≤ word16 0 1 ∧ word16 0x07 0xD0 ≤ 2000
      ∧ (9 : Byte).toNat ≤ 9 ∧ word16 0x01 0x67 ≤ 359 ∧ shapeField 0 = some up.modulation.lfos[3].shape
      ∧ word16 0 0 = up.modulation.lfos[3].offset ∧ word16 0 100 = up.modulation.lfos[3].rate
      ∧ (∀ n : SlotId, up.slots[n].boundLfo = some (3 : LfoId) → up.holds[n].holder ≠ some .b)
      ∧ taken s (ownCommand 1 0x40 [0, 5, 0x07, 0xD0, 9, 0x01, 0x67]) ∧ lfoField 0 = some (0 : LfoId)
      ∧ (∃ n : SlotId, s.slots[n].boundLfo = some (0 : LfoId) ∧ s.holds[n].holder = some .b) := by decide +kernel

theorem witness_PropagationAndResyncReachTheLfos :
    let s := fun e => { up with tempo := { up.tempo with toModulation := [e] } }
    (s (.propagation 3000)).tempo.toModulation = .propagation 3000 :: [] ∧ (s .resync).tempo.toModulation = .resync :: [] := by
  decide +kernel

/-! ### Witnesses: ports -/

theorem witness_FirstChecks :
    let q := { up with power := .quiet }
    taken up (ownCommand 1 0x7F []) ∧ (0x7F : Byte) ∉ commandCodes
      ∧ (∀ c ∈ commandCodes, taken up (ownCommand 1 c (List.replicate 8 0))) ∧ (List.replicate 8 (0 : Byte)).length % 3 ≠ 1
      ∧ taken up (ownCommand 1 0x03 [0]) ∧ [(0 : Byte)].length < 4 ∧ q.power = .quiet
      ∧ taken q (ownCommand 1 1 [0, 0]) ∧ taken q (ownCommand 1 2 [0])
      ∧ taken q { tag := 1, code := 0x24, generalCall := true, body := [0, 0, 0] } := by decide +kernel

theorem witness_EventsAndMask :
    taken up (ownCommand 1 0x50 []) ∧ taken up (ownCommand 1 0x51 [0x3F, 0xFF, 1])
      ∧ ((0x3F : Byte) ++ (0xFF : Byte) : BitVec 16).toNat < 2 ^ 14 ∧ boolField 1 = some true
      ∧ taken up (ownCommand 1 0x51 [0x40, 0, 1]) ∧ 2 ^ 14 ≤ ((0x40 : Byte) ++ (0 : Byte) : BitVec 16).toNat
      ∧ taken up (ownCommand 1 0x51 [0, 0, 2]) ∧ boolField 2 = none := by decide +kernel

theorem witness_PortResetClearsThePort :
    taken up (ownCommand 1 0x52 []) ∧ taken (heldBy .a 1 up) (ownCommand 1 0x52 []) := by decide +kernel

theorem witness_AddressByte :
    let v := up.portA
    let full := { v with results := List.replicate 8 ⟨0, 0, .done, []⟩ }
    State.reset.power = .starting ∧ up.power ≠ .starting ∧ (v.addressed true).link = .addressed
      ∧ v.link ≠ .addressed ∧ v.link ≠ .receiving ∧ (0x34 : BitVec 7) = v.ownAddress
      ∧ v.commands.length + v.results.length < 8 ∧ ¬ full.commands.length + full.results.length < 8
      ∧ (0 : BitVec 7) ≠ v.ownAddress ∧ v.callEnable = true ∧ ({ v with callEnable := false } : PortState).callEnable = false
      ∧ (0x35 : BitVec 7) ≠ v.ownAddress ∧ full.results ≠ [] ∧ v.results = [] := by decide +kernel

theorem witness_MessageIsFramed :
    let v := { up.portA with link := .receiving, callMark := true }
    let good : List Byte := [9, 0x32, 0, crc8 [9, 0x32, 0]]
    let other : List Byte := [9, 0x33, 0, crc8 [9, 0x33, 0]]
    v.link = .receiving ∧ v.tooLong = false ∧ v.buffer.length ≤ 64 ∧ [(1 : Byte), 2, 3].length < 4
      ∧ 64 < (List.replicate 65 (0 : Byte)).length
      ∧ (good.getD 2 0).toNat + 4 = good.length ∧ good.getD (good.length - 1) 0 = crc8 good.dropLast ∧ good.getD 1 0 = 0x32
      ∧ (other.getD 2 0).toNat + 4 = other.length ∧ other.getD (other.length - 1) 0 = crc8 other.dropLast
      ∧ other.getD 1 0 ≠ 0x24 ∧ other.getD 1 0 ≠ 0x32 ∧ crc8 [9, 0x32, 0] ≠ 0
      ∧ ¬ (([9, 0x32, 1, 0] : List Byte).getD 2 0).toNat + 4 = 4 := by decide +kernel

theorem witness_TransactionsEnd :
    let r : Result := ⟨1, 1, .done, []⟩
    let v := { up.portA with link := .sending (.result r), results := [r] }
    v.link = .sending (.result r) ∧ v.sent = [] ∧ up.portA.link = .idle
      ∧ bytesOut [true, true, false, true] = 3 ∧ bytesOut (List.replicate 5 true) = 5 ∧ bytesOut [] = 0 ∧ r.bytes.length = 5
      ∧ ({ v with link := .ignoring } : PortState).link = .ignoring ∧ up.power ≠ .starting
      ∧ (up.portA.addressed false).link = .addressed
      ∧ (up.portA.addressed false).buffer.length + (List.replicate 64 (0 : Byte)).length ≤ 64
      ∧ v.link ≠ .addressed ∧ v.link ≠ .receiving := by decide +kernel

/-! ### Witnesses: audio and voices -/

/-- The clock PRESENT, a frame begun, and some frames taken. -/
def playing (frames : Nat) : State :=
  { up with audio := { up.audio with
      clock := .present, frameOpen := true, sends := List.replicate frames (Vector.replicate 8 0) } }

theorem witness_ClockComesAndGoes :
    let s := playing 0
    let g : GainFade := { value := 1, fade := some (newFade 1 0 1) }
    s.power ≠ .starting ∧ s.audio.clock = .present ∧ s.audio.frameOpen = true
      ∧ ({ s.audio with frameOpen := false } : Audio).frameOpen = false ∧ g.fade = some (newFade 1 0 1) ∧ g.fade ≠ none
      ∧ s.supplyGain.fade = none ∧ s.quietGain.fade = none ∧ up.audio.clock = .lost := by decide +kernel

theorem witness_FramesMakeBlocks :
    let s := playing 31
    let f : Fade := { newFade 1 0 16 with left := 0 }
    s.power ≠ .starting ∧ s.audio.clock = .present ∧ s.audio.frameOpen = true ∧ (playing 30).audio.sends.length < 31
      ∧ (playing 30).audio.returns = [] ∧ s.audio.sends = Vector.replicate 8 0 :: List.replicate 30 (Vector.replicate 8 0)
      ∧ s.stopped = false ∧ { s with stopped := true }.stopped = true ∧ s.quietGain.fade = none ∧ f.left = 0
      ∧ (newFade 1 0 16).left ≠ 0 ∧ s.supplyGain = { value := 1, fade := none } ∧ s.quietGain = { value := 1, fade := none }
      ∧ (allSlots.filter fun n => s.voices[n].begun && s.slots[n].returnPair.val == 7) = [] := by
  decide +kernel

/-- A begun slot whose sample is known whatever the algorithm gives (its gain is 0), and powers at both ends of a whole root. -/
theorem witness_FramesMakeBlocks_sample :
    let s := { playing 31 with
      slots := up.slots.set (15 : SlotId) (slotOf .muted .hall),
      voices := up.voices.set (15 : SlotId) { Voice.reset with begun := true } }
    s.voices[15].begun = true ∧ s.slots[15].algorithm = some .hall ∧ s.voices[15].gain = 0 ∧ s.voices[15].fade = none
      ∧ (0 : Rat) ^ 40 ≤ |(0 : Rat)| ^ 40 * (10 : Rat) ^ (-12 : Int) ∧ |(0 : Rat)| ^ 40 * (10 : Rat) ^ (-12 : Int) < (0 + 1) ^ 40
      ∧ (2 : Rat) ^ 40 ≤ |(-2 : Rat)| ^ 40 * (10 : Rat) ^ (0 : Int) ∧ |(-2 : Rat)| ^ 40 * (10 : Rat) ^ (0 : Int) < (2 + 1) ^ 40 := by
  refine ⟨rfl, rfl, rfl, rfl, ?_, ?_, ?_, ?_⟩ <;> norm_num

/-- Phases at the corners of the triangle. -/
theorem witness_LfoStep :
    let f := fun (ph : Nat) (sh : Shape) => { up.modulation with
      lfos := up.modulation.lfos.set (3 : LfoId) { up.modulation.lfos[3] with shape := sh, phase := ph, increment := 1 } }
    (((f 1073741822 .triangle).stepLfo 3).lfos[3]).phase = 1073741823 ∧ (((f 1073741823 .triangle).stepLfo 3).lfos[3]).phase = 1073741824
      ∧ (((f 3221225471 .triangle).stepLfo 3).lfos[3]).phase = 3221225472 ∧ (((f 4294967295 .rampUp).stepLfo 3).lfos[3]).phase = 0
      ∧ (((f 0 .stepRandom).stepLfo 3).lfos[3]).shape = .stepRandom := by decide +kernel

theorem witness_BlockEndSwaps :
    let s := playing 31
    let v := { Voice.reset with begun := true, peak := true }
    s.power ≠ .starting ∧ s.audio.sends.length = 31 ∧ s.stopped = false ∧ s.morphs[15] = none
      ∧ v.begun = true ∧ v.peak = true ∧ ({ slotOf .running .hall with swapPending := true } : Slot).swapPending = true
      ∧ ({ Voice.reset with beginRequested := true } : Voice).beginRequested = true
      ∧ s.voices[15].beginRequested = false ∧ s.voices[15].begun = false ∧ s.quietGain.fade = none
      ∧ (∀ k : SlotId, s.morphs[k] = none) := by decide +kernel

/-- The clauses of `BlockEndSwaps` on fades, crossfades, lengths of lines and morphs. -/
theorem witness_BlockEndSwaps_records :
    let last : Fade := { newFade 1 0 16 with left := 0 }
    let v : Voice := { Voice.reset with
      begun := true, crossfades := [⟨0, 0, 100⟩, ⟨1, 16, 0⟩], glides := [⟨0, 5, 10, 0⟩, ⟨1, 5, 10, 3⟩] }
    let t := { needy .running [] none .steady with voices := up.voices.set (15 : SlotId) v }
    let m : Morph := { start := Alg.tape.defaults, target := Alg.tape.defaults.set 2 4, total := 1, done := 0, morphing := 4 }
    last.left = 0 ∧ last.length = 16 ∧ last.target = 0 ∧ 0 < (newFade 0 1 8).left ∧ v.fade = none
      ∧ (v.crossfades.filter fun x => x.left == 0 && x.line == 0).length = 1
      ∧ t.voices[15].glideOf 0 = some ⟨0, 5, 10, 0⟩ ∧ t.voices[15].glideOf 1 = some ⟨1, 5, 10, 3⟩ ∧ t.voices[15].glideOf 2 = none
      ∧ (0 : LineId).val < Alg.tape.lineCount ∧ t.slots[15].lines[(0 : LineId).val]? = some ⟨63, none, .steady, none⟩
      ∧ t.pool.countOf (t.voiceRegion 15 0 ⟨63, none, .steady, none⟩) = 20
      ∧ 20 < requiredPages t.rate .tape t.slots[15].active 0 ∧ m.total ≤ m.done + 1
      ∧ (Alg.tape.locked (Alg.tape.morphBank 12000 m 1 Alg.tape.defaults)) = true ∧ m.morphing.getLsbD 2 = true := by
  decide +kernel

theorem witness_FadeEndTaken :
    let s := { withSlot { slotOf .fading .tape with next := some .hall } with fadeReports := [15] }
    let c := { withSlot (slotOf .fading .tape) with fadeReports := [15] }
    s.fadeReports.contains 15 = true ∧ s.slots[15].state = .fading ∧ s.slots[15].next = some .hall
      ∧ (s.pool.allocate 15 (allocationSizes s.rate .hall (s.nextBank 15 .hall))).toOption.isSome = true
      ∧ ({ s.pool with runs := [] }.allocate 15 (allocationSizes s.rate .hall (s.nextBank 15 .hall))).toOption = none
      ∧ c.slots[15].next = none ∧ c.slots[15].state = .fading ∧ s.entries[15] = none := by decide +kernel

/-- A TAPE line of slot 15 on entry 63, relocating from entry 0. -/
def relocating : Line := { current := 63, retiring := some 0, growth := .relocating, deferred := none }

/-- R64, R17: a line in a crossfade is written in both regions, frozen or not; a frozen line outside one keeps its words. -/
theorem test_written_regions :
    let frozen : Slot := { slotOf .running .tape with active := Alg.tape.defaults.set 8 1 }
    let crossfading : Voice := { Voice.reset with crossfades := [⟨0, 16, 100⟩] }
    let x : State := { withSlot frozen with voices := Vector.replicate 16 crossfading }
    frozen.frozen = true ∧ x.writtenRegions 15 0 relocating = [63, 0]
      ∧ (withSlot frozen).writtenRegions 15 0 relocating = [] := by decide +kernel

theorem witness_CrossfadeAndQuietFadeEnd :
    let s := { withSlot { slotOf .running .tape with lines := [relocating] } with crossfadeReports := [(15, 0)] }
    s.crossfadeReports.contains (15, 0) = true ∧ s.slots[15].lines[(0 : LineId).val]? = some relocating
      ∧ relocating.retiring = some 0 ∧ relocating.deferred = none
      ∧ { up with quietReport := true }.quietReport = true := by decide +kernel

/-! ### Witnesses: the pool's events -/

theorem witness_ClearJobsEnd :
    let region := pooled ⟨.zeroing, 0, 30, none, some (15, 0)⟩ ⟨.region, 63, false⟩ 28
    let ext := pooled ⟨.live, 0, 20, some 10, none⟩ ⟨.extension, 63, false⟩ 29
    let owned := { pooled ⟨.live, 0, 20, some 10, some (15, 0)⟩ ⟨.extension, 63, false⟩ 29 with
      slots := up.slots.set (15 : SlotId) { slotOf .running .tape with
        lines := [{ current := 63, retiring := none, growth := .extending, deferred := none }] } }
    let cancelled := pooled ⟨.abandoned, 0, 30, none, none⟩ ⟨.region, 63, true⟩ 3
    region.pool.progress = some ⟨0, 30, 28⟩ ∧ region.pool.entries[63] = some ⟨.zeroing, 0, 30, none, some (15, 0)⟩
      ∧ region.pool.jobs = ⟨.region, 63, false⟩ :: [] ∧ region.pending = [] ∧ region.sweep = none ∧ 28 + 1 < 30
      ∧ ext.pool.entries[63] = some ⟨.live, 0, 20, some 10, none⟩ ∧ ext.pool.jobs = ⟨.extension, 63, false⟩ :: []
      ∧ owned.slots[15].lines[(0 : LineId).val]?.isSome = true ∧ owned.pool.jobs = ⟨.extension, 63, false⟩ :: []
      ∧ cancelled.pool.jobs = ⟨.region, 63, true⟩ :: [] ∧ 0 < 30 + (none : Option Nat).getD 0 := by decide +kernel

theorem witness_RegionReportTaken :
    let pool := { (pooled ⟨.live, 0, 30, none, some (15, 0)⟩ ⟨.region, 0, false⟩ 0).pool with liveReports := [63] }
    let one : Line := { current := 63, retiring := none, growth := .steady, deferred := none }
    let s := { withSlot { slotOf .preparing .tape with lines := [one] } with pool := pool }
    let two := { withSlot { slotOf .preparing .tape with lines := [one, { one with current := 62 }] } with pool := pool }
    let r := { withSlot { slotOf .running .tape with lines := [relocating] } with pool := pool }
    let later := { withSlot { slotOf .running .tape with lines := [one] } with pool := pool }
    s.pool.liveReports.contains 63 = true ∧ s.pool.entries[63] = some ⟨.live, 0, 30, none, some (15, 0)⟩
      ∧ s.slots[15].lines[(0 : LineId).val]? = some one ∧ s.slots[15].state = .preparing
      ∧ (∀ k ∈ s.slots[15].lines, s.pool.entries[k.current].any (·.state == .live) = true)
      ∧ ¬ (∀ k ∈ two.slots[15].lines, two.pool.entries[k.current].any (·.state == .live) = true)
      ∧ ({ Voice.reset with glides := [⟨0, 5, 10, 3⟩] } : Voice).glideOf 0 = some ⟨0, 5, 10, 3⟩
      ∧ r.slots[15].state ≠ .preparing ∧ relocating.growth = .relocating ∧ relocating.current = 63
      ∧ r.stopped = false ∧ { r with stopped := true }.stopped = true
      ∧ later.slots[15].state ≠ .preparing ∧ later.slots[15].lines[(0 : LineId).val]? = some one ∧ one.growth ≠ .relocating
      ∧ ({ one with current := (62 : EntryId) } : Line).current ≠ 63 := by decide +kernel

/-! ### Witnesses: supply and power -/

theorem witness_QuietDecision :
    taken up (ownCommand 1 0x60 []) ∧ up.power = .ready ∧ up.audio.clock = .lost ∧ (playing 0).audio.clock = .present
      ∧ taken (playing 0) (ownCommand 1 0x60 []) ∧ up.recallRecord.state ≠ .running
      ∧ taken { up with power := .quiet } (ownCommand 1 0x60 []) := by decide +kernel

/-- R70, R8: a MUTE while the Voice Engine is stopped mutes the slot and leaves its voice. -/
theorem test_mute_while_stopped :
    let s := { withSlot (slotOf .running .hall) with
      power := .quiet, stopped := true, voices := up.voices.set (15 : SlotId) { Voice.reset with begun := true, gain := 1 } }
    let u := after (exec (.mute .a 1 [15]) s)
    u.slots[15].state = .muted ∧ u.voices[15] = s.voices[15] := by decide +kernel

/-- R69, R70, R62: after a WAKE in the quiet fade no return is left to send and no peak stands. -/
theorem test_wake_is_silent :
    let s := { playing 3 with
      power := .quiet, audio := { (playing 3).audio with returns := [Vector.replicate 16 1] },
      voices := up.voices.set (15 : SlotId) { Voice.reset with peak := true } }
    let u := after (exec (.wake .a 1 []) s)
    u.power = .ready ∧ u.audio.returns = [] ∧ u.voices[15].peak = false := by decide +kernel

theorem witness_WakeDecision :
    taken { up with power := .quiet } (ownCommand 1 0x61 []) ∧ taken up (ownCommand 1 0x61 [])
      ∧ (withSlot (slotOf .fading .hall)).slots[15].state = .fading ∧ up.slots[15].lines = [] := by decide +kernel

/-- The clauses of `WakeDecision` on a line: LIVE with an extension, ZEROING, and a deferred requirement that can and cannot be placed. -/
theorem witness_WakeDecision_line :
    let v := needy .running [⟨40, 40⟩] (some 21) .steady
    let none_ := needy .running [⟨40, 9⟩] (some 21) .steady
    let q := v.pool.rezero 63
    v.slots[15].lines ≠ [] ∧ v.slots[15].lines.length ≤ 4 ∧ v.slots[15].lines[(0 : LineId).val]? = some ⟨63, none, .steady, some 21⟩
      ∧ v.slots[15].algorithm = some .tape ∧ v.pool.entries[63] = some ⟨.live, 0, 20, none, some (15, 0)⟩
      ∧ (pooled ⟨.zeroing, 0, 30, none, some (15, 0)⟩ ⟨.region, 63, false⟩ 3).pool.entries[63]
          = some ⟨.zeroing, 0, 30, none, some (15, 0)⟩
      ∧ (none : Option EntryId) ≠ some 63 ∧ q.countOf 63 < 21
      ∧ ((q.giveBack 63).place (allocationSize .tape 21) 15 0).toOption.isSome = true
      ∧ (((none_.pool.rezero 63).giveBack 63).place (allocationSize .tape 21) 15 0).toOption = none
      ∧ (pooled ⟨.live, 0, 20, some 10, some (15, 0)⟩ ⟨.extension, 63, false⟩ 3).pool.inProgress .extension 63 = true := by
  decide +kernel

theorem witness_EntriesToStarting :
    taken up (ownCommand 1 0x62 []) ∧ State.reset.power = .starting ∧ State.reset.startKind = .power ∧ up.power ≠ .starting := by
  decide +kernel

theorem witness_StartUp :
    State.reset.power = .starting ∧ 2900 < 2901 ∧ State.reset.sweep = none ∧ State.reset.pending = []
      ∧ { State.reset with sweep := some 4095 }.sweep ≠ none ∧ 4095 < 4096 ∧ 2800 ≤ 2800 ∧ 2799 < 2800
      ∧ State.reset.startKind = .power ∧ { State.reset with startKind := .pin }.startKind = .pin
      ∧ (⟨true, true, true, 3049, true⟩ : StartPins).supplyMillivolts < 3050
      ∧ 3050 ≤ (⟨false, false, false, 3050, false⟩ : StartPins).supplyMillivolts := by decide +kernel

theorem witness_SupplyMonitor :
    up.power ≠ .starting ∧ up.supply = .normal ∧ 3049 < 3050 ∧ 2800 ≤ 3049 ∧ 2799 < 2800 ∧ { up with supply := .low }.supply = .low ∧ 3100 < 3101 := by
  decide +kernel

/-! ### Witnesses: the invariants hold where a step starts -/

theorem witness_StepKeeps : step up = .next up := rfl

theorem witness_StepKeepsLoadWithinBudget : up.loadOk := by
  refine ⟨?_, ?_, ?_⟩ <;> decide +kernel

theorem witness_StepKeepsCredits : up.creditsOk := by intro p; cases p <;> decide +kernel

theorem witness_StepKeepsHolds : up.holdsOk := by
  refine ⟨?_, ?_⟩
  · intro n; revert n; unfold Hold.ok; decide +kernel
  · intro p; cases p <;> decide +kernel

theorem witness_StepKeepsTempo : up.tempoOk := by
  refine ⟨by decide +kernel, ?_, by decide +kernel⟩
  intro v h
  simpa [up, State.reset, TempoUnit.reset, TempoUnit.offer] using h

theorem witness_StepKeepsSound :
    up.audio.sends.length < 32 ∧ up.audio.returns = [] ∧ up.audio.output = Vector.replicate 16 0
      ∧ (∀ n : SlotId, up.voices[n].gain = 0 ∧ up.voices[n].fade = none) ∧ up.supplyGain = GainFade.reset
      ∧ up.quietGain = GainFade.reset ∧ (0 : Rat) ≤ 0 ∧ (0 : Rat) ≤ 1 ∧ (1 : Rat) ≤ 1 := by decide +kernel

theorem witness_StepKeepsTables :
    up.tapsOk ∧ up.modulation.lfsr ≠ 0 ∧ (∀ n : SlotId, up.morphs[n] = none) ∧ (∀ k : SceneId, up.scenes[k].entries = []) := by
  refine ⟨⟨by decide +kernel, by decide +kernel⟩, ?_, ?_, ?_⟩ <;> decide +kernel

end Sys2Proof.Tests
end

namespace Sys2Proof.Machine

/-! ### Waiting sets, holds and results: what they leave of the tables -/

section
variable (s : State) (n : SlotId)

/-- The tables of the slots, and the Voice Engine's reports in flight. -/
def State.tables (s : State) : Vector Slot 16 × Vector (Option Morph) 16 × Vector (Option SceneEntry) 16 × Vector Voice 16
    × List SlotId × List (SlotId × LineId) :=
  (s.slots, s.morphs, s.entries, s.voices, s.fadeReports, s.crossfadeReports)

theorem State.leaveWaiting_tables : (s.leaveWaiting n).tables = s.tables := by
  unfold State.leaveWaiting; dsimp only; split_ifs <;> rfl

theorem State.recallFailed_tables : (s.recallFailed n).tables = s.tables := by
  unfold State.recallFailed; split_ifs
  · rw [State.leaveWaiting_tables]; rfl
  · rfl

theorem State.renew_tables (p : Port) : (s.renew p n).tables = s.tables := by
  unfold State.renew; split_ifs <;> rfl

@[simp] theorem State.leaveWaiting_slots : (s.leaveWaiting n).slots = s.slots := congrArg (·.1) (s.leaveWaiting_tables n)
@[simp] theorem State.leaveWaiting_morphs : (s.leaveWaiting n).morphs = s.morphs := congrArg (·.2.1) (s.leaveWaiting_tables n)
@[simp] theorem State.leaveWaiting_entries : (s.leaveWaiting n).entries = s.entries := congrArg (·.2.2.1) (s.leaveWaiting_tables n)
@[simp] theorem State.leaveWaiting_voices : (s.leaveWaiting n).voices = s.voices := congrArg (·.2.2.2.1) (s.leaveWaiting_tables n)
@[simp] theorem State.leaveWaiting_fadeReports : (s.leaveWaiting n).fadeReports = s.fadeReports :=
  congrArg (·.2.2.2.2.1) (s.leaveWaiting_tables n)
@[simp] theorem State.leaveWaiting_crossfadeReports : (s.leaveWaiting n).crossfadeReports = s.crossfadeReports :=
  congrArg (·.2.2.2.2.2) (s.leaveWaiting_tables n)

@[simp] theorem State.recallFailed_slots : (s.recallFailed n).slots = s.slots := congrArg (·.1) (s.recallFailed_tables n)
@[simp] theorem State.recallFailed_voices : (s.recallFailed n).voices = s.voices := congrArg (·.2.2.2.1) (s.recallFailed_tables n)
@[simp] theorem State.recallFailed_fadeReports : (s.recallFailed n).fadeReports = s.fadeReports :=
  congrArg (·.2.2.2.2.1) (s.recallFailed_tables n)
@[simp] theorem State.recallFailed_crossfadeReports : (s.recallFailed n).crossfadeReports = s.crossfadeReports :=
  congrArg (·.2.2.2.2.2) (s.recallFailed_tables n)

@[simp] theorem State.renew_slots (p : Port) : (s.renew p n).slots = s.slots := congrArg (·.1) (s.renew_tables n p)
@[simp] theorem State.renew_morphs (p : Port) : (s.renew p n).morphs = s.morphs := congrArg (·.2.1) (s.renew_tables n p)
@[simp] theorem State.renew_entries (p : Port) : (s.renew p n).entries = s.entries := congrArg (·.2.2.1) (s.renew_tables n p)
@[simp] theorem State.renew_voices (p : Port) : (s.renew p n).voices = s.voices := congrArg (·.2.2.2.1) (s.renew_tables n p)

end

/-! ### A slot emptied (R3) -/

/-- R3: the record of a slot that has become EMPTY. -/
def Slot.emptied (sl : Slot) : Slot :=
  { Slot.reset with sendSet := sl.sendSet, returnPair := sl.returnPair, clip := sl.clip }

section
variable (s : State) (n : SlotId) (l : LineId)

theorem State.emptySlot_slot : (s.emptySlot n).slots[n] = s.slots[n].emptied := by
  simp only [State.emptySlot, State.raiseBoth_slots, State.leaveWaiting_slots, State.setEntry_slots, State.setMorph_slots,
    State.setSlot_slots, table_get_set_self]
  rfl

theorem State.emptySlot_morph : (s.emptySlot n).morphs[n] = none := by
  simp only [State.emptySlot, State.raiseBoth_morphs, State.leaveWaiting_morphs, State.setEntry_morphs, State.setMorph_morphs,
    table_get_set_self]

theorem State.emptySlot_entry : (s.emptySlot n).entries[n] = none := by
  simp only [State.emptySlot, State.raiseBoth_entries, State.leaveWaiting_entries, State.setEntry_entries, table_get_set_self]

theorem State.emptySlot_voices : (s.emptySlot n).voices = (s.endVoice n).voices := by
  simp only [State.emptySlot, State.raiseBoth_voices, State.leaveWaiting_voices, State.setEntry_voices, State.setMorph_voices,
    State.setSlot_voices]
  rfl

theorem State.endVoice_voice : (s.endVoice n).voices[n] = { s.voices[n] with
    begun := false, beginRequested := false, gain := 0, fade := none, inputOpen := false, crossfades := [], glides := [],
    modulation := none } := table_get_set_self _ _ _

theorem State.emptySlot_pool : (s.emptySlot n).pool = (s.giveBackLines s.slots[n].lines).pool := by
  simp [State.emptySlot]

/-- R50: a slot without lines is not clamped. -/
theorem State.updateClamped_emptied {t : State} (h : s.slots[n] = t.slots[n].emptied) :
    (s.updateClamped n).slots[n] = t.slots[n].emptied := by
  have short : ∀ k, s.lineShort n k = false := fun k => by
    unfold State.lineShort; rw [h]; rfl
  simp only [State.updateClamped, State.setSlot_slots, table_get_set_self, h]
  simp [short, Slot.emptied, Slot.reset]

end

/-! ### The evaluation of needs, by whether a replacement fails (R44, R52) -/

section
variable (s : State) (n : SlotId) (l : LineId)

/-- A replacement changes the slot's lines alone, or empties the slot with POOL_SHORT where no region can be placed. -/
theorem State.replaceRegion_cases (k : Nat) :
    (s.replaceRegion n l k).slotCore n = s.slotCore n ∨ s.emptiedFrom (s.replaceRegion n l k) n := by
  unfold State.replaceRegion; split
  · split
    · left; rw [State.setLine_slotCore, State.setPool_slotCore]
    · right
      refine ⟨?_, State.emptySlot_flagged _ (State.recallFailed_flagged _ _ (State.flagged_raiseBoth _ _)),
        State.emptySlot_slotEmpty _⟩
      rw [State.emptySlot_slot]; simp; rfl
  · left; rfl

theorem State.updateClamped_emptiedFrom {t : State} (h : t.emptiedFrom s n) : t.emptiedFrom (s.updateClamped n) n := by
  obtain ⟨hslot, hshort, hempty⟩ := h
  exact ⟨s.updateClamped_emptied n hslot, State.flagged_of_ports rfl rfl hshort, State.flagged_of_ports rfl rfl hempty⟩

/-- States that agree on what an evaluation leaves alone agree on what is left of an emptied slot. -/
theorem State.emptiedFrom_of_slotCore {t u : State} (hc : t.slotCore n = s.slotCore n) (h : t.emptiedFrom u n) :
    s.emptiedFrom u n := by
  obtain ⟨hslot, hflags⟩ := h
  refine ⟨?_, hflags⟩
  rw [hslot, State.slotCore_slot hc]

/-- R52: the line whose replacement fails empties the slot. -/
theorem State.evalNeed_of_replacementFails (h : s.replacementFails n l) : s.emptiedFrom (s.evalNeed n l) n := by
  obtain ⟨ln, a, f, hstate, hline, halg, hgrowth, hneed, hplace⟩ := h
  have need : s.need n l = requiredPages s.rate a s.slots[n].shadow l := by unfold State.need; rw [halg]
  have promise : s.pool.promise ln = s.pool.countOf ln.current := by unfold Pool.promise; rw [hgrowth]
  have above : s.needAbove n l ln (s.need n l) = s.replaceRegion n l (s.need n l) := by
    unfold State.needAbove; rw [if_pos hgrowth, if_pos hstate]
  have whole : s.evalNeed n l = (s.replaceRegion n l (s.need n l)).updateClamped n := by
    unfold State.evalNeed
    rw [if_pos (Or.inr (Or.inr hstate)), hline]
    dsimp only
    rw [promise, if_pos (by rw [need]; exact hneed), above]
  rw [whole]
  apply State.updateClamped_emptiedFrom
  unfold State.replaceRegion
  rw [hline, halg, need]
  dsimp only
  rw [hplace]
  refine ⟨?_, State.emptySlot_flagged _ (State.recallFailed_flagged _ _ (State.flagged_raiseBoth _ _)),
    State.emptySlot_slotEmpty _⟩
  rw [State.emptySlot_slot]; simp; rfl

/-- R44: where no replacement fails, an evaluation changes the slot's lines and clamped flag alone. -/
theorem State.evalNeed_of_not_replacementFails (h : ¬ s.replacementFails n l) : (s.evalNeed n l).slotCore n = s.slotCore n := by
  by_cases hp : s.slots[n].state = .preparing
  · unfold State.evalNeed; split_ifs with hstate
    · split
      · rename_i ln hline
        split_ifs with hneed
        · rw [State.updateClamped_slotCore]
          unfold State.needAbove; split_ifs with hgrowth hdeferred
          · have promise : s.pool.promise ln = s.pool.countOf ln.current := by unfold Pool.promise; rw [hgrowth]
            unfold State.replaceRegion; split
            · rename_i ln' a hline' halg
              obtain rfl : ln = ln' := Option.some.inj (hline.symm.trans hline')
              have need : s.need n l = requiredPages s.rate a s.slots[n].shadow l := by unfold State.need; rw [halg]
              split
              · rw [State.setLine_slotCore, State.setPool_slotCore]
              · rename_i f hplace
                rw [promise, need] at hneed
                rw [need] at hplace
                exact absurd ⟨ln, a, f, hp, hline, halg, hgrowth, hneed, hplace⟩ h
            · rfl
          · exact s.setLine_slotCore l _
          · rfl
        · exact s.updateClamped_slotCore
      · rfl
    · rfl
  · exact s.evalNeed_slotCore l hp

/-- R44: the lines listed are evaluated in their order. -/
def State.evalLines (s : State) (n : SlotId) (ls : List LineId) : State := ls.foldl (fun t l => t.evalNeed n l) s

theorem State.evalWritten_eq {a : Alg} (h : s.slots[n].algorithm = some a) (ixs : List ParamIx) :
    s.evalWritten n ixs = s.evalLines n (allLines.filter fun k => ixs.any (a.entersNeed k)) := by
  unfold State.evalWritten State.evalLines; rw [h]

theorem State.evalLines_of_empty (ls : List LineId) (h : s.slots[n].state = .empty) : s.evalLines n ls = s := by
  induction ls with
  | nil => rfl
  | cons k ls ih => exact (congrArg (State.evalLines · n ls) (s.evalNeed_of_empty k h)).trans ih

/-- R52: evaluating lines up to one whose replacement fails empties the slot; the lines after it find it EMPTY. -/
theorem State.evalLines_of_replacementFails (l : LineId) (rest before : List LineId) : ∀ (s : State),
    (s.evalLines n before).replacementFails n l → s.emptiedFrom (s.evalLines n (before ++ l :: rest)) n := by
  have stay : ∀ (s : State) (k : LineId) (ls : List LineId), s.replacementFails n k → s.emptiedFrom (s.evalLines n (k :: ls)) n := by
    intro s k ls h
    have he := s.evalNeed_of_replacementFails n k h
    have hempty : (s.evalNeed n k).slots[n].state = .empty := by rw [he.1]; rfl
    exact ((s.evalNeed n k).evalLines_of_empty n ls hempty).symm ▸ he
  induction before with
  | nil => intro s h; exact stay s l rest h
  | cons k before ih =>
    intro s h
    by_cases hk : s.replacementFails n k
    · exact stay s k _ hk
    · exact State.emptiedFrom_of_slotCore _ _ (s.evalNeed_of_not_replacementFails n k hk) (ih (s.evalNeed n k) h)

/-- R44: where no line's replacement fails, evaluating lines changes the slot's lines and clamped flag alone. -/
theorem State.evalLines_of_not_replacementFails (ls : List LineId) : ∀ (s : State),
    (∀ before l rest, ls = before ++ l :: rest → ¬ (s.evalLines n before).replacementFails n l) →
    (s.evalLines n ls).slotCore n = s.slotCore n := by
  induction ls with
  | nil => intro s _; rfl
  | cons k ls ih =>
    intro s h
    have hk := s.evalNeed_of_not_replacementFails n k (h [] k ls rfl)
    have htail := ih (s.evalNeed n k) fun before l rest e => h (k :: before) l rest (by rw [e]; rfl)
    exact htail.trans hk

/-- R52: what the evaluation of the written indices leaves when it comes to a replacement that fails. -/
theorem State.evalWritten_of_fails {ixs : List ParamIx} (h : s.evaluationFails n ixs) : s.emptiedFrom (s.evalWritten n ixs) n := by
  obtain ⟨a, before, l, rest, halg, hlines, hfails⟩ := h
  rw [s.evalWritten_eq n halg, hlines]
  exact State.evalLines_of_replacementFails n l rest before s hfails

/-- R44: what it leaves when it does not. -/
theorem State.evalWritten_of_not_fails {ixs : List ParamIx} (h : ¬ s.evaluationFails n ixs) :
    (s.evalWritten n ixs).slotCore n = s.slotCore n := by
  cases halg : s.slots[n].algorithm with
  | none => unfold State.evalWritten; rw [halg]
  | some a =>
    rw [s.evalWritten_eq n halg]
    exact State.evalLines_of_not_replacementFails n _ s fun before l rest e hf => h ⟨a, before, l, rest, halg, e, hf⟩

/-- R44, R52: the two together. -/
theorem State.evalWritten_cases (ixs : List ParamIx) :
    (s.evalWritten n ixs).slotCore n = s.slotCore n ∨ s.emptiedFrom (s.evalWritten n ixs) n := by
  by_cases h : s.evaluationFails n ixs
  · exact Or.inr (s.evalWritten_of_fails n h)
  · exact Or.inl (s.evalWritten_of_not_fails n h)

end

end Sys2Proof.Machine

namespace Sys2Proof.Machine

/-! ### What a slot counts (R23), and what may change of it -/

/-- What the load of a slot depends on. -/
def Slot.charge (sl : Slot) : SlotState × Option Alg × Option Alg := (sl.state, sl.algorithm, sl.next)

/-- An EMPTY slot has no algorithm (R1). -/
def Slot.settled (sl : Slot) : Prop := sl.state = .empty → sl.algorithm = none

/-- The slot counts no more than before, is settled if it was, and is EMPTY if it was. -/
structure Slot.EasesTo (a b : Slot) : Prop where
  load : b.load ≤ a.load
  settled : a.settled → b.settled
  empty : a.state = .empty → b.state = .empty

theorem Slot.load_of_charge {a b : Slot} (h : b.charge = a.charge) : b.load = a.load := by
  have hs : b.state = a.state := congrArg (·.1) h
  have ha : b.algorithm = a.algorithm := congrArg (·.2.1) h
  have hn : b.next = a.next := congrArg (·.2.2) h
  unfold Slot.load; rw [hs, ha, hn]

theorem Slot.EasesTo.of_charge {a b : Slot} (h : b.charge = a.charge) : a.EasesTo b := by
  have hs : b.state = a.state := congrArg (·.1) h
  have ha : b.algorithm = a.algorithm := congrArg (·.2.1) h
  refine ⟨(Slot.load_of_charge h).le, fun k e => ?_, fun e => hs.trans e⟩
  rw [ha]; exact k (hs ▸ e)

theorem Slot.EasesTo.trans {a b c : Slot} (h : a.EasesTo b) (k : b.EasesTo c) : a.EasesTo c :=
  ⟨k.load.trans h.load, fun e => k.settled (h.settled e), fun e => k.empty (h.empty e)⟩

/-- R3: an emptied slot counts nothing. -/
theorem Slot.EasesTo.emptied (a b : Slot) : a.EasesTo b.emptied := ⟨Nat.zero_le _, fun _ _ => rfl, fun _ => rfl⟩

/-- A slot that is not EMPTY may take another state that is neither EMPTY nor FADING. -/
theorem Slot.EasesTo.of_state {a b : Slot} (ha : b.algorithm = a.algorithm) (hne : a.state ≠ .empty) (hb : b.state ≠ .empty)
    (hf : b.state ≠ .fading) : a.EasesTo b := by
  refine ⟨?_, fun _ e => absurd e hb, fun e => absurd e hne⟩
  have hb : b.load = a.algorithm.elim 0 Alg.load := by
    unfold Slot.load; rw [ha]; split <;> first | rfl | contradiction
  rw [hb]; unfold Slot.load; split
  · contradiction
  · exact le_max_left _ _
  · exact le_rfl

/-! ### The load of a state (R24) -/

/-- What the load tally, the budget and the power state are made of. -/
def State.loadView (s : State) : (SlotId → SlotState × Option Alg × Option Alg) × Rate × PowerState :=
  (fun n => s.slots[n].charge, s.rate, s.power)

/-- R24 without its clause on STARTING: the tally is within the budget and every slot settled. -/
def State.tallyOk (s : State) : Prop := s.loadTally ≤ s.rate.budget ∧ ∀ n : SlotId, (s.slots[n]).settled

theorem State.loadOk_iff (s : State) :
    s.loadOk ↔ s.tallyOk ∧ (s.power = .starting → ∀ n : SlotId, (s.slots[n]).state = .empty) := and_assoc.symm

/-- The same rate and power, and every slot eased. -/
structure State.Eases (s t : State) : Prop where
  rate : t.rate = s.rate
  power : t.power = s.power
  slot : ∀ n : SlotId, (s.slots[n]).EasesTo t.slots[n]

theorem State.Eases.of_loadView {s t : State} (h : t.loadView = s.loadView) : s.Eases t :=
  ⟨congrArg (·.2.1) h, congrArg (·.2.2) h, fun n => .of_charge (congrFun (congrArg (·.1) h) n)⟩

theorem State.Eases.refl (s : State) : s.Eases s := .of_loadView rfl

theorem State.Eases.trans {s t u : State} (h : s.Eases t) (k : t.Eases u) : s.Eases u :=
  ⟨k.rate.trans h.rate, k.power.trans h.power, fun n => (h.slot n).trans (k.slot n)⟩

/-- A change outside the load view before an operation. -/
theorem State.Eases.after {s t u : State} (h : t.loadView = s.loadView) (k : t.Eases u) : s.Eases u := (of_loadView h).trans k

/-- A change outside the load view after an operation. -/
theorem State.Eases.before {s t u : State} (h : s.Eases t) (k : u.loadView = t.loadView) : s.Eases u := h.trans (of_loadView k)

/-- A fold of steps that each ease the state eases it. -/
theorem State.Eases.foldl {α : Type} {f : State → α → State} (h : ∀ (t : State) (a : α), t.Eases (f t a)) (ls : List α) (s : State) :
    s.Eases (ls.foldl f s) :=
  foldl_holds (fun t => s.Eases t) f (fun t a ht => ht.trans (h t a)) ls s (.refl s)

/-- An operation on one slot eases the state if it eases that slot. -/
theorem State.Eases.of_slot {s t : State} (n : SlotId) (hs : t.surroundings = s.surroundings)
    (ho : ∀ m : SlotId, n ≠ m → t.slotView m = s.slotView m) (hn : (s.slots[n]).EasesTo t.slots[n]) : s.Eases t := by
  refine ⟨(congrArg State.rate hs : t.surroundings.rate = s.surroundings.rate),
    (congrArg State.power hs : t.surroundings.power = s.surroundings.power), fun m => ?_⟩
  by_cases h : n = m
  · subst h; exact hn
  · exact .of_charge (congrArg (fun v => v.1.charge) (ho m h))

theorem State.loadTally_le {s t : State} (h : ∀ n : SlotId, (t.slots[n]).load ≤ (s.slots[n]).load) : t.loadTally ≤ s.loadTally :=
  List.sum_le_sum fun n _ => h n

theorem State.tallyOk_of_slots {s t : State} (h : s.tallyOk) (hr : t.rate = s.rate)
    (hl : ∀ n : SlotId, (t.slots[n]).load ≤ (s.slots[n]).load) (hs : ∀ n : SlotId, (t.slots[n]).settled) : t.tallyOk :=
  ⟨(State.loadTally_le hl).trans (hr ▸ h.1), hs⟩

theorem State.Eases.tallyOk {s t : State} (h : s.Eases t) (hs : s.tallyOk) : t.tallyOk :=
  State.tallyOk_of_slots hs h.rate (fun n => (h.slot n).load) fun n => (h.slot n).settled (hs.2 n)

theorem State.Eases.loadOk {s t : State} (h : s.Eases t) (hs : s.loadOk) : t.loadOk := by
  rw [State.loadOk_iff] at *
  exact ⟨h.tallyOk hs.1, fun e n => (h.slot n).empty (hs.2 (h.power ▸ e) n)⟩

/-- States with the same load view are alike for R24. -/
theorem State.loadOk_of_loadView {s t : State} (h : t.loadView = s.loadView) (hs : s.loadOk) : t.loadOk :=
  (State.Eases.of_loadView h).loadOk hs

/-- The tally is one slot's load and that of the others. -/
theorem State.loadTally_split (s : State) (n : SlotId) :
    s.loadTally = (s.slots[n]).load + ((allSlots.erase n).map fun m => (s.slots[m]).load).sum :=
  (List.sum_map_erase (fun m : SlotId => (s.slots[m]).load) (mem_allSlots n)).symm

/-- R24: a change of one slot that fits leaves the tally within the budget. -/
theorem State.tallyOk_of_fits {s t : State} {n : SlotId} {units : Nat} (h : s.tallyOk) (hfit : s.loadFits n units = true)
    (hr : t.rate = s.rate) (ho : ∀ m : SlotId, n ≠ m → t.slotView m = s.slotView m) (hl : (t.slots[n]).load ≤ units)
    (hs : (t.slots[n]).settled) : t.tallyOk := by
  have same : ∀ m : SlotId, n ≠ m → t.slots[m] = s.slots[m] := fun m hm => congrArg (·.1) (ho m hm)
  have rest : ((allSlots.erase n).map fun m => (t.slots[m]).load) = (allSlots.erase n).map fun m => (s.slots[m]).load :=
    List.map_congr_left fun m hm => by rw [same m ((allSlots_nodup.mem_erase_iff.mp hm).1.symm)]
  refine ⟨?_, fun m => ?_⟩
  · have hfit : s.loadTally - (s.slots[n]).load + units ≤ s.rate.budget := of_decide_eq_true hfit
    have hs := s.loadTally_split n
    rw [hr, t.loadTally_split n, rest]
    omega
  · by_cases hm : n = m
    · subst hm; exact hs
    · rw [same m hm]; exact h.2 m

/-! ### What leaves the load view as it is -/

section
variable (s : State) (n : SlotId)

theorem loadView_of_outsideTempo {s t : State} (h : t.outsideTempo = s.outsideTempo) : t.loadView = s.loadView :=
  (congrArg State.loadView h : t.outsideTempo.loadView = s.outsideTempo.loadView)
theorem loadView_of_outsideHolds {s t : State} (h : t.outsideHolds = s.outsideHolds) : t.loadView = s.loadView :=
  (congrArg State.loadView h : t.outsideHolds.loadView = s.outsideHolds.loadView)
theorem loadView_of_outsideScenes {s t : State} (h : t.outsideScenes = s.outsideScenes) : t.loadView = s.loadView :=
  (congrArg State.loadView h : t.outsideScenes.loadView = s.outsideScenes.loadView)

theorem State.setSlot_loadView {v : Slot} (h : v.charge = s.slots[n].charge) : (s.setSlot n v).loadView = s.loadView := by
  refine Prod.ext (funext fun m => ?_) rfl
  simp only [State.loadView, State.setSlot_slots, table_get_set]
  split_ifs with hm
  · subst hm; exact h
  · rfl

@[simp] theorem State.setPort_loadView (p : Port) (v : PortState) : (s.setPort p v).loadView = s.loadView := by cases p <;> rfl
@[simp] theorem State.raise_loadView (p : Port) (f : Flag) : (s.raise p f).loadView = s.loadView := by cases p <;> rfl
@[simp] theorem State.placeResult_loadView (p : Port) (r : Result) : (s.placeResult p r).loadView = s.loadView := by cases p <;> rfl
@[simp] theorem State.raiseBoth_loadView (f : Flag) : (s.raiseBoth f).loadView = s.loadView := rfl
@[simp] theorem State.setPool_loadView (q : Pool) : (s.setPool q).loadView = s.loadView := rfl
@[simp] theorem State.startClearing_loadView : s.startClearing.loadView = s.loadView := rfl
@[simp] theorem State.setVoice_loadView (v : Voice) : (s.setVoice n v).loadView = s.loadView := rfl
@[simp] theorem State.setMorph_loadView (v : Option Morph) : (s.setMorph n v).loadView = s.loadView := rfl
@[simp] theorem State.setEntry_loadView (v : Option SceneEntry) : (s.setEntry n v).loadView = s.loadView := rfl
@[simp] theorem State.setTempo_loadView (u : TempoUnit) : (s.setTempo u).loadView = s.loadView := rfl
@[simp] theorem State.setModulation_loadView (m : ModulationUnit) : (s.setModulation m).loadView = s.loadView := rfl
@[simp] theorem State.setScene_loadView (k : SceneId) (v : Scene) : (s.setScene k v).loadView = s.loadView := rfl
@[simp] theorem State.endVoice_loadView : (s.endVoice n).loadView = s.loadView := rfl
@[simp] theorem State.followInput_loadView : (s.followInput n).loadView = s.loadView := rfl
@[simp] theorem State.handResync_loadView : s.handResync.loadView = s.loadView := rfl
@[simp] theorem State.joinWaiting_loadView : (s.joinWaiting n).loadView = s.loadView := rfl
@[simp] theorem State.renew_loadView (p : Port) : (s.renew p n).loadView = s.loadView :=
  loadView_of_outsideHolds (s.renew_outsideHolds n p)
@[simp] theorem State.releaseHolds_loadView (p : Port) (ls : List SlotId) : (s.releaseHolds p ls).loadView = s.loadView :=
  loadView_of_outsideHolds (s.releaseHolds_outsideHolds p ls)
@[simp] theorem State.takeHolds_loadView (p : Port) (ls : List SlotId) : (s.takeHolds p ls).loadView = s.loadView :=
  loadView_of_outsideHolds (s.takeHolds_outsideHolds p ls)
@[simp] theorem State.renewAll_loadView (p : Port) (ls : List SlotId) : (s.renewAll p ls).loadView = s.loadView :=
  loadView_of_outsideHolds (s.renewAll_outsideHolds p ls)
@[simp] theorem State.expireHold_loadView : (s.expireHold n).loadView = s.loadView :=
  loadView_of_outsideHolds (s.expireHold_outsideHolds n)
@[simp] theorem State.tickHold_loadView : (s.tickHold n).loadView = s.loadView :=
  loadView_of_outsideHolds (s.tickHold_outsideHolds n)
@[simp] theorem State.verifyScene_loadView (k : SceneId) : (s.verifyScene k).loadView = s.loadView :=
  loadView_of_outsideScenes (s.verifyScene_outsideScenes k)
@[simp] theorem State.storeSweep_loadView : s.storeSweep.loadView = s.loadView :=
  loadView_of_outsideScenes s.storeSweep_outsideScenes
@[simp] theorem State.reevaluate_loadView : s.reevaluate.loadView = s.loadView := loadView_of_outsideTempo s.reevaluate_outsideTempo
@[simp] theorem State.writeControl_loadView (v : Nat) : (s.writeControl v).loadView = s.loadView :=
  loadView_of_outsideTempo (s.writeControl_outsideTempo v)
@[simp] theorem State.enterTap_loadView (v : Nat) : (s.enterTap v).loadView = s.loadView :=
  loadView_of_outsideTempo (s.enterTap_outsideTempo v)
@[simp] theorem State.linkLost_loadView : s.linkLost.loadView = s.loadView := loadView_of_outsideTempo s.linkLost_outsideTempo
@[simp] theorem State.linkBytes_loadView (b : List LinkByte) (v : Nat) : (s.linkBytes b v).loadView = s.loadView :=
  loadView_of_outsideTempo (s.linkBytes_outsideTempo b v)

@[simp] theorem State.leaveWaiting_loadView : (s.leaveWaiting n).loadView = s.loadView := by
  unfold State.leaveWaiting; dsimp only; split_ifs <;> rfl

@[simp] theorem State.recallFailed_loadView : (s.recallFailed n).loadView = s.loadView := by
  unfold State.recallFailed; split_ifs
  · rw [State.leaveWaiting_loadView]; rfl
  · rfl

@[simp] theorem State.abortRecall_loadView : s.abortRecall.loadView = s.loadView := by
  unfold State.abortRecall; split_ifs <;> rfl

@[simp] theorem State.removeMorph_loadView : (s.removeMorph n).loadView = s.loadView := by
  unfold State.removeMorph; split
  · rfl
  · rw [State.leaveWaiting_loadView, State.setMorph_loadView]

@[simp] theorem State.endMorphing_loadView (ixs : List ParamIx) : (s.endMorphing n ixs).loadView = s.loadView := by
  unfold State.endMorphing; dsimp only; split
  · rfl
  · split_ifs
    · exact s.removeMorph_loadView n
    · exact s.setMorph_loadView n _

@[simp] theorem State.removeEntry_loadView : (s.removeEntry n).loadView = s.loadView := by
  unfold State.removeEntry; split
  · rfl
  · rw [State.leaveWaiting_loadView, State.setEntry_loadView]

@[simp] theorem State.requestFade_loadView (g : Rat) (k : Nat) : (s.requestFade n g k).loadView = s.loadView := by
  unfold State.requestFade; split_ifs <;> rfl

@[simp] theorem State.soundMute_loadView (g : Rat) : (s.soundMute n g).loadView = s.loadView := by
  unfold State.soundMute; split_ifs
  · rfl
  · rw [State.followInput_loadView, State.requestFade_loadView]

@[simp] theorem State.updateClamped_loadView : (s.updateClamped n).loadView = s.loadView := s.setSlot_loadView n rfl
@[simp] theorem State.setLine_loadView (l : LineId) (v : Line) : (s.setLine n l v).loadView = s.loadView := s.setSlot_loadView n rfl
@[simp] theorem State.writeShadow_loadView (b : Bank) : (s.writeShadow n b).loadView = s.loadView := s.setSlot_loadView n rfl
@[simp] theorem State.takeRouting_loadView (e : SceneEntry) : (s.takeRouting n e).loadView = s.loadView := s.setSlot_loadView n rfl
@[simp] theorem State.routeSlot_loadView (a : SendSet) (b : PairId) : (s.routeSlot n a b).loadView = s.loadView :=
  s.setSlot_loadView n rfl
@[simp] theorem State.swap_loadView : (s.swap n).loadView = s.loadView := s.setSlot_loadView n rfl

@[simp] theorem State.startCrossfade_loadView (l : LineId) : (s.startCrossfade n l).loadView = s.loadView := by
  unfold State.startCrossfade State.addCrossfade; split_ifs <;> simp

@[simp] theorem State.takePending_loadView : (s.takePending n).loadView = s.loadView := by
  unfold State.takePending; split <;> simp

end

/-! ### What eases the state -/

section
variable (s : State) (n : SlotId) (l : LineId)

/-- The core of a slot holds its charge. -/
theorem State.charge_of_slotCore {s t : State} {n : SlotId} (h : t.slotCore n = s.slotCore n) :
    t.slots[n].charge = s.slots[n].charge := congrArg (fun x => x.1.charge) h

/-- A slot whose lines and clamped flag alone change, or that is emptied, is eased. -/
theorem Slot.EasesTo.of_cases {s t : State} {n : SlotId} (h : t.slotCore n = s.slotCore n ∨ s.emptiedFrom t n) :
    (s.slots[n]).EasesTo t.slots[n] := by
  rcases h with h | h
  · exact .of_charge (State.charge_of_slotCore h)
  · have e : t.slots[n] = (s.slots[n]).emptied := h.1
    rw [e]; exact .emptied _ _

theorem State.emptySlot_eases : s.Eases (s.emptySlot n) :=
  .of_slot n (by simp) (fun m h => s.emptySlot_slotView h) (by rw [State.emptySlot_slot]; exact .emptied _ _)

theorem State.replaceRegion_eases (k : Nat) : s.Eases (s.replaceRegion n l k) :=
  .of_slot n (by simp) (fun m h => s.replaceRegion_slotView l h k) (.of_cases (s.replaceRegion_cases n l k))

theorem State.startGrowth_eases (k : Nat) : s.Eases (s.startGrowth n l k) :=
  .of_slot n (by simp) (fun m h => s.startGrowth_slotView l h k) (.of_cases (Or.inl (s.startGrowth_slotCore l k)))

theorem State.evalWritten_eases (ixs : List ParamIx) : s.Eases (s.evalWritten n ixs) :=
  .of_slot n (by simp) (fun m h => s.evalWritten_slotView h ixs) (.of_cases (s.evalWritten_cases n ixs))

theorem State.growthEnd_eases : s.Eases (s.growthEnd n l) := by
  unfold State.growthEnd; split
  · dsimp only
    split
    · split_ifs
      · refine .before ?_ (State.updateClamped_loadView _ n)
        exact .after (s.setLine_loadView n l _) (State.startGrowth_eases _ n l _)
      · exact .of_loadView (by simp)
    · exact .of_loadView (by simp)
  · exact .refl s

theorem State.fadeEnded_eases (h : s.slots[n].state = .fading) : s.Eases (s.fadeEnded n) := by
  have start : s.Eases ((s.giveBackLines s.slots[n].lines).endVoice n) := .of_loadView (by simp [State.giveBackLines])
  refine .of_slot n (by simp) (fun m hm => s.fadeEnded_slotView hm) ?_
  unfold State.fadeEnded; dsimp only; split
  · exact (start.trans (State.emptySlot_eases _ n)).slot n
  · rename_i a hnext
    split
    · have keep := fun t : State => (State.Eases.of_loadView (t.takePending_loadView n)).slot n
      refine .trans ⟨?_, fun _ e => ?_, fun e => ?_⟩ (keep _)
      · have before : s.slots[n].load = max (s.slots[n].algorithm.elim 0 Alg.load) a.load := by
          unfold Slot.load; rw [h, hnext]; rfl
        simp only [State.prepare, State.setSlot_slots, table_get_set_self, before]
        exact le_max_right _ _
      · simp only [State.prepare, State.setSlot_slots, table_get_set_self] at e; cases e
      · rw [h] at e; cases e
    · refine (start.trans (.after ?_ (State.emptySlot_eases _ n))).slot n
      rw [State.recallFailed_loadView, State.raiseBoth_loadView]

theorem State.forceFadeEnds_eases : s.Eases s.forceFadeEnds := by
  unfold State.forceFadeEnds
  refine .foldl (fun t k => ?_) _ _
  split_ifs with h
  · exact t.fadeEnded_eases k h
  · exact .refl t

theorem State.crossfadeEnded_eases : s.Eases (s.crossfadeEnded n l) := by
  unfold State.crossfadeEnded; split
  · split
    · exact .after (by simp) (State.growthEnd_eases _ n l)
    · exact .refl s
  · exact .refl s

theorem State.endPreparation_eases (h : s.slots[n].state = .preparing) : s.Eases (s.endPreparation n) := by
  have started : s.Eases (s.setSlot n { s.slots[n] with state := if s.slots[n].muteWanted then .muted else .running }) := by
    refine .of_slot n rfl (fun m hm => s.setSlot_slotView hm _) ?_
    rw [State.setSlot_slots, table_get_set_self]
    exact .of_state rfl (by rw [h]; decide) (by dsimp only; split_ifs <;> decide) (by dsimp only; split_ifs <;> decide)
  exact started.trans (.of_loadView (by unfold State.endPreparation; simp))

theorem State.takeLiveReport_eases (ln : Line) : s.Eases (s.takeLiveReport n l ln) := by
  unfold State.takeLiveReport; split_ifs with h
  · exact s.endPreparation_eases n h
  · exact .refl s
  · exact .of_loadView (by simp)
  · exact .refl s

theorem State.propagateTo_eases (tempo : Nat) : s.Eases (State.propagateTo tempo s n) := by
  unfold State.propagateTo; split_ifs
  · split
    · exact .after (by simp) (State.evalWritten_eases _ n _)
    · exact .refl s
  · exact .refl s

theorem State.morphStep_eases : s.Eases (s.morphStep n) := by
  unfold State.morphStep; split
  · dsimp only
    have written : ∀ v b ixs, s.Eases (((s.setMorph n v).writeShadow n b).evalWritten n ixs) := fun v b ixs =>
      .after (by simp) (State.evalWritten_eases _ n ixs)
    split_ifs
    · exact .before (written _ _ _) (State.removeMorph_loadView _ n)
    · exact written _ _ _
  · exact .refl s

theorem State.writeParams_eases (a : Alg) (prs : List (ParamIx × Int)) : s.Eases (s.writeParams n a prs) := by
  unfold State.writeParams
  exact .before (.after (by simp) (State.evalWritten_eases _ n _)) (State.startClearing_loadView _)

theorem State.muteSlot_eases : s.Eases (s.muteSlot n) := by
  unfold State.muteSlot; split
  · rename_i h
    refine .before ?_ (State.soundMute_loadView _ n _)
    refine .of_slot n rfl (fun m hm => s.setSlot_slotView hm _) ?_
    rw [State.setSlot_slots, table_get_set_self]
    exact .of_state rfl (by rw [h]; decide) nofun nofun
  · exact .of_loadView (s.setSlot_loadView n rfl)
  · exact .refl s

theorem State.unmuteSlot_eases : s.Eases (s.unmuteSlot n) := by
  unfold State.unmuteSlot; split
  · rename_i h
    refine .before ?_ (State.soundMute_loadView _ n _)
    refine .of_slot n rfl (fun m hm => s.setSlot_slotView hm _) ?_
    rw [State.setSlot_slots, table_get_set_self]
    exact .of_state rfl (by rw [h]; decide) nofun nofun
  · exact .of_loadView (s.setSlot_loadView n rfl)
  · exact .refl s

theorem State.recallRouting_eases (e : SceneEntry) : s.Eases (s.recallRouting n e) := by
  unfold State.recallRouting; dsimp only
  refine .after (s.routeSlot_loadView n e.sendSet e.returnPair) ?_
  split_ifs
  · exact State.muteSlot_eases _ n
  · exact State.unmuteSlot_eases _ n

theorem State.recallSame_eases (e : SceneEntry) (k : Nat) : s.Eases (s.recallSame n e k).1 := by
  unfold State.recallSame; dsimp only
  refine State.Eases.trans (s.recallRouting_eases n e) ?_
  split_ifs
  · unfold State.makeMorph
    exact .before (.after (by simp) (State.evalWritten_eases _ n _)) (State.joinWaiting_loadView _ n)
  · unfold State.cutParams
    exact .after (by simp) (State.evalWritten_eases _ n _)

theorem State.recallPreparing_eases (e : SceneEntry) : s.Eases (s.recallPreparing n e).1 := by
  have t := State.Eases.after (s := s) (t := (s.takeRouting n e).writeShadow n (s.entryBank e)) (by simp)
    (State.evalWritten_eases _ n allParams)
  unfold State.recallPreparing; dsimp only; split_ifs
  · exact t.trans (.of_loadView (by simp))
  · exact t

end

end Sys2Proof.Machine

namespace Sys2Proof.Machine

/-! ### Decisions that leave the load view -/

theorem setTempoDecision_loadView (b : List Byte) (s : State) : (setTempoDecision b s).state.loadView = s.loadView := by
  unfold setTempoDecision; repeat' split
  all_goals simp
theorem setTempoSourceDecision_loadView (b : List Byte) (s : State) :
    (setTempoSourceDecision b s).state.loadView = s.loadView := by
  unfold setTempoSourceDecision; repeat' split
  all_goals simp
theorem tapDecision_loadView (b : List Byte) (v : Nat) (s : State) : (tapDecision b v s).state.loadView = s.loadView := by
  unfold tapDecision; split <;> simp
theorem readTempoDecision_loadView (b : List Byte) (s : State) : (readTempoDecision b s).state.loadView = s.loadView := by
  unfold readTempoDecision; split <;> simp
theorem setTapOptionsDecision_loadView (b : List Byte) (s : State) : (setTapOptionsDecision b s).state.loadView = s.loadView := by
  unfold setTapOptionsDecision; repeat' split
  all_goals simp
theorem setLfoDecision_loadView (p : Port) (b : List Byte) (s : State) : (setLfoDecision p b s).state.loadView = s.loadView := by
  unfold setLfoDecision; repeat' split
  all_goals simp
theorem seedRandomDecision_loadView (b : List Byte) (s : State) : (seedRandomDecision b s).state.loadView = s.loadView := by
  unfold seedRandomDecision; repeat' split
  all_goals simp
theorem setRandomModeDecision_loadView (b : List Byte) (s : State) : (setRandomModeDecision b s).state.loadView = s.loadView := by
  unfold setRandomModeDecision; repeat' split
  all_goals simp
theorem Verdict.renewed_loadView (v : Verdict) (p : Port) (n : SlotId) : (v.renewed p n).state.loadView = v.state.loadView := by
  unfold Verdict.renewed; split_ifs <;> simp
theorem routeDecision_loadView (p : Port) (b : List Byte) (s : State) : (routeDecision p b s).state.loadView = s.loadView := by
  unfold routeDecision; repeat' split
  all_goals simp [Verdict.renewed_loadView]
theorem readSlotDecision_loadView (p : Port) (b : List Byte) (s : State) :
    (readSlotDecision p b s).state.loadView = s.loadView := by
  have clip : ∀ n, (s.clearClip p n).loadView = s.loadView := fun n => by
    unfold State.clearClip; split_ifs
    · rfl
    · exact s.setSlot_loadView n rfl
  unfold readSlotDecision; repeat' split
  all_goals simp [clip]
theorem readPoolDecision_loadView (b : List Byte) (s : State) : (readPoolDecision b s).state.loadView = s.loadView := by
  unfold readPoolDecision; split <;> simp
theorem takeHoldDecision_loadView (p : Port) (b : List Byte) (s : State) :
    (takeHoldDecision p b s).state.loadView = s.loadView := by
  unfold takeHoldDecision; dsimp only; repeat' split
  all_goals simp
theorem releaseHoldDecision_loadView (p : Port) (b : List Byte) (s : State) :
    (releaseHoldDecision p b s).state.loadView = s.loadView := by
  unfold releaseHoldDecision; dsimp only; split <;> simp
theorem setLeaseDecision_loadView (p : Port) (b : List Byte) (s : State) :
    (setLeaseDecision p b s).state.loadView = s.loadView := by
  unfold setLeaseDecision; dsimp only; repeat' split
  all_goals simp
theorem storeSceneDecision_loadView (b : List Byte) (s : State) : (storeSceneDecision b s).state.loadView = s.loadView := by
  unfold storeSceneDecision; dsimp only; repeat' split
  all_goals simp
theorem writeSceneEntryDecision_loadView (b : List Byte) (s : State) :
    (writeSceneEntryDecision b s).state.loadView = s.loadView := by
  unfold writeSceneEntryDecision State.writeEntry; dsimp only; repeat' split
  all_goals simp
theorem eraseSceneDecision_loadView (b : List Byte) (s : State) : (eraseSceneDecision b s).state.loadView = s.loadView := by
  unfold eraseSceneDecision; repeat' split
  all_goals simp
theorem readSceneDecision_loadView (b : List Byte) (s : State) : (readSceneDecision b s).state.loadView = s.loadView := by
  unfold readSceneDecision; repeat' split
  all_goals simp
theorem abortMorphDecision_loadView (p : Port) (b : List Byte) (s : State) :
    (abortMorphDecision p b s).state.loadView = s.loadView := by
  unfold abortMorphDecision State.abortMorphs; dsimp only; repeat' split
  all_goals simp [foldl_keeps State.loadView State.removeMorph State.removeMorph_loadView]
theorem readRecallDecision_loadView (b : List Byte) (s : State) : (readRecallDecision b s).state.loadView = s.loadView := by
  unfold readRecallDecision; split
  · rfl
  · simp
theorem readEventsDecision_loadView (p : Port) (b : List Byte) (s : State) :
    (readEventsDecision p b s).state.loadView = s.loadView := by
  unfold readEventsDecision; split <;> simp
theorem setEventMaskDecision_loadView (p : Port) (b : List Byte) (s : State) :
    (setEventMaskDecision p b s).state.loadView = s.loadView := by
  unfold setEventMaskDecision; repeat' split
  all_goals simp
theorem portResetDecision_loadView (p : Port) (b : List Byte) (s : State) :
    (portResetDecision p b s).state.loadView = s.loadView := by
  unfold portResetDecision; split <;> simp

/-! ### Decisions outside STARTING that keep the tally -/

/-- What a decision starts from and leaves: a part that is not in STARTING, with the tally within the budget. -/
def State.deciding (s : State) : Prop := s.power ≠ .starting ∧ s.tallyOk

theorem State.Eases.deciding {s t : State} (h : s.Eases t) (hs : s.deciding) : t.deciding :=
  ⟨h.power ▸ hs.1, h.tallyOk hs.2⟩

theorem State.deciding_of_loadView {s t : State} (h : t.loadView = s.loadView) (hs : s.deciding) : t.deciding :=
  (State.Eases.of_loadView h).deciding hs

/-- R24: an operation on one slot whose load fits. -/
theorem State.deciding_of_fits {s t : State} {n : SlotId} {units : Nat} (h : s.deciding) (hfit : s.loadFits n units = true)
    (hsur : t.surroundings = s.surroundings) (ho : ∀ m : SlotId, n ≠ m → t.slotView m = s.slotView m)
    (hl : (t.slots[n]).load ≤ units) (hs : (t.slots[n]).settled) : t.deciding := by
  have hp : t.power = s.power := (congrArg State.power hsur : t.surroundings.power = s.surroundings.power)
  have hr : t.rate = s.rate := (congrArg State.rate hsur : t.surroundings.rate = s.surroundings.rate)
  exact ⟨hp ▸ h.1, State.tallyOk_of_fits h.2 hfit hr ho hl hs⟩

theorem Slot.load_preparing {sl : Slot} {a : Alg} {o : Option Alg} (h : sl.charge = (.preparing, some a, o)) : sl.load = a.load :=
  Slot.load_of_charge (b := sl) (a := { Slot.reset with state := .preparing, algorithm := some a, next := o }) h

theorem Slot.load_fading {sl : Slot} {a b : Alg} (h : sl.charge = (.fading, some a, some b)) : sl.load = max a.load b.load :=
  Slot.load_of_charge (b := sl) (a := { Slot.reset with state := .fading, algorithm := some a, next := some b }) h

theorem Slot.settled_of_charge {sl : Slot} {st : SlotState} {o : Option Alg × Option Alg} (h : sl.charge = (st, o))
    (hst : st ≠ .empty) : sl.settled :=
  fun e => absurd ((congrArg (·.1) h).symm.trans e) hst

theorem State.prepare_charge (s : State) (n : SlotId) (a : Alg) (b : Bank) (es : List EntryId) :
    (s.prepare n a b es).slots[n].charge = (.preparing, some a, none) := by
  simp only [State.prepare, State.setSlot_slots, table_get_set_self]; rfl

/-- A change outside the load view keeps every charge. -/
theorem State.charge_of_loadView {s t : State} (h : t.loadView = s.loadView) (n : SlotId) :
    t.slots[n].charge = s.slots[n].charge := congrFun (congrArg (·.1) h) n

theorem State.beginFading_charge (s : State) (n : SlotId) (next : Option Alg) :
    (s.beginFading n next).slots[n].charge = (.fading, s.slots[n].algorithm, next) := by
  unfold State.beginFading
  rw [State.charge_of_loadView (State.followInput_loadView _ n), State.charge_of_loadView (State.requestFade_loadView _ n _ _),
    State.charge_of_loadView (State.removeMorph_loadView _ n), State.setSlot_slots, table_get_set_self]
  rfl

section
variable {s : State} (n : SlotId)

/-- R9: an end fade towards nothing. -/
theorem State.beginFading_none_eases (h : s.slots[n].state = .running ∨ s.slots[n].state = .muted) :
    s.Eases (s.beginFading n none) := by
  have hc := s.beginFading_charge n none
  have hl : (s.beginFading n none).slots[n].load = s.slots[n].load := by
    refine (Slot.load_of_charge (a := { s.slots[n] with state := .fading, next := none }) hc).trans ?_
    rcases h with h | h <;> (unfold Slot.load; rw [h]; exact Nat.max_zero _)
  refine .of_slot n (by simp) (fun m hm => s.beginFading_slotView hm none) ⟨hl.le, fun _ => ?_, fun e => ?_⟩
  · exact Slot.settled_of_charge hc nofun
  · rcases h with h | h <;> (rw [h] at e; cases e)

/-- R9, R24: an end fade towards an algorithm that fits. -/
theorem State.beginFading_deciding (h : s.deciding) {old a : Alg} (halg : s.slots[n].algorithm = some old)
    (hfit : s.loadFits n (max old.load a.load) = true) : (s.beginFading n (some a)).deciding := by
  have hc := s.beginFading_charge n (some a)
  rw [halg] at hc
  exact State.deciding_of_fits h hfit (by simp) (fun m hm => s.beginFading_slotView hm _) (Slot.load_fading hc).le
    (Slot.settled_of_charge hc nofun)

/-- R11, R24: a next algorithm that fits. -/
theorem State.setNext_deciding (h : s.deciding) {old a : Alg} (hst : s.slots[n].state = .fading)
    (halg : s.slots[n].algorithm = some old) (hfit : s.loadFits n (max old.load a.load) = true) :
    (s.setSlot n { s.slots[n] with next := some a }).deciding := by
  have hc : (s.setSlot n { s.slots[n] with next := some a }).slots[n].charge = (.fading, some old, some a) := by
    rw [State.setSlot_slots, table_get_set_self, ← hst, ← halg]; rfl
  exact State.deciding_of_fits h hfit rfl (fun m hm => s.setSlot_slotView hm _) (Slot.load_fading hc).le
    (Slot.settled_of_charge hc nofun)

/-- R4, R7, R24: an allocation for an algorithm that fits, where the slot taken prepares it. -/
theorem State.allocateFor_deciding (h : s.deciding) {a : Alg} {take : State → List EntryId → State}
    (hfit : s.loadFits n a.load = true) (hsur : ∀ t es, (take t es).surroundings = t.surroundings)
    (ho : ∀ t es (m : SlotId), n ≠ m → (take t es).slotView m = t.slotView m)
    (hc : ∀ t es, (take t es).slots[n].charge = (.preparing, some a, none)) : (s.allocateFor n a take).state.deciding := by
  unfold State.allocateFor; split
  · exact h
  · dsimp only
    rw [State.answerAccepted_state]
    refine State.deciding_of_loadView (State.startClearing_loadView _) ?_
    exact State.deciding_of_fits h hfit ((hsur _ _).trans rfl) (fun m hm => (ho _ _ m hm).trans rfl)
      (Slot.load_preparing (hc _ _)).le (Slot.settled_of_charge (hc _ _) nofun)

end

theorem State.assignByState_deciding {s : State} (n : SlotId) (a : Alg) (h : s.deciding) : (s.assignByState n a).state.deciding := by
  have same : (s.assignSame n a).state.deciding := by
    have e := State.Eases.after (s := s) (t := (s.removeMorph n).writeShadow n a.defaults) (by simp)
      (State.evalWritten_eases _ n allParams)
    exact (e.before (State.startClearing_loadView _)).deciding h
  have fade : ∀ o, s.slots[n].algorithm = some o → (s.assignFade n o a).state.deciding := fun o ho => by
    unfold State.assignFade; split_ifs with hfit
    · exact State.beginFading_deciding n h ho hfit
    · exact h
  have next : ∀ o, s.slots[n].state = .fading → s.slots[n].algorithm = some o → (s.assignNext n o a).state.deciding :=
    fun o hst ho => by
      unfold State.assignNext; split_ifs with hfit
      · exact State.deciding_of_loadView (State.removeEntry_loadView _ n) (State.setNext_deciding n h hst ho hfit)
      · exact h
  have empty : (s.assignEmpty n a).state.deciding := by
    unfold State.assignEmpty; split_ifs with hfit
    · refine State.allocateFor_deciding n h hfit (fun t es => by simp)
        (fun t es m hm => by rw [State.setSlot_slotView _ hm, State.prepare_slotView _ hm]) (fun t es => ?_)
      rw [State.setSlot_slots, table_get_set_self]; exact t.prepare_charge n a _ es
    · exact h
  have replace : (s.assignReplace n a).state.deciding := by
    unfold State.assignReplace; split_ifs with hfit
    · exact State.allocateFor_deciding n h hfit (fun t es => by simp)
        (fun t es m hm => by rw [State.prepare_slotView _ hm, State.giveBackLines_slotView]) (fun t es => State.prepare_charge _ _ _ _ _)
    · exact h
  unfold State.assignByState; split
  · split_ifs
    · exact same
    · exact replace
  · split_ifs
    · exact same
    · exact fade _ (by assumption)
  · split_ifs
    · exact same
    · exact fade _ (by assumption)
  · exact next _ (by assumption) (by assumption)
  · exact empty

theorem Verdict.renewed_deciding {v : Verdict} (h : v.state.deciding) (p : Port) (n : SlotId) : (v.renewed p n).state.deciding :=
  State.deciding_of_loadView (v.renewed_loadView p n) h

theorem assignDecision_deciding (p : Port) (b : List Byte) (s : State) (h : s.deciding) :
    (assignDecision p b s).state.deciding := by
  unfold assignDecision; split
  · split_ifs
    · exact h
    · split
      · split_ifs
        · exact h
        · exact Verdict.renewed_deciding (State.assignByState_deciding _ _ h) p _
      · exact h
  · exact h

theorem State.clearByState_deciding {s : State} (n : SlotId) (h : s.deciding) : (s.clearByState n).state.deciding := by
  unfold State.clearByState; split
  · exact h
  · exact (s.emptySlot_eases n).deciding h
  · exact (State.beginFading_none_eases n (Or.inl (by assumption))).deciding h
  · exact (State.beginFading_none_eases n (Or.inr (by assumption))).deciding h
  · rename_i hst
    refine (State.Eases.before ?_ (State.removeEntry_loadView _ n)).deciding h
    refine .of_slot n rfl (fun m hm => s.setSlot_slotView hm _) ?_
    rw [State.setSlot_slots, table_get_set_self]
    refine ⟨?_, id, id⟩
    unfold Slot.load; dsimp only; rw [hst]
    exact max_le_max le_rfl (Nat.zero_le _)

theorem clearDecision_deciding (p : Port) (b : List Byte) (s : State) (h : s.deciding) : (clearDecision p b s).state.deciding := by
  unfold clearDecision; split
  · split_ifs
    · exact h
    · split
      · split_ifs
        · exact h
        · exact Verdict.renewed_deciding (State.clearByState_deciding _ h) p _
      · exact h
  · exact h

theorem paramsDecision_deciding (p : Port) (b : List Byte) (s : State) (h : s.deciding) :
    (paramsDecision p b s).state.deciding := by
  have byState : ∀ n prs, (s.paramsByState n prs).state.deciding := fun n prs => by
    unfold State.paramsByState; split
    · exact h
    · exact h
    · exact h
    · split_ifs
      · exact (s.writeParams_eases n _ prs).deciding h
      · exact h
  unfold paramsDecision; split
  · split
    · split_ifs
      · exact h
      · exact Verdict.renewed_deciding (byState _ _) p _
    · exact h
  · exact h

theorem muteChecks_deciding (p : Port) (b : List Byte) (f : State → SlotId → State) (hf : ∀ (s : State) n, s.Eases (f s n))
    (s : State) (h : s.deciding) : (muteChecks p b f s).state.deciding := by
  unfold muteChecks; split
  · split
    · split_ifs
      · exact h
      · exact Verdict.renewed_deciding ((hf s _).deciding h) p _
      · exact h
    · exact h
  · exact h

/-! ### Recalls -/

theorem State.recallByState_deciding {s : State} (e : SceneEntry) (k : Nat) (h : s.deciding) :
    (s.recallByState e k).1.deciding := by
  have prepared : ∀ (t : State) es, t.surroundings = s.surroundings → (∀ m, e.slot ≠ m → t.slotView m = s.slotView m) →
      s.loadFits e.slot e.algorithm.load = true →
      (((t.prepare e.slot e.algorithm (s.entryBank e) es).takeRouting e.slot e).joinWaiting e.slot).deciding := by
    intro t es hsur ho hfit
    refine State.deciding_of_loadView
      ((State.joinWaiting_loadView _ _).trans (State.takeRouting_loadView _ _ _)) ?_
    have hc := t.prepare_charge e.slot e.algorithm (s.entryBank e) es
    exact State.deciding_of_fits h hfit ((t.prepare_surroundings _ _ _ _).trans hsur)
      (fun m hm => (t.prepare_slotView hm _ _ _).trans (ho m hm)) (Slot.load_preparing hc).le (Slot.settled_of_charge hc nofun)
  have empty : (s.recallEmpty e.slot e).1.deciding := by
    unfold State.recallEmpty; split_ifs with hfit
    · split
      · exact prepared _ _ rfl (fun _ _ => rfl) hfit
      · exact h
    · exact h
  have replace : (s.recallReplace e.slot e).1.deciding := by
    unfold State.recallReplace; split_ifs with hfit
    · split
      · exact prepared _ _ rfl (fun _ _ => rfl) hfit
      · exact h
    · exact h
  have fade : ∀ o, s.slots[e.slot].algorithm = some o → (s.recallFade e.slot e o).1.deciding := fun o ho => by
    unfold State.recallFade; split_ifs with hfit
    · exact State.deciding_of_loadView (by simp) (State.beginFading_deciding _ h ho hfit)
    · exact h
  have fading : ∀ o, s.slots[e.slot].state = .fading → s.slots[e.slot].algorithm = some o →
      (s.recallFading e.slot e o).1.deciding := fun o hst ho => by
    unfold State.recallFading; split_ifs with hfit
    · exact State.deciding_of_loadView ((State.joinWaiting_loadView _ _).trans (State.setEntry_loadView _ _ _))
        (State.setNext_deciding _ h hst ho hfit)
    · exact h
  unfold State.recallByState; dsimp only; split
  · split_ifs
    · exact (s.recallPreparing_eases _ e).deciding h
    · exact replace
  · split_ifs
    · exact (s.recallSame_eases _ e k).deciding h
    · exact fade _ (by assumption)
  · split_ifs
    · exact (s.recallSame_eases _ e k).deciding h
    · exact fade _ (by assumption)
  · exact fading _ (by assumption) (by assumption)
  · exact empty

theorem State.recallEntry_deciding (p : Port) (g : Bool) (k : Nat) (s : State) (e : SceneEntry) (h : s.deciding) :
    (State.recallEntry p g k s e).deciding := by
  have hr := State.recallByState_deciding e k h
  have renewed : ((s.recallByState e k).1.renew p e.slot).deciding := State.deciding_of_loadView (State.renew_loadView _ _ p) hr
  unfold State.recallEntry; dsimp only
  split_ifs
  · exact h
  · exact hr
  · exact renewed
  · exact hr
  · exact renewed

theorem State.carryOutRecall_deciding (p : Port) (g : Bool) (k : SceneId) (time : Option Nat) (s : State) (h : s.deciding) :
    (s.carryOutRecall p g k time).state.deciding := by
  have opened : (s.abortRecall.openRecall k (recallOrigin p g)).deciding :=
    State.deciding_of_loadView s.abortRecall_loadView h
  have offered : ((s.abortRecall.openRecall k (recallOrigin p g)).offerTempo s.scenes[k].tempo).1.deciding := by
    unfold State.offerTempo; repeat' split
    · exact opened
    · exact State.deciding_of_loadView (State.writeControl_loadView _ _) opened
    · exact opened
  have settled := foldl_holds State.deciding _ (State.recallEntry_deciding p g (s.rate.blocks (time.getD s.scenes[k].morphTime)))
    s.scenes[k].entries _ offered
  unfold State.carryOutRecall; dsimp only
  rw [State.answerAccepted_state]
  refine State.deciding_of_loadView (State.startClearing_loadView _) ?_
  split_ifs
  · exact settled
  · exact settled

theorem recallDecision_deciding (p : Port) (g : Bool) (b : List Byte) (s : State) (h : s.deciding) :
    (recallDecision p g b s).state.deciding := by
  unfold recallDecision; split
  · split_ifs
    · exact h
    · split
      · split
        · exact h
        · split_ifs
          · exact State.deciding_of_loadView (s.verifyScene_loadView _) h
          · exact State.carryOutRecall_deciding _ _ _ _ s h
        · exact h
      · exact h
  · exact h

/-! ### QUIET and WAKE -/

theorem quietDecision_deciding (b : List Byte) (s : State) (h : s.deciding) : (quietDecision b s).state.deciding := by
  have fade : ∀ t : State, t.startQuietFade.loadView = t.loadView := fun t => by
    unfold State.startQuietFade; split_ifs <;> rfl
  have removed : s.abortRecall.removeMorphs.deciding := by
    refine State.deciding_of_loadView ?_ h
    exact (foldl_keeps State.loadView State.removeMorph State.removeMorph_loadView allSlots s.abortRecall).trans s.abortRecall_loadView
  unfold quietDecision; repeat' split
  · exact h
  · exact State.deciding_of_loadView (fade _) ⟨nofun, removed.2⟩
  · exact h

/-- R54: a line at WAKE eases the slot. -/
theorem State.rezeroLine_eases (n : SlotId) (s : State) (l : LineId) : s.Eases (State.rezeroLine n s l) := by
  have settle : (s.settleGrowth n l).loadView = s.loadView := by
    unfold State.settleGrowth; split <;> simp
  have current : ((s.settleGrowth n l).rezeroCurrent n l).loadView = (s.settleGrowth n l).loadView := by
    unfold State.rezeroCurrent; split <;> simp
  have deferred : ∀ t : State, t.Eases (t.settleDeferred n l) := fun t => by
    unfold State.settleDeferred; split
    · split
      · dsimp only; split_ifs
        · exact .after (t.setLine_loadView n l _) (State.replaceRegion_eases _ n l _)
        · exact .of_loadView (t.setLine_loadView n l _)
      · exact .refl t
    · exact .refl t
  unfold State.rezeroLine; split_ifs
  · exact .before (.after (current.trans settle) (deferred _)) (State.updateClamped_loadView _ n)
  · exact .refl s

/-- R54: a slot that becomes PREPARING counts its algorithm alone; an EMPTY one has none. -/
theorem State.rezeroSlot_deciding (s : State) (n : SlotId) (h : s.deciding) : (s.rezeroSlot n).deciding := by
  unfold State.rezeroSlot; split_ifs
  · exact h
  · refine State.Eases.deciding (.foldl (fun t l => t.rezeroLine_eases n l) _ _) ⟨h.1, ?_⟩
    have slot : ∀ m, ((s.endVoice n).setSlot n { s.slots[n] with state := .preparing }).slots[m]
        = if n = m then { s.slots[n] with state := .preparing } else s.slots[m] := fun m => by
      rw [State.setSlot_slots, table_get_set]; rfl
    refine State.tallyOk_of_slots h.2 rfl (fun m => ?_) (fun m => ?_)
    · rw [slot]; split_ifs with hm
      · subst hm
        have hs := h.2.2 n
        unfold Slot.settled at hs
        unfold Slot.load; dsimp only; split
        · rw [hs (by assumption)]; rfl
        · exact le_max_left _ _
        · exact le_rfl
      · exact le_rfl
    · rw [slot]; split_ifs
      · nofun
      · exact h.2.2 m

theorem State.restartSound_deciding (s : State) (h : s.deciding) : s.restartSound.deciding := by
  have e : s.restartSound.loadView = (s.loadView.1, s.rate, .ready) := by rw [(State.restartSound_spec s).1]; rfl
  have e' : s.restartSound.loadView = ({ s with power := .ready } : State).loadView := e
  exact State.deciding_of_loadView e' ⟨nofun, h.2⟩

theorem wakeDecision_deciding (b : List Byte) (s : State) (h : s.deciding) : (wakeDecision b s).state.deciding := by
  have ended : s.storeSweep.endQuietPeriod.deciding :=
    (State.forceFadeEnds_eases _).deciding (State.deciding_of_loadView s.storeSweep_loadView h)
  have rezeroed : s.storeSweep.endQuietPeriod.rezeroSlots.deciding :=
    foldl_holds State.deciding State.rezeroSlot State.rezeroSlot_deciding _ _ ended
  unfold wakeDecision; repeat' split
  · exact State.deciding_of_loadView (State.startClearing_loadView _) (State.restartSound_deciding _ rezeroed)
  · exact h
  · exact h

/-! ### Rows -/

theorem State.takeCommand_loadView {s u : State} {p : Port} {c : Command} (h : s.takeCommand p c = some u) :
    u.loadView = s.loadView := by
  rcases State.takeCommand_spec h with ⟨_, _, ⟨rfl, _⟩ | ⟨rfl, _⟩⟩
  · exact s.setPort_loadView p _
  · rfl

theorem State.deciding_of_takeCommand {s u : State} {p : Port} {c : Command} (hs : s.loadOk) (h : s.takeCommand p c = some u) :
    u.deciding :=
  State.deciding_of_loadView (State.takeCommand_loadView h) ⟨(State.takeCommand_spec h).1, (s.loadOk_iff.mp hs).1⟩

theorem State.deciding.loadOk {s : State} (h : s.deciding) : s.loadOk := s.loadOk_iff.mpr ⟨h.2, fun e => absurd e h.1⟩

/-- A decision that keeps the tally makes its row keep R24. -/
theorem runCommand_loadOk {p : Port} {c : Command} {d : State → Verdict} {s t : State}
    (hd : ∀ u : State, u.deciding → (d u).state.deciding) (h : s.loadOk) (he : runCommand p c d s = .next t) : t.loadOk := by
  rcases runCommand_spec he with ⟨_, rfl⟩ | ⟨u, hu, rfl⟩
  · exact h
  · exact (State.deciding_of_loadView (State.placeResult_loadView _ p _) (hd u (State.deciding_of_takeCommand h hu))).loadOk

/-- The same for a decision that leaves the load view. -/
theorem runCommand_loadOk_of_loadView {p : Port} {c : Command} {d : State → Verdict} {s t : State}
    (hd : ∀ u, (d u).state.loadView = u.loadView) (h : s.loadOk) (he : runCommand p c d s = .next t) : t.loadOk :=
  runCommand_loadOk (fun u hu => State.deciding_of_loadView (hd u) hu) h he

/-- R23: EMPTY slots count nothing. -/
theorem State.loadTally_of_empty {s : State} (h : ∀ n : SlotId, (s.slots[n]).state = .empty) : s.loadTally = 0 := by
  refine List.sum_eq_zero fun x hx => ?_
  obtain ⟨n, _, rfl⟩ := List.mem_map.mp hx
  unfold Slot.load; rw [h]

/-- R177: with every slot EMPTY and without algorithm nothing is counted. -/
theorem State.loadOk_of_empty {s : State} (h : ∀ n : SlotId, (s.slots[n]).state = .empty)
    (ha : ∀ n : SlotId, (s.slots[n]).algorithm = none) : s.loadOk :=
  ⟨State.loadTally_of_empty h ▸ Nat.zero_le _, fun n _ => ha n, fun _ => h⟩

theorem State.enterStarting_loadOk (s : State) (k : StartKind) (v : Vector Scene 32) : (s.enterStarting k v).loadOk := by
  have reset : ∀ n : SlotId, (s.enterStarting k v).slots[n] = Slot.reset := fun _ => Vector.getElem_replicate ..
  exact State.loadOk_of_empty (fun n => by rw [reset]; rfl) (fun n => by rw [reset]; rfl)

/-- R178: the part becomes READY with nothing assigned, whatever the rate the pins fix. -/
theorem State.startUp_loadOk {s : State} (h : s.loadOk) (hp : s.power = .starting) (pins : StartPins) (mv : Nat) :
    ((s.sweptUp.pinsSampled pins).firstJudgement mv).loadOk := by
  have empty := h.2.2 hp
  have view : s.sweptUp.loadView = s.loadView := by
    unfold State.sweptUp; dsimp only; split_ifs
    · exact State.storeSweep_loadView _
    · rfl
  have charge := State.charge_of_loadView view
  have swept : (s.sweptUp.pinsSampled pins).loadOk := by
    refine State.loadOk_of_empty (fun n => ?_) (fun n => ?_)
    · exact (congrArg (·.1) (charge n)).trans (empty n)
    · exact (congrArg (·.2.1) (charge n)).trans (h.2.1 n (empty n))
  unfold State.firstJudgement; split_ifs
  · exact State.enterStarting_loadOk _ _ _
  · refine State.loadOk_of_loadView ?_ swept
    unfold State.supplyFalls State.fadeSupply; split_ifs <;> rfl
  · exact swept

/-! ### The block end -/

theorem State.handPeaks_loadView (s : State) : s.handPeaks.loadView = s.loadView := by
  have fold : (allSlots.foldl State.handPeak s).loadView = s.loadView :=
    foldl_keeps State.loadView _ (fun t n => by
      unfold State.handPeak; split_ifs
      · exact t.setSlot_loadView n rfl
      · rfl) _ _
  unfold State.handPeaks; dsimp only; split_ifs
  · exact fold
  · exact fold

theorem State.takeUp_loadView (s : State) : s.takeUp.loadView = s.loadView := by
  have begins : (allSlots.foldl State.beginOrSwap s).loadView = s.loadView :=
    foldl_keeps State.loadView _ (fun t n => by
      unfold State.beginOrSwap State.beginSlot; split_ifs <;> simp) _ _
  have returns : ∀ t : State, t.applyReturn.loadView = t.loadView := fun t => by
    have fold : (allSlots.foldl State.returnSlot t).loadView = t.loadView :=
      foldl_keeps State.loadView _ (fun t n => by unfold State.returnSlot; split_ifs <;> rfl) _ _
    unfold State.applyReturn; split_ifs
    · exact fold
    · rfl
  unfold State.takeUp
  rw [foldl_keeps State.loadView (State.followBank s.slots)
    (fun t n => by unfold State.followBank; repeat' split
                   all_goals rfl), returns, begins]

theorem State.finishFades_loadView (s : State) : s.finishFades.loadView = s.loadView :=
  foldl_keeps State.loadView _ (fun t n => by
    have h1 : (t.finishFade n).loadView = t.loadView := by
      unfold State.finishFade; dsimp only; repeat' split
      all_goals rfl
    rw [← h1]; unfold State.finishCrossfades; split_ifs <;> rfl) _ _

theorem State.blockEnd_eases (s : State) (sends : List (Vector Sample 8)) : s.Eases (s.blockEnd sends) := by
  have hand : (s.feed sends).Eases (s.feed sends).handOff := by
    refine .before ?_ (State.handPeaks_loadView _)
    exact .after (State.setModulation_loadView _ _) (.foldl State.morphStep_eases _ _)
  have mid : (s.feed sends).Eases (s.feed sends).handOff.takeUp.finishFades.finishSupply :=
    hand.before ((State.finishFades_loadView _).trans (State.takeUp_loadView _))
  unfold State.blockEnd; dsimp only; split_ifs
  · exact .of_loadView rfl
  · unfold State.soundingBlockEnd; dsimp only
    refine .after (t := s.feed sends) rfl (.before ?_ (State.startClearing_loadView _))
    split_ifs
    · exact mid.before rfl
    · exact mid.before rfl

/-! ### Every command -/

/-- R24: every command keeps the load tally within the budget. -/
theorem exec_keeps_loadOk {i : Instr} {s t : State} (h : s.loadOk) (he : exec i s = .next t) : t.loadOk := by
  cases i <;> unfold exec at he <;> dsimp only at he
  case assign p tag b => exact runCommand_loadOk (assignDecision_deciding p b) h he
  case clear p tag b => exact runCommand_loadOk (clearDecision_deciding p b) h he
  case params p tag b => exact runCommand_loadOk (paramsDecision_deciding p b) h he
  case mute p tag b => exact runCommand_loadOk (muteChecks_deciding p b _ State.muteSlot_eases) h he
  case unmute p tag b => exact runCommand_loadOk (muteChecks_deciding p b _ State.unmuteSlot_eases) h he
  case route p tag b => exact runCommand_loadOk_of_loadView (routeDecision_loadView p b) h he
  case readSlot p tag b => exact runCommand_loadOk_of_loadView (readSlotDecision_loadView p b) h he
  case readPool p tag b => exact runCommand_loadOk_of_loadView (readPoolDecision_loadView b) h he
  case takeHold p tag b => exact runCommand_loadOk_of_loadView (takeHoldDecision_loadView p b) h he
  case releaseHold p tag b => exact runCommand_loadOk_of_loadView (releaseHoldDecision_loadView p b) h he
  case setLease p tag b => exact runCommand_loadOk_of_loadView (setLeaseDecision_loadView p b) h he
  case storeScene p tag b => exact runCommand_loadOk_of_loadView (storeSceneDecision_loadView b) h he
  case writeSceneEntry p tag b => exact runCommand_loadOk_of_loadView (writeSceneEntryDecision_loadView b) h he
  case eraseScene p tag b => exact runCommand_loadOk_of_loadView (eraseSceneDecision_loadView b) h he
  case readScene p tag b => exact runCommand_loadOk_of_loadView (readSceneDecision_loadView b) h he
  case recallScene p tag g b => exact runCommand_loadOk (recallDecision_deciding p g b) h he
  case abortMorph p tag b => exact runCommand_loadOk_of_loadView (abortMorphDecision_loadView p b) h he
  case readRecall p tag b => exact runCommand_loadOk_of_loadView (readRecallDecision_loadView b) h he
  case setTempo p tag b => exact runCommand_loadOk_of_loadView (setTempoDecision_loadView b) h he
  case setTempoSource p tag b => exact runCommand_loadOk_of_loadView (setTempoSourceDecision_loadView b) h he
  case tap p tag g b v => exact runCommand_loadOk_of_loadView (tapDecision_loadView b v) h he
  case readTempo p tag b => exact runCommand_loadOk_of_loadView (readTempoDecision_loadView b) h he
  case setTapOptions p tag b => exact runCommand_loadOk_of_loadView (setTapOptionsDecision_loadView b) h he
  case setLfo p tag b => exact runCommand_loadOk_of_loadView (setLfoDecision_loadView p b) h he
  case seedRandom p tag b => exact runCommand_loadOk_of_loadView (seedRandomDecision_loadView b) h he
  case setRandomMode p tag b => exact runCommand_loadOk_of_loadView (setRandomModeDecision_loadView b) h he
  case readEvents p tag b => exact runCommand_loadOk_of_loadView (readEventsDecision_loadView p b) h he
  case setEventMask p tag b => exact runCommand_loadOk_of_loadView (setEventMaskDecision_loadView p b) h he
  case portReset p tag b => exact runCommand_loadOk_of_loadView (portResetDecision_loadView p b) h he
  case quiet p tag b => exact runCommand_loadOk (quietDecision_deciding b) h he
  case wake p tag b => exact runCommand_loadOk (wakeDecision_deciding b) h he
  case unknownCommand p tag c b =>
    unfold execUnknownCommand at he; split_ifs at he
    · cases he; exact h
    · exact runCommand_loadOk (fun u hu => hu) h he
  case restart p tag b =>
    unfold execRestart at he; split at he
    · cases he; exact h
    · rename_i u hu
      split_ifs at he <;> cases he
      · exact u.enterStarting_loadOk _ _
      · exact (State.deciding_of_loadView (State.placeResult_loadView _ p _) (State.deciding_of_takeCommand h hu)).loadOk
  case i2cAddress p a d =>
    unfold execI2cAddress State.judgeAddress at he; dsimp only at he
    repeat' split at he
    all_goals (cases he; exact State.loadOk_of_loadView (by simp) h)
  case messageEnd p bs =>
    unfold execMessageEnd at he; split_ifs at he <;> cases he
    · exact State.loadOk_of_loadView (s.setPort_loadView _ _) h
    · exact h
  case resultSent r =>
    unfold execResultSent at he; split at he <;> cases he
    · exact State.loadOk_of_loadView (s.setPort_loadView _ _) h
    · exact h
  case readEnd r =>
    unfold execReadEnd at he; split_ifs at he <;> cases he
    · exact State.loadOk_of_loadView (s.setPort_loadView _ _) h
    · exact h
  case busTimeout p bs =>
    unfold execBusTimeout at he; dsimp only at he; split_ifs at he <;> cases he
    · exact h
    · exact State.loadOk_of_loadView (s.setPort_loadView _ _) h
    · exact State.loadOk_of_loadView (s.setPort_loadView _ _) h
  case busStop r => cases he; exact State.loadOk_of_loadView (s.setPort_loadView _ _) h
  case frameSync =>
    unfold execFrameSync at he; repeat' split at he
    all_goals (cases he; exact h)
  case frameTaken w =>
    unfold execFrameTaken at he; dsimp only at he; split_ifs at he <;> cases he
    · exact h
    · exact (State.blockEnd_eases _ _).loadOk (State.loadOk_of_loadView rfl h)
    · exact h
  case clockLost =>
    unfold execClockLost at he; dsimp only at he
    have drop : s.dropModulation.loadView = s.loadView :=
      foldl_keeps State.loadView State.dropModulationOf (fun t n => rfl) _ _
    split_ifs at he <;> cases he
    · exact State.loadOk_of_loadView drop h
    · exact State.loadOk_of_loadView drop h
    · exact h
  case fadeEnd n =>
    unfold execFadeEnd at he; dsimp only at he; split_ifs at he with _ hst <;> cases he
    · have ended := State.fadeEnded_eases { s with fadeReports := s.fadeReports.filter (· != n) } n hst
      exact (ended.before (State.startClearing_loadView _)).loadOk h
    · exact h
    · exact h
  case crossfadeEnd n l =>
    unfold execCrossfadeEnd at he; split_ifs at he <;> cases he
    · exact (State.Eases.before (State.crossfadeEnded_eases _ n l) (State.startClearing_loadView _)).loadOk
        (State.loadOk_of_loadView rfl h)
    · exact h
  case quietFadeEnd =>
    unfold execQuietFadeEnd at he; split_ifs at he <;> cases he
    · exact (State.Eases.before (State.forceFadeEnds_eases _) (State.startClearing_loadView _)).loadOk
        (State.loadOk_of_loadView rfl h)
    · exact h
  case regionJobComplete => cases he; exact State.loadOk_of_loadView (s.setPool_loadView _) h
  case regionLive e =>
    unfold execRegionLive at he; dsimp only at he
    split_ifs at he
    · split at he
      · split at he
        · cases he; split_ifs
          · exact (State.takeLiveReport_eases _ _ _ _).loadOk (State.loadOk_of_loadView (s.setPool_loadView _) h)
          · exact State.loadOk_of_loadView (s.setPool_loadView _) h
        · cases he; exact State.loadOk_of_loadView (s.setPool_loadView _) h
      · cases he; exact State.loadOk_of_loadView (s.setPool_loadView _) h
    · cases he; exact h
  case extensionComplete =>
    unfold execExtensionComplete at he; split at he <;> cases he
    · refine State.loadOk_of_loadView (State.startClearing_loadView _) ?_
      have taken : ∀ q, (s.setPool q).loadOk := fun q => State.loadOk_of_loadView (s.setPool_loadView q) h
      unfold State.extensionEnded; split
      · exact (State.growthEnd_eases _ _ _).loadOk (taken _)
      · exact taken _
    · exact h
  case abandonedPageEnd => cases he; exact State.loadOk_of_loadView (s.setPool_loadView _) h
  case slotPropagation =>
    unfold execSlotPropagation at he; split at he <;> cases he
    · exact (State.Eases.before (.foldl (fun t n => t.propagateTo_eases n _) _ _) (State.startClearing_loadView _)).loadOk
        (State.loadOk_of_loadView (s.setTempo_loadView _) h)
    · exact h
  case lfoPropagation => unfold execLfoPropagation at he; split at he <;> cases he <;> exact h
  case resync => unfold execResync at he; split at he <;> cases he <;> exact h
  case tapPress v => unfold execTapPress at he; split_ifs at he <;> cases he <;> exact h
  case tapRelease v =>
    unfold execTapRelease at he; dsimp only at he
    split_ifs at he <;> cases he <;> exact State.loadOk_of_loadView (by simp) h
  case longPress v => unfold execLongPress at he; split_ifs at he <;> cases he <;> exact h
  case stuckSwitch v => unfold execStuckSwitch at he; split_ifs at he <;> cases he <;> exact h
  case tapFreshExpiry v =>
    unfold execTapFreshExpiry at he; split_ifs at he <;> cases he <;> exact State.loadOk_of_loadView (by simp) h
  case tapHistoryClear v => unfold execTapHistoryClear at he; split_ifs at he <;> cases he <;> exact h
  case linkTempoFrame a b c d v => cases he; exact State.loadOk_of_loadView (s.linkBytes_loadView _ _) h
  case linkStopFrame a b v => cases he; exact State.loadOk_of_loadView (s.linkBytes_loadView _ _) h
  case linkBadFrame bs v => cases he; exact State.loadOk_of_loadView (s.linkBytes_loadView _ _) h
  case linkBreak v => cases he; exact State.loadOk_of_loadView (s.linkBytes_loadView _ _) h
  case linkSilenceTimeout v =>
    unfold execLinkSilenceTimeout at he; split_ifs at he <;> cases he <;> exact State.loadOk_of_loadView (by simp) h
  case leaseTick =>
    unfold execLeaseTick at he; split_ifs at he <;> cases he
    · exact h
    · exact State.loadOk_of_loadView (foldl_keeps State.loadView State.tickHold State.tickHold_loadView _ _) h
  case holdExpiry n =>
    unfold execHoldExpiry at he; split_ifs at he <;> cases he <;> exact State.loadOk_of_loadView (by simp) h
  case supplyLow v =>
    unfold execSupplyLow State.supplyFalls State.fadeSupply at he
    split_ifs at he <;> cases he <;> first | exact h | exact s.enterStarting_loadOk _ _
  case supplyNormal v => unfold execSupplyNormal State.fadeSupply at he; split_ifs at he <;> cases he <;> exact h
  case powerOnReset => cases he; exact s.enterStarting_loadOk _ _
  case resetLow => cases he; exact s.enterStarting_loadOk _ _
  case startUpSweep r v => unfold execStartUpSweep at he; split_ifs at he <;> cases he <;> exact h
  case startUpSweepEnd pins =>
    unfold execStartUpSweepEnd at he; split_ifs at he with hp <;> cases he
    · exact State.startUp_loadOk h hp.1 pins _
    · exact h
  case tapHighSample time => unfold execTapHighSample at he; split_ifs at he <;> cases he <;> exact h

/-- And every step keeps it. -/
theorem step_keeps_loadOk {s t : State} (h : s.loadOk) (he : step s = .next t) : t.loadOk := by
  unfold step at he; split at he
  · rename_i c rest _
    exact exec_keeps_loadOk (s := { s with pending := rest }) h he
  · cases he
    unfold State.pageTime; split
    · unfold State.sweepPage; split_ifs
      · exact h
      · exact h
    · exact h

end Sys2Proof.Machine

namespace Sys2Proof.Machine

/-- Settles O52: every command eases the slots, or changes one slot by a load that fits. -/
theorem stepKeepsLoadWithinBudget : Obligations.StepKeepsLoadWithinBudget := fun _ _ h he => step_keeps_loadOk h he

end Sys2Proof.Machine

namespace Sys2Proof.Machine

/-! ### A slot command taken: what its row answers (R137, R145) -/

section
variable {s t u : State} {p : Port} {n : SlotId}

theorem State.placeResult_surroundings (s : State) (p : Port) (r : Result) :
    (s.placeResult p r).surroundings = s.surroundings.placeResult p r := by cases p <;> rfl

theorem State.renew_surroundings (s : State) (p : Port) (n : SlotId) : (s.renew p n).surroundings = s.surroundings.renew p n := by
  have hport : (s.surroundings.port p).lease = (s.port p).lease := by cases p <;> rfl
  have hholds : s.surroundings.holds = s.holds := rfl
  unfold State.renew; rw [hport, hholds]; split_ifs <;> rfl

/-- A hold renewed and a result placed: states with the same surroundings keep them the same. -/
theorem State.answered_surroundings (h : u.surroundings = t.surroundings) (r : Result) :
    ((u.renew p n).placeResult p r).surroundings = ((t.renew p n).placeResult p r).surroundings := by
  rw [State.placeResult_surroundings, State.placeResult_surroundings, State.renew_surroundings, State.renew_surroundings, h]

theorem State.renew_flagsOf (s : State) (p : Port) (n : SlotId) : (s.renew p n).flagsOf = s.flagsOf := by
  unfold State.renew; split_ifs <;> rfl

theorem State.flagged_of_flagsOf {f : Flag} (h : u.flagsOf = t.flagsOf) (hf : t.flagged f) : u.flagged f := by
  have ha : u.portA.flags = t.portA.flags := congrArg (·.1) h
  have hb : u.portB.flags = t.portB.flags := congrArg (·.2) h
  unfold State.flagged PortState.hasFlag; rw [ha, hb]; exact hf

theorem State.renew_recallRecord (s : State) (p : Port) (n : SlotId) : (s.renew p n).recallRecord = s.recallRecord := by
  unfold State.renew; split_ifs <;> rfl

/-- What the row of a slot command leaves, from what its decision leaves. -/
abbrev State.answered (u : State) (p : Port) (n : SlotId) (r : Result) : State := (u.renew p n).placeResult p r

theorem State.answered_flagsOf (u : State) (p : Port) (n : SlotId) (r : Result) : (u.answered p n r).flagsOf = u.flagsOf :=
  (State.placeResult_flagsOf _ p r).trans (u.renew_flagsOf p n)

theorem State.answered_loadView (u : State) (p : Port) (n : SlotId) (r : Result) : (u.answered p n r).loadView = u.loadView :=
  (State.placeResult_loadView _ p r).trans (u.renew_loadView n p)

theorem State.answered_sameSlotsBut (h : ∀ m : SlotId, n ≠ m → u.slotView m = t.slotView m) (r : Result) :
    (u.answered p n r).sameSlotsBut t n :=
  State.sameSlotsBut_of_slotView fun m hm => by
    rw [State.answered, State.placeResult_slotView, State.renew_slotView]; exact h m hm

theorem State.loadTally_of_loadView (h : u.loadView = t.loadView) : u.loadTally = t.loadTally := by
  have hl : ∀ m : SlotId, (u.slots[m]).load = (t.slots[m]).load := fun m => Slot.load_of_charge (State.charge_of_loadView h m)
  unfold State.loadTally; simp only [hl]

variable {tag code : Byte} {body b : List Byte} {d : State → Verdict} {v : Verdict} {st : Status}

/-- A slot command taken with DONE or ACCEPTED renews the port's hold. -/
theorem slotCommand_answers (h : s.takeCommand p (ownCommand tag code body) = some t) (hd : d t = v.renewed p n)
    (hv : v = ⟨u, st, b⟩) (hst : st = .done ∨ st = .accepted) :
    runCommand p (ownCommand tag code body) d s = .next (u.answered p n ⟨tag, code, st, b⟩) :=
  taken_ownCommand h (by rw [hd, hv]; exact if_pos hst)

/-- A slot command refused changes nothing. -/
theorem slotCommand_refuses (h : s.takeCommand p (ownCommand tag code body) = some t) (hd : d t = v.renewed p n)
    (hv : v = t.refuse st) (hst : ¬ (st = .done ∨ st = .accepted)) :
    runCommand p (ownCommand tag code body) d s = .next (t.placeResult p ⟨tag, code, st, []⟩) :=
  taken_ownCommand h (by rw [hd, hv]; exact if_neg hst)

end

/-! ### The checks of the slot commands, passed (R146) -/

section
variable {t : State} {p : Port} {n : SlotId} {b0 b1 b2 : Byte}

theorem assignDecision_byState {a : Alg} (hq : t.power ≠ .quiet) (hn : slotField b0 = some n) (ha : algField b1 = some a)
    (hh : t.holds[n].holder ≠ some p.other) : assignDecision p [b0, b1] t = (t.assignByState n a).renewed p n := by
  simp only [assignDecision, if_neg hq, hn, ha, State.heldByOther_of_ne hh]; rfl

theorem clearDecision_byState (hq : t.power ≠ .quiet) (hn : slotField b0 = some n) (hh : t.holds[n].holder ≠ some p.other) :
    clearDecision p [b0] t = (t.clearByState n).renewed p n := by
  simp only [clearDecision, if_neg hq, hn, State.heldByOther_of_ne hh]; rfl

theorem paramsDecision_byState {body : List Byte} {raw : List (Byte × Int)} {prs : List (ParamIx × Int)}
    (hb : paramsBody body = some (b0, raw)) (hp : indexedPairs raw = some prs) (hn : slotField b0 = some n)
    (hh : t.holds[n].holder ≠ some p.other) : paramsDecision p body t = (t.paramsByState n prs).renewed p n := by
  simp only [paramsDecision, hb, hn, hp, State.heldByOther_of_ne hh]; rfl

/-- What MUTE and UNMUTE decide once the slot is named and free. -/
def State.changeByState (t : State) (n : SlotId) (change : State → SlotId → State) : Verdict :=
  if t.slots[n].admitsChange then (change t n).answerDone else t.refuse .state

theorem muteChecks_byState {change : State → SlotId → State} (hn : slotField b0 = some n)
    (hh : t.holds[n].holder ≠ some p.other) :
    muteChecks p [b0] change t = (t.changeByState n change).renewed p n := by
  simp only [muteChecks, hn, State.heldByOther_of_ne hh, State.changeByState]
  cases t.slots[n].admitsChange <;> rfl

/-- What ROUTE decides once the slot and the pair are named and the slot is free. -/
def State.routeByState (t : State) (n : SlotId) (sends : SendSet) (r : PairId) : Verdict :=
  if t.slots[n].state = .fading then t.refuse .state else (t.routeSlot n sends r).answerDone

theorem routeDecision_byState {r : PairId} (hn : slotField b0 = some n) (hr : pairField b2 = some r)
    (hh : t.holds[n].holder ≠ some p.other) : routeDecision p [b0, b1, b2] t = (t.routeByState n b1 r).renewed p n := by
  simp only [routeDecision, hn, hr, State.heldByOther_of_ne hh, State.routeByState]
  split_ifs <;> first | contradiction | rfl

end

/-! ### ASSIGN of a new algorithm (R4, R7) -/

section
variable {s t : State} (n : SlotId) (a : Alg)

/-- How ASSIGN takes the regions placed for a new algorithm, by the slot's state before. -/
def State.takeNew (s : State) (n : SlotId) (a : Alg) (t : State) (es : List EntryId) : State :=
  if s.slots[n].state = .empty then
    let u := t.prepare n a a.defaults es
    u.setSlot n { u.slots[n] with muteWanted := false }
  else (t.giveBackLines s.slots[n].lines).prepare n a a.defaults es

theorem State.assignByState_new (h : s.slots[n].state = .empty ∨ s.slots[n].state = .preparing ∧ s.slots[n].algorithm ≠ some a) :
    s.assignByState n a = if s.loadFits n a.load then s.allocateFor n a (s.takeNew n a) else s.refuse .load := by
  rcases h with h | ⟨h, halg⟩
  · unfold State.assignByState State.assignEmpty State.takeNew
    rw [h]; rfl
  · unfold State.assignByState State.assignReplace State.takeNew
    rw [h]; dsimp only; rw [if_neg halg]; rfl

theorem State.prepare_slot (s : State) (b : Bank) (es : List EntryId) :
    (s.prepare n a b es).slots[n] = { s.slots[n] with
      state := .preparing, algorithm := some a, next := none, active := a.defaults, shadow := b, swapPending := true,
      lines := newLines es, clamped := false } := table_get_set_self _ _ _

theorem State.takeNew_of_empty (h : s.slots[n].state = .empty) (es : List EntryId) :
    s.takeNew n a t es =
      (t.prepare n a a.defaults es).setSlot n { (t.prepare n a a.defaults es).slots[n] with muteWanted := false } := if_pos h

theorem State.takeNew_of_not_empty (h : s.slots[n].state ≠ .empty) (es : List EntryId) :
    s.takeNew n a t es = (t.giveBackLines s.slots[n].lines).prepare n a a.defaults es := if_neg h

theorem State.takeNew_slot (q : Pool) (es : List EntryId) :
    (s.takeNew n a (s.setPool q) es).slots[n] = { s.slots[n] with
      state := .preparing, algorithm := some a, next := none, active := a.defaults, shadow := a.defaults, swapPending := true,
      lines := newLines es, clamped := false,
      muteWanted := if s.slots[n].state = .empty then false else s.slots[n].muteWanted } := by
  by_cases h : s.slots[n].state = .empty
  · rw [State.takeNew_of_empty n a h, State.setSlot_slots, table_get_set_self, State.prepare_slot, if_pos h]; rfl
  · rw [State.takeNew_of_not_empty n a h, State.prepare_slot, if_neg h]; rfl

theorem State.takeNew_pool (q : Pool) (es : List EntryId) : (s.takeNew n a (s.setPool q) es).pool =
    if s.slots[n].state = .empty then q else (s.slots[n].lines.flatMap Line.regions).foldl Pool.giveBack q := by
  by_cases h : s.slots[n].state = .empty
  · rw [State.takeNew_of_empty n a h, if_pos h]; rfl
  · rw [State.takeNew_of_not_empty n a h, if_neg h]; rfl

theorem State.takeNew_slotView {m : SlotId} (h : n ≠ m) (es : List EntryId) : (s.takeNew n a t es).slotView m = t.slotView m := by
  by_cases he : s.slots[n].state = .empty
  · rw [State.takeNew_of_empty n a he, State.setSlot_slotView _ h, State.prepare_slotView _ h]
  · rw [State.takeNew_of_not_empty n a he, State.prepare_slotView _ h, State.giveBackLines_slotView]

/-- What taking new regions leaves alone. -/
theorem State.takeNew_frame (es : List EntryId) :
    (s.takeNew n a t es).surroundings = t.surroundings ∧ (s.takeNew n a t es).morphs = t.morphs
      ∧ (s.takeNew n a t es).entries = t.entries ∧ (s.takeNew n a t es).recallRecord = t.recallRecord
      ∧ (s.takeNew n a t es).flagsOf = t.flagsOf := by
  by_cases h : s.slots[n].state = .empty
  · rw [State.takeNew_of_empty n a h, State.setSlot_surroundings, State.prepare_surroundings]
    generalize (t.prepare n a a.defaults es).slots[n] = sl
    exact ⟨rfl, rfl, rfl, rfl, rfl⟩
  · rw [State.takeNew_of_not_empty n a h, State.prepare_surroundings, State.giveBackLines_surroundings]
    unfold State.giveBackLines
    generalize (s.slots[n].lines.flatMap Line.regions).foldl Pool.giveBack t.pool = q
    exact ⟨rfl, rfl, rfl, rfl, rfl⟩

end

/-- Settles O4: load, pool, and the slot made of the regions placed, for an EMPTY and a PREPARING slot alike. -/
theorem assignNewAlgorithm : Obligations.AssignNewAlgorithm := by
  intro s t p tag b0 b1 n a htake hq hn ha hh hstate old
  have decides := assignDecision_byState hq hn ha hh
  have byState := t.assignByState_new n a hstate
  refine ⟨fun hover => ?_, fun hfit => ?_⟩
  · refine slotCommand_refuses htake decides (byState.trans (if_neg ?_)) (by decide)
    exact fun hf => absurd (of_decide_eq_true hf) (not_le.mpr hover)
  · have byState := byState.trans (if_pos (decide_eq_true hfit))
    unfold State.allocateFor at byState
    refine ⟨fun hf => ?_, fun hf => ?_, fun q es hok => ?_⟩
    · rw [hf] at byState; exact slotCommand_refuses htake decides byState (by decide)
    · rw [hf] at byState; exact slotCommand_refuses htake decides byState (by decide)
    · rw [hok] at byState
      refine ⟨_, slotCommand_answers htake decides byState (Or.inr rfl), ?_⟩
      have hslot := State.takeNew_slot (s := t) n a q es
      have hpool := State.takeNew_pool (s := t) n a q es
      obtain ⟨hsur, hmorphs, hentries, hrecall, hflags⟩ := State.takeNew_frame (s := t) (t := t.setPool q) n a es
      have hother : ∀ m : SlotId, n ≠ m → (t.takeNew n a (t.setPool q) es).startClearing.slotView m = t.slotView m :=
        fun m hm => State.takeNew_slotView n a hm es
      generalize t.takeNew n a (t.setPool q) es = w at *
      refine ⟨?_, fun he => ?_, fun hpr => ?_, ?_, ?_, State.answered_sameSlotsBut hother _, ?_, ?_, ?_⟩
      · rw [State.placeResult_slots, State.renew_slots]; exact hslot
      · rw [if_pos he] at hpool
        rw [State.placeResult_pool, State.renew_pool]; exact congrArg Pool.startJob hpool
      · rw [if_neg (by rw [hpr]; decide)] at hpool
        rw [State.placeResult_pool, State.renew_pool]; exact congrArg Pool.startJob hpool
      · rw [State.placeResult_morphs, State.renew_morphs]; exact hmorphs
      · rw [State.placeResult_entries, State.renew_entries]; exact hentries
      · rw [State.placeResult_recallRecord, State.renew_recallRecord]; exact hrecall
      · exact (State.answered_flagsOf _ p n _).trans hflags
      · rw [State.loadTally_of_loadView (State.answered_loadView _ p n _), State.answered,
          State.answered_surroundings (t := t) (u := w.startClearing) hsur]
        have code : (w.slots[n]).state = .preparing := by rw [hslot]
        have body : w.startClearing.assignBody n = [1, BitVec.ofNat 8 w.startClearing.loadTally] :=
          congrArg (fun st : SlotState => [st.code] ++ byte1 w.startClearing.loadTally) code
        rw [body]

end Sys2Proof.Machine

namespace Sys2Proof.Machine

/-! ### The shadow bank written and the needs evaluated (R7, R18, R44) -/

/-- `w` is `t` with a bank written into the shadow bank of slot `n`; its morph entry may have changed. -/
structure State.ShadowWritten (t w : State) (n : SlotId) (b : Bank) : Prop where
  slot : w.slots[n] = { t.slots[n] with shadow := b, swapPending := true }
  entry : w.entries[n] = t.entries[n]
  voice : w.voices[n] = t.voices[n]
  others : ∀ m : SlotId, n ≠ m → w.slotView m = t.slotView m
  surroundings : w.surroundings = t.surroundings

section
variable {s t w : State} {n : SlotId} {b : Bank} {ixs : List ParamIx}

@[simp] theorem State.removeMorph_slots (s : State) (n : SlotId) : (s.removeMorph n).slots = s.slots := by
  unfold State.removeMorph; split <;> simp

@[simp] theorem State.removeMorph_entries (s : State) (n : SlotId) : (s.removeMorph n).entries = s.entries := by
  unfold State.removeMorph; split <;> simp

@[simp] theorem State.removeMorph_voices (s : State) (n : SlotId) : (s.removeMorph n).voices = s.voices := by
  unfold State.removeMorph; split <;> simp

theorem State.removeMorph_morph (s : State) (n : SlotId) : (s.removeMorph n).morphs[n] = none := by
  unfold State.removeMorph; split
  · assumption
  · rw [State.leaveWaiting_morphs, State.setMorph_morphs, table_get_set_self]

@[simp] theorem State.endMorphing_slots (s : State) (n : SlotId) (ixs : List ParamIx) : (s.endMorphing n ixs).slots = s.slots := by
  unfold State.endMorphing; dsimp only; split
  · rfl
  · split_ifs <;> simp

@[simp] theorem State.endMorphing_entries (s : State) (n : SlotId) (ixs : List ParamIx) :
    (s.endMorphing n ixs).entries = s.entries := by
  unfold State.endMorphing; dsimp only; split
  · rfl
  · split_ifs <;> simp

@[simp] theorem State.endMorphing_voices (s : State) (n : SlotId) (ixs : List ParamIx) :
    (s.endMorphing n ixs).voices = s.voices := by
  unfold State.endMorphing; dsimp only; split
  · rfl
  · split_ifs <;> simp

theorem State.writeShadow_slot (s : State) (n : SlotId) (b : Bank) :
    (s.writeShadow n b).slots[n] = { s.slots[n] with shadow := b, swapPending := true } := table_get_set_self _ _ _

/-- R10: the morph entry removed and a bank written. -/
theorem State.ShadowWritten.removed (t : State) (n : SlotId) (b : Bank) :
    t.ShadowWritten ((t.removeMorph n).writeShadow n b) n b where
  slot := by rw [State.writeShadow_slot, State.removeMorph_slots]
  entry := congrArg (·[n]) (t.removeMorph_entries n)
  voice := congrArg (·[n]) (t.removeMorph_voices n)
  others m h := by rw [State.writeShadow_slotView _ h, State.removeMorph_slotView _ h]
  surroundings := by simp

/-- R18, R126: a bank written and the indices written taken out of the morph. -/
theorem State.ShadowWritten.morphEnded (t : State) (n : SlotId) (b : Bank) (ixs : List ParamIx) :
    t.ShadowWritten ((t.writeShadow n b).endMorphing n ixs) n b where
  slot := by rw [State.endMorphing_slots, State.writeShadow_slot]
  entry := congrArg (·[n]) (State.endMorphing_entries _ n ixs)
  voice := congrArg (·[n]) (State.endMorphing_voices _ n ixs)
  others m h := by rw [State.endMorphing_slotView _ h, State.writeShadow_slotView _ h]
  surroundings := by simp

/-- An operation on one slot that keeps its charge keeps the load view. -/
theorem State.loadView_of_slot (n : SlotId) (hs : t.surroundings = s.surroundings)
    (ho : ∀ m : SlotId, n ≠ m → t.slotView m = s.slotView m) (hc : t.slots[n].charge = s.slots[n].charge) :
    t.loadView = s.loadView := by
  refine Prod.ext (funext fun m => ?_)
    (congrArg (fun v : State => (v.rate, v.power)) hs : (t.surroundings.rate, t.surroundings.power) = _)
  by_cases hm : n = m
  · subst hm; exact hc
  · exact congrArg (fun v => v.1.charge) (ho m hm)

/-- R52: only a PREPARING slot has a replacement to fail. -/
theorem State.not_evaluationFails (h : s.slots[n].state ≠ .preparing) : ¬ s.evaluationFails n ixs := by
  rintro ⟨a, before, l, rest, _, _, _, _, _, hstate, _⟩
  have core : (before.foldl (fun t k => t.evalNeed n k) s).slotCore n = s.slotCore n :=
    foldl_holds (fun t => t.slotCore n = s.slotCore n) _
      (fun t k ht => (t.evalNeed_slotCore k (by rw [State.slotCore_state ht]; exact h)).trans ht) before s rfl
  exact h (State.slotCore_state core ▸ hstate)

variable (hw : t.ShadowWritten w n b)
include hw

/-- Where no replacement fails: the slot's lines and clamped flag follow the evaluation, the rest is as written. -/
theorem State.ShadowWritten.evaluated (hf : ¬ w.evaluationFails n ixs) :
    (w.evalWritten n ixs).slots[n] = { t.slots[n] with
        shadow := b, swapPending := true, lines := (w.evalWritten n ixs).slots[n].lines,
        clamped := (w.evalWritten n ixs).slots[n].clamped }
      ∧ (w.evalWritten n ixs).morphs[n] = w.morphs[n] ∧ (w.evalWritten n ixs).entries[n] = t.entries[n]
      ∧ (w.evalWritten n ixs).voices[n] = t.voices[n] := by
  have core := w.evalWritten_of_not_fails n hf
  refine ⟨?_, congrArg (·.2.1) core, (congrArg (·.2.2.1) core).trans hw.entry, (congrArg (·.2.2.2) core).trans hw.voice⟩
  exact (State.slotCore_slot core).trans (by rw [hw.slot])

/-- Where one fails the slot is emptied. -/
theorem State.ShadowWritten.emptied (hf : w.evaluationFails n ixs) : t.emptiedFrom (w.evalWritten n ixs) n := by
  obtain ⟨hslot, hflags⟩ := w.evalWritten_of_fails n hf
  exact ⟨by rw [hslot, hw.slot], hflags⟩

theorem State.ShadowWritten.evaluated_others (m : SlotId) (h : n ≠ m) :
    (w.evalWritten n ixs).startClearing.slotView m = t.slotView m :=
  (w.evalWritten_slotView h ixs).trans (hw.others m h)

theorem State.ShadowWritten.evaluated_surroundings : (w.evalWritten n ixs).startClearing.surroundings = t.surroundings :=
  (w.evalWritten_surroundings n ixs).trans hw.surroundings

end

section
variable {t w : State} {p : Port} {n : SlotId}

theorem State.emptiedFrom_answered {u : State} (h : t.emptiedFrom u n) (r : Result) :
    t.emptiedFrom (u.startClearing.answered p n r) n := by
  obtain ⟨hslot, hshort, hempty⟩ := h
  have hflags := State.answered_flagsOf u.startClearing p n r
  refine ⟨?_, State.flagged_of_flagsOf hflags hshort, State.flagged_of_flagsOf hflags hempty⟩
  rw [State.placeResult_slots, State.renew_slots]; exact hslot

theorem State.assignByState_own {a : Alg} (ha : t.slots[n].algorithm = some a)
    (hs : t.slots[n].state = .running ∨ t.slots[n].state = .muted ∨ t.slots[n].state = .preparing) :
    t.assignByState n a = t.assignSame n a := by
  unfold State.assignByState
  rw [ha]
  rcases hs with h | h | h <;> (rw [h]; exact if_pos rfl)

end

/-- Settles O5: the defaults are written, the morph goes and every line is evaluated; a replacement that fails empties the slot. -/
theorem assignOwnAlgorithm : Obligations.AssignOwnAlgorithm := by
  intro s t p tag b0 b1 n a htake hq hn ha hh halg w evaluated
  have hw : t.ShadowWritten w n a.defaults := .removed t n a.defaults
  have answers : (t.slots[n].state = .running ∨ t.slots[n].state = .muted ∨ t.slots[n].state = .preparing) →
      exec (.assign p tag [b0, b1]) s =
        .next (evaluated.startClearing.answered p n ⟨tag, 0x01, .done, evaluated.startClearing.assignBody n⟩) := fun hs =>
    slotCommand_answers htake (assignDecision_byState hq hn ha hh) (State.assignByState_own halg hs) (Or.inl rfl)
  have others : ∀ r, (evaluated.startClearing.answered p n r).sameSlotsBut t n := State.answered_sameSlotsBut hw.evaluated_others
  have slots : ∀ r, (evaluated.startClearing.answered p n r).slots = evaluated.slots := fun r => by
    rw [State.placeResult_slots, State.renew_slots]; rfl
  have pool : ∀ r, (evaluated.startClearing.answered p n r).pool = evaluated.pool.startJob := fun r => by
    rw [State.placeResult_pool, State.renew_pool]; rfl
  refine ⟨fun hs => ?_, fun hs => ?_⟩
  · have hnot : ¬ w.evaluationFails n allParams := State.not_evaluationFails (by
      rw [hw.slot]; rcases hs with h | h <;> (dsimp only; rw [h]; decide))
    obtain ⟨hslot, hmorph, hentry, hvoice⟩ := hw.evaluated hnot
    have hview : evaluated.startClearing.loadView = t.loadView :=
      State.loadView_of_slot n hw.evaluated_surroundings hw.evaluated_others ((congrArg Slot.charge hslot).trans rfl)
    refine ⟨_, answers (hs.imp_right Or.inl), ?_, ?_, ?_, ?_, others _, pool _, ?_⟩
    · rw [slots]; exact hslot
    · rw [State.placeResult_morphs, State.renew_morphs]; exact hmorph.trans (State.removeMorph_morph t n)
    · rw [State.placeResult_entries, State.renew_entries]; exact hentry
    · rw [State.placeResult_voices, State.renew_voices]
      refine table_ext fun m => ?_
      by_cases hm : n = m
      · subst hm; exact hvoice
      · exact congrArg (·.2.2.2) (hw.evaluated_others (ixs := allParams) m hm)
    · have body : evaluated.startClearing.assignBody n = [t.slots[n].state.code, BitVec.ofNat 8 t.loadTally] := by
        unfold State.assignBody
        rw [State.loadTally_of_loadView hview]
        exact (congrArg (fun sl : Slot => [sl.state.code] ++ byte1 t.loadTally) hslot).trans rfl
      rw [body]; exact State.answered_surroundings hw.evaluated_surroundings _
  · refine ⟨_, answers (Or.inr (Or.inr hs)), others _, pool _, fun hf => ?_, fun hf => State.emptiedFrom_answered (hw.emptied hf) _, ?_⟩
    · rw [slots]; exact (hw.evaluated hf).1
    · rw [slots, State.loadTally_of_loadView (State.answered_loadView _ p n _)]
      exact State.answered_surroundings hw.evaluated_surroundings _

/-! ### PARAMS (R18, R27, R28, R126) -/

section
variable (a : Alg) (b : Bank) (prs : List (ParamIx × Int))

/-- R26: the tempo-locked banks. -/
theorem Alg.locked_iff : a.locked b = true ↔ (a = .tape ∨ a = .pingpong) ∧ b[2].toNat ≠ 0 := by
  unfold Alg.locked Bank.division
  cases a <;> simp [Alg.timeDriven]

/-- R18, R28: the pairs suit the algorithm, and no pair writes a locked time. -/
theorem Alg.pairsOk_iff : a.pairsOk b prs = true ↔
    (∀ pr ∈ prs, a.admits pr.1 pr.2 = true) ∧ ¬ (a.locked (b.write prs) = true ∧ ∃ pr ∈ prs, pr.1 = 0) := by
  have free : ((prs.any (·.1 == timeIx)) = true) ↔ ∃ pr ∈ prs, pr.1 = 0 := by simp
  unfold Alg.pairsOk
  rw [Bool.and_eq_true, List.all_eq_true, Bool.not_eq_true', ← free, ← Bool.and_eq_true, Bool.not_eq_true]

theorem Alg.mem_writtenBy (ix : ParamIx) : ix ∈ a.writtenBy b prs ↔
    (∃ pr ∈ prs, pr.1 = ix) ∨ ix = 0 ∧ a.locked (b.write prs) = true := by
  unfold Alg.writtenBy
  by_cases h : a.locked (b.write prs) = true <;> simp [h]

theorem Bank.afterParams_eq (tempo : Nat) : b.afterParams a tempo prs = a.withDerived tempo (b.write prs) := by
  unfold Bank.afterParams Alg.withDerived
  rw [if_congr (Alg.locked_iff a (b.write prs)) rfl rfl]
  rfl

end

section
variable {s : State} {n : SlotId} {m : Morph} {ixs : List ParamIx}

theorem State.endMorphing_of_none (h : s.morphs[n] = none) : (s.endMorphing n ixs).morphs[n] = none := by
  unfold State.endMorphing; rw [h]; exact h

/-- The indices left of a morphing set. -/
def Morph.without (m : Morph) (ixs : List ParamIx) : BitVec 12 :=
  ixs.foldl (fun (w : BitVec 12) (ix : ParamIx) => w &&& ~~~(1#12 <<< ix.val)) m.morphing

theorem Morph.mem_without (m : Morph) (ixs : List ParamIx) (ix : ParamIx) :
    (m.without ixs).getLsbD ix.val = true ↔ m.morphing.getLsbD ix.val = true ∧ ix ∉ ixs := by
  unfold Morph.without; rw [clearedBits]; simp

theorem State.endMorphing_of_some (h : s.morphs[n] = some m) :
    s.endMorphing n ixs = if m.without ixs = 0 then s.removeMorph n
      else s.setMorph n (some { m with morphing := m.without ixs }) := by
  unfold State.endMorphing; rw [h]; rfl

/-- R126: a morph whose every index is written goes. -/
theorem State.endMorphing_all (h : s.morphs[n] = some m) (hall : ∀ ix : ParamIx, m.morphing.getLsbD ix.val = true → ix ∈ ixs) :
    (s.endMorphing n ixs).morphs[n] = none := by
  have zero : m.without ixs = 0 := by
    refine BitVec.eq_of_getLsbD_eq fun i hi => ?_
    have := m.mem_without ixs ⟨i, hi⟩
    by_contra hne
    have hbit : (m.without ixs).getLsbD i = true := by simpa using hne
    exact (this.mp hbit).2 (hall _ (this.mp hbit).1)
  rw [State.endMorphing_of_some h, if_pos zero, State.removeMorph_morph]

/-- R126: one that keeps an index keeps those not written. -/
theorem State.endMorphing_some (h : s.morphs[n] = some m) {ix : ParamIx} (hix : m.morphing.getLsbD ix.val = true) (hne : ix ∉ ixs) :
    (s.endMorphing n ixs).morphs[n] = some { m with morphing := m.without ixs } := by
  have nonzero : m.without ixs ≠ 0 := fun e => by
    have := (m.mem_without ixs ix).mpr ⟨hix, hne⟩
    rw [e] at this; simp at this
  rw [State.endMorphing_of_some h, if_neg nonzero, State.setMorph_morphs, table_get_set_self]

theorem State.paramsByState_of (a : Alg) (prs : List (ParamIx × Int))
    (hs : s.slots[n].state = .preparing ∨ s.slots[n].state = .running ∨ s.slots[n].state = .muted)
    (ha : s.slots[n].algorithm = some a) :
    s.paramsByState n prs =
      if a.pairsOk s.slots[n].shadow prs then (s.writeParams n a prs).answerDone else s.refuse .range := by
  unfold State.paramsByState
  rw [ha]
  rcases hs with h | h | h <;> rw [h]

end

/-- Settles O9: pairs that all suit are written and the needs evaluated; one that does not refuses them all. -/
theorem paramsAllOrNothing : Obligations.ParamsAllOrNothing := by
  intro s t p tag b0 body n a raw prs htake hbody hindexed hn hh hstate halg left lockedTime leaves bank w evaluated emptied
  have decides := paramsDecision_byState hbody hindexed hn hh
  have byState := State.paramsByState_of a prs hstate halg
  have locked : a.locked (t.slots[n].shadow.write prs) = true ↔ (a = .tape ∨ a = .pingpong) ∧ left[2].toNat ≠ 0 :=
    Alg.locked_iff a _
  have suits : a.pairsOk t.slots[n].shadow prs = true ↔ (∀ pr ∈ prs, a.admits pr.1 pr.2 = true) ∧ ¬ lockedTime := by
    rw [Alg.pairsOk_iff, locked, and_assoc]
  have written : ∀ ix, ix ∈ a.writtenBy t.slots[n].shadow prs ↔ leaves ix := fun ix => by
    rw [Alg.mem_writtenBy, locked]
  refine ⟨fun hall hunlocked => ?_, fun hbad => ?_⟩
  · rw [if_pos (suits.mpr ⟨hall, hunlocked⟩)] at byState
    have hw : t.ShadowWritten w n bank := .morphEnded t n bank _
    have hstep : t.writeParams n a prs = evaluated.startClearing := by
      unfold State.writeParams; rw [← Bank.afterParams_eq]
    rw [hstep] at byState
    refine ⟨_, slotCommand_answers htake decides byState (Or.inl rfl), State.answered_sameSlotsBut hw.evaluated_others _, ?_,
      State.answered_surroundings hw.evaluated_surroundings _, fun hstay => ?_,
      fun _ hf => State.emptiedFrom_answered (hw.emptied hf) _⟩
    · rw [State.placeResult_pool, State.renew_pool]; rfl
    · have hnot : ¬ emptied := hstay.elim (fun h => State.not_evaluationFails (by rw [hw.slot]; exact h)) id
      obtain ⟨hslot, hmorph, _, hvoice⟩ := hw.evaluated hnot
      rw [State.placeResult_slots, State.renew_slots, State.placeResult_voices, State.renew_voices, State.placeResult_morphs,
        State.renew_morphs]
      refine ⟨hslot, hvoice, fun hnone => hmorph.trans (State.endMorphing_of_none hnone), fun m hm => ⟨fun hcover => ?_, ?_⟩⟩
      · exact hmorph.trans (State.endMorphing_all hm fun ix hix => (written ix).mpr (hcover ix hix))
      · rintro ⟨ix, hix, hkeep⟩
        refine ⟨m.without (a.writtenBy t.slots[n].shadow prs),
          hmorph.trans (State.endMorphing_some hm hix fun hmem => hkeep ((written ix).mp hmem)), fun k => ?_⟩
        rw [Morph.mem_without, written]
  · have hnot : ¬ a.pairsOk t.slots[n].shadow prs = true := fun hok => by
      obtain ⟨hadmits, hfree⟩ := suits.mp hok
      rcases hbad with ⟨pr, hpr, hout⟩ | hlocked
      · rw [hadmits pr hpr] at hout; cases hout
      · exact hfree hlocked
    rw [if_neg hnot] at byState
    exact slotCommand_refuses htake decides byState (by decide)

end Sys2Proof.Machine

namespace Sys2Proof.Machine

/-! ### End fades (R9) -/

section
variable {s t : State} {p : Port} (n : SlotId)

theorem State.requestFade_of_begun (h : s.voices[n].begun = true) (g : Rat) (k : Nat) :
    s.requestFade n g k = s.setVoice n { s.voices[n] with
      fade := some { start := s.voices[n].gain, target := g, length := k, left := k } } := if_pos h

theorem State.requestFade_of_not_begun (h : ¬ s.voices[n].begun = true) (g : Rat) (k : Nat) : s.requestFade n g k = s :=
  if_neg h

theorem State.requestFade_voice (s : State) (n : SlotId) (g : Rat) (k : Nat) : (s.requestFade n g k).voices[n] =
    { s.voices[n] with
      fade := if s.voices[n].begun then some { start := s.voices[n].gain, target := g, length := k, left := k }
              else s.voices[n].fade } := by
  by_cases h : s.voices[n].begun = true
  · rw [State.requestFade_of_begun n h, State.setVoice_voices, table_get_set_self, if_pos h]
  · rw [State.requestFade_of_not_begun n h, if_neg h]

@[simp] theorem State.requestFade_slots (s : State) (n : SlotId) (g : Rat) (k : Nat) : (s.requestFade n g k).slots = s.slots := by
  unfold State.requestFade; split_ifs <;> rfl

@[simp] theorem State.requestFade_morphs (s : State) (n : SlotId) (g : Rat) (k : Nat) :
    (s.requestFade n g k).morphs = s.morphs := by
  unfold State.requestFade; split_ifs <;> rfl

@[simp] theorem State.requestFade_entries (s : State) (n : SlotId) (g : Rat) (k : Nat) :
    (s.requestFade n g k).entries = s.entries := by
  unfold State.requestFade; split_ifs <;> rfl

theorem State.followInput_voice (s : State) (n : SlotId) : (s.followInput n).voices[n] =
    { s.voices[n] with inputOpen := s.voices[n].begun && s.slots[n].inputWanted } := table_get_set_self _ _ _

theorem State.beginFading_slots (next : Option Alg) :
    (s.beginFading n next).slots = s.slots.set n { s.slots[n] with state := .fading, next := next } := by
  show ((((s.setSlot n _).removeMorph n).requestFade n 0 16)).slots = _
  rw [State.requestFade_slots, State.removeMorph_slots]; rfl

/-- R9: what starting an end fade leaves of the slot and of the others. -/
theorem State.beginFading_endFadeFrom (next : Option Alg) (r : Result) :
    s.endFadeFrom ((s.beginFading n next).answered p n r) n next := by
  have slot : (s.beginFading n next).slots[n] = { s.slots[n] with state := .fading, next := next } := by
    rw [State.beginFading_slots, table_get_set_self]
  refine ⟨?_, ?_, ?_, ?_, ?_, State.answered_sameSlotsBut (fun m hm => s.beginFading_slotView hm next) r⟩
  · rw [State.placeResult_slots, State.renew_slots]; exact slot
  · rw [State.placeResult_morphs, State.renew_morphs]
    show ((((s.setSlot n _).removeMorph n).requestFade n 0 16)).morphs[n] = _
    rw [State.requestFade_morphs, State.removeMorph_morph]
  · rw [State.placeResult_entries, State.renew_entries]
    show ((((s.setSlot n _).removeMorph n).requestFade n 0 16)).entries[n] = _
    rw [State.requestFade_entries, State.removeMorph_entries]; rfl
  · have closed : (s.beginFading n next).slots[n].inputWanted = false := by rw [slot]; rfl
    rw [State.placeResult_voices, State.renew_voices]
    unfold State.beginFading at closed ⊢
    rw [State.followInput_voice, show ∀ v : State, (v.followInput n).slots = v.slots from fun _ => rfl] at *
    rw [closed, State.requestFade_voice, State.removeMorph_voices, Bool.and_false]; rfl
  · rw [State.placeResult_pool, State.renew_pool, State.beginFading_pool]

theorem State.assignByState_fade {old a : Alg} (hs : t.slots[n].state = .running ∨ t.slots[n].state = .muted)
    (ho : t.slots[n].algorithm = some old) (hne : a ≠ old) : t.assignByState n a = t.assignFade n old a := by
  unfold State.assignByState
  rw [ho]
  rcases hs with h | h <;> (rw [h]; exact if_neg hne.symm)

theorem State.clearByState_fade (hs : t.slots[n].state = .running ∨ t.slots[n].state = .muted) :
    t.clearByState n = (t.beginFading n none).answerAccepted [4] := by
  have body : (t.beginFading n none).clearBody n = [4] := by
    unfold State.clearBody; rw [State.beginFading_slots, table_get_set_self]; rfl
  unfold State.clearByState
  rcases hs with h | h <;> (rw [h]; dsimp only; rw [body])

end

/-- Settles O6: ASSIGN checks the larger of both loads, CLEAR nothing; both start the same fade. -/
theorem endFadeStarts : Obligations.EndFadeStarts := by
  intro s t p tag b0 b1 n old a hn hq hh hstate halg
  refine ⟨fun htake ha hne => ?_, fun htake => ?_⟩
  · have decides := assignDecision_byState hq hn ha hh
    have byState := State.assignByState_fade n hstate halg hne
    refine ⟨fun hfit => ?_, fun hover => ?_⟩
    · have body : (t.beginFading n (some a)).assignBody n = [4, BitVec.ofNat 8 (t.beginFading n (some a)).loadTally] := by
        unfold State.assignBody; rw [State.beginFading_slots, table_get_set_self]; rfl
      have fades : t.assignByState n a =
          (t.beginFading n (some a)).answerAccepted ((t.beginFading n (some a)).assignBody n) :=
        byState.trans (if_pos (decide_eq_true hfit))
      rw [body] at fades
      refine ⟨_, slotCommand_answers htake decides fades (Or.inr rfl), State.beginFading_endFadeFrom n _ _, ?_⟩
      rw [State.loadTally_of_loadView (State.answered_loadView _ p n _)]
      exact State.answered_surroundings (by simp) _
    · refine slotCommand_refuses htake decides (byState.trans (if_neg ?_)) (by decide)
      exact fun hf => absurd (of_decide_eq_true hf) (not_le.mpr hover)
  · refine ⟨_, slotCommand_answers htake (clearDecision_byState hq hn hh) (State.clearByState_fade n hstate) (Or.inr rfl),
      State.beginFading_endFadeFrom n none _, State.answered_surroundings (by simp) _⟩

/-- Settles O7: CLEAR of an EMPTY slot answers at once, and that of a PREPARING one empties it. -/
theorem clearEmptiesAtOnce : Obligations.ClearEmptiesAtOnce := by
  intro s t p tag b0 n htake hq hn hh
  have decides := clearDecision_byState hq hn hh
  refine ⟨fun he => ?_, fun hp => ?_⟩
  · have byState : t.clearByState n = t.answerDone [0] := by
      unfold State.clearByState State.clearBody; rw [he]; rfl
    exact slotCommand_answers htake decides byState (Or.inl rfl)
  · have byState : t.clearByState n = (t.emptySlot n).answerDone [0] := by
      unfold State.clearByState State.clearBody; rw [hp]; dsimp only; rw [State.emptySlot_slot]; rfl
    refine ⟨_, slotCommand_answers htake decides byState (Or.inl rfl), ?_, ?_, ?_, ?_, ?_, ?_,
      State.answered_sameSlotsBut (fun m hm => t.emptySlot_slotView hm) _,
      State.flagged_of_flagsOf (State.answered_flagsOf _ p n _) (State.emptySlot_slotEmpty t),
      State.answered_surroundings (by simp) _⟩
    · rw [State.placeResult_slots, State.renew_slots]; exact State.emptySlot_slot t n
    · rw [State.placeResult_morphs, State.renew_morphs]; exact State.emptySlot_morph t n
    · rw [State.placeResult_entries, State.renew_entries]; exact State.emptySlot_entry t n
    · rw [State.placeResult_voices, State.renew_voices, State.emptySlot_voices, State.endVoice_voice]
    · rw [State.placeResult_voices, State.renew_voices, State.emptySlot_voices, State.endVoice_voice]
    · rw [State.placeResult_pool, State.renew_pool, State.emptySlot_pool]; rfl

/-! ### FADING slots (R11) -/

section
variable {s t : State} {p : Port} (n : SlotId)

@[simp] theorem State.removeEntry_slots (s : State) (n : SlotId) : (s.removeEntry n).slots = s.slots := by
  unfold State.removeEntry; split <;> simp

@[simp] theorem State.removeEntry_morphs (s : State) (n : SlotId) : (s.removeEntry n).morphs = s.morphs := by
  unfold State.removeEntry; split <;> simp

@[simp] theorem State.removeEntry_voices (s : State) (n : SlotId) : (s.removeEntry n).voices = s.voices := by
  unfold State.removeEntry; split <;> simp

theorem State.removeEntry_entry (s : State) (n : SlotId) : (s.removeEntry n).entries[n] = none := by
  unfold State.removeEntry; split
  · assumption
  · rw [State.leaveWaiting_entries, State.setEntry_entries, table_get_set_self]

/-- R11: the algorithm that follows is settled and a pending entry dropped. -/
def State.settleNext (s : State) (n : SlotId) (next : Option Alg) : State :=
  (s.setSlot n { s.slots[n] with next := next }).removeEntry n

theorem State.settleNext_slot (next : Option Alg) : (s.settleNext n next).slots[n] = { s.slots[n] with next := next } := by
  rw [State.settleNext, State.removeEntry_slots, State.setSlot_slots, table_get_set_self]

theorem State.settleNext_surroundings (next : Option Alg) : (s.settleNext n next).surroundings = s.surroundings := by
  simp [State.settleNext]

/-- What settling the algorithm that follows leaves of the slot, and alone. -/
theorem State.settleNext_answered (next : Option Alg) (r : Result) :
    let u := (s.settleNext n next).answered p n r
    u.slots[n] = { s.slots[n] with next := next } ∧ u.entries[n] = none ∧ u.voices = s.voices ∧ u.pool = s.pool
      ∧ u.morphs = s.morphs ∧ u.sameSlotsBut s n := by
  refine ⟨?_, ?_, ?_, ?_, ?_, State.answered_sameSlotsBut (fun m hm => ?_) r⟩
  · rw [State.placeResult_slots, State.renew_slots]; exact State.settleNext_slot n next
  · rw [State.placeResult_entries, State.renew_entries]; exact State.removeEntry_entry _ n
  · rw [State.placeResult_voices, State.renew_voices]; exact State.removeEntry_voices _ n
  · rw [State.placeResult_pool, State.renew_pool]; exact State.removeEntry_pool _ n
  · rw [State.placeResult_morphs, State.renew_morphs]; exact State.removeEntry_morphs _ n
  · rw [State.settleNext, State.removeEntry_slotView _ hm, State.setSlot_slotView _ hm]

theorem State.changeByState_refused (h : t.slots[n].state = .empty ∨ t.slots[n].state = .fading)
    (change : State → SlotId → State) : t.changeByState n change = t.refuse .state := by
  unfold State.changeByState Slot.admitsChange
  rcases h with h | h <;> (rw [h]; rfl)

theorem State.changeByState_taken (h : t.slots[n].state ≠ .empty) (h' : t.slots[n].state ≠ .fading)
    (change : State → SlotId → State) : t.changeByState n change = (change t n).answerDone := by
  refine if_pos ?_
  simp only [Slot.admitsChange, Bool.and_eq_true, bne_iff_ne, ne_eq]
  exact ⟨h, h'⟩

end

/-- Settles O8: a FADING slot takes what follows, and refuses what would change what it plays. -/
theorem fadingSlotSettlesWhatFollows : Obligations.FadingSlotSettlesWhatFollows := by
  intro s t p tag b0 n hn hh hstate
  have code : ∀ next, ((t.settleNext n next).slots[n]).state.code = 4 := fun next => by
    rw [State.settleNext_slot, hstate]; rfl
  refine ⟨fun b1 old a htake hq ha halg hfit => ?_, fun htake hq => ?_, fun body raw prs htake hbody hindexed => ?_,
    fun htake => ?_, fun htake => ?_, fun b1 b2 r htake hr => ?_⟩
  · have byState : t.assignByState n a = (t.settleNext n (some a)).answerAccepted
        [4, BitVec.ofNat 8 (t.settleNext n (some a)).loadTally] := by
      have fading : t.assignByState n a = t.assignNext n old a := by
        unfold State.assignByState; rw [hstate, halg]
      rw [fading, ← code (some a)]
      exact if_pos (decide_eq_true hfit)
    obtain ⟨hslot, hentry, hvoice, hpool, hmorph, hother⟩ := State.settleNext_answered (s := t) (p := p) n (some a)
      ⟨tag, 0x01, .accepted, [4, BitVec.ofNat 8 (t.settleNext n (some a)).loadTally]⟩
    refine ⟨_, slotCommand_answers htake (assignDecision_byState hq hn ha hh) byState (Or.inr rfl),
      hslot, hentry, hvoice, hpool, hmorph, hother, ?_⟩
    rw [State.loadTally_of_loadView (State.answered_loadView _ p n _)]
    exact State.answered_surroundings (State.settleNext_surroundings n _) _
  · have byState : t.clearByState n = (t.settleNext n none).answerAccepted [4] := by
      unfold State.clearByState; rw [hstate]; dsimp only
      rw [← code none]; rfl
    obtain ⟨hslot, hentry, hvoice, hpool, hmorph, hother⟩ := State.settleNext_answered (s := t) (p := p) n none
      ⟨tag, 0x02, .accepted, [4]⟩
    exact ⟨_, slotCommand_answers htake (clearDecision_byState hq hn hh) byState (Or.inr rfl),
      hslot, hentry, hvoice, hpool, hmorph, hother, State.answered_surroundings (State.settleNext_surroundings n _) _⟩
  · have byState : t.paramsByState n prs = t.refuse .state := by
      unfold State.paramsByState; rw [hstate]
    exact slotCommand_refuses htake (paramsDecision_byState hbody hindexed hn hh) byState (by decide)
  · exact slotCommand_refuses htake (muteChecks_byState hn hh) (State.changeByState_refused n (Or.inr hstate) _) (by decide)
  · exact slotCommand_refuses htake (muteChecks_byState hn hh) (State.changeByState_refused n (Or.inr hstate) _) (by decide)
  · exact slotCommand_refuses htake (routeDecision_byState hn hr hh) (if_pos hstate) (by decide)

/-! ### MUTE and UNMUTE (R8, R70) -/

section
variable {s t : State} {p : Port} {n : SlotId}

/-- A hold renewed commutes with what a slot command writes into the slots and voices. -/
theorem State.renew_write (s : State) (p : Port) (n : SlotId) (v : Vector Slot 16) (w : Vector Voice 16) :
    ({ s with slots := v, voices := w } : State).renew p n = { s.renew p n with slots := v, voices := w } := by
  unfold State.renew
  have hport : ({ s with slots := v, voices := w } : State).port p = s.port p := by cases p <;> rfl
  rw [hport]; dsimp only; split_ifs <;> rfl

theorem State.renew_setSlot (s : State) (p : Port) (n : SlotId) (v : Slot) :
    (s.setSlot n v).renew p n = { s.renew p n with slots := s.slots.set n v } := by
  unfold State.renew
  rw [State.setSlot_port, State.setSlot_holds]; split_ifs <;> rfl

/-- R63, R70: the voices after a mute or unmute is told to the Voice Engine. -/
theorem State.soundMute_eq (s : State) (n : SlotId) (g : Rat) : s.soundMute n g = { s with
    voices := if s.stopped then s.voices else s.voices.set n { s.voices[n] with
      inputOpen := s.voices[n].begun && s.slots[n].inputWanted,
      fade := if s.voices[n].begun then some { start := s.voices[n].gain, target := g, length := 8, left := 8 }
              else s.voices[n].fade } } := by
  by_cases h : s.stopped = true
  · rw [State.soundMute_of_stopped s n g h, if_pos h]
  · have told : s.soundMute n g = (s.requestFade n g 8).followInput n := if_neg h
    rw [told, if_neg h]
    by_cases hb : s.voices[n].begun = true
    · rw [State.requestFade_of_begun n hb, if_pos hb]
      simp only [State.followInput, State.setVoice, table_get_set_self, Vector.set_set]
    · rw [State.requestFade_of_not_begun n hb, if_neg hb]; rfl

/-- R8: a MUTED slot was RUNNING: the fade to 0, the input closed. -/
theorem State.muteSlot_running (h : s.slots[n].state = .running) : s.muteSlot n = { s with
    slots := s.slots.set n { s.slots[n] with state := .muted, muteWanted := true },
    voices := if s.stopped then s.voices else s.voices.set n { s.voices[n] with
      inputOpen := false,
      fade := if s.voices[n].begun then some { start := s.voices[n].gain, target := 0, length := 8, left := 8 }
              else s.voices[n].fade } } := by
  unfold State.muteSlot; rw [h]; dsimp only
  rw [State.soundMute_eq, State.setSlot_slots, table_get_set_self]
  unfold Slot.inputWanted
  rw [show (SlotState.muted == SlotState.running) = false from rfl, Bool.false_and, Bool.and_false]; rfl

/-- R8: an unmuted slot: the fade to 1, the input open unless the slot is frozen. -/
theorem State.unmuteSlot_muted (h : s.slots[n].state = .muted) : s.unmuteSlot n = { s with
    slots := s.slots.set n { s.slots[n] with state := .running, muteWanted := false },
    voices := if s.stopped then s.voices else s.voices.set n { s.voices[n] with
      inputOpen := s.voices[n].begun && !s.slots[n].frozen,
      fade := if s.voices[n].begun then some { start := s.voices[n].gain, target := 1, length := 8, left := 8 }
              else s.voices[n].fade } } := by
  unfold State.unmuteSlot; rw [h]; dsimp only
  rw [State.soundMute_eq, State.setSlot_slots, table_get_set_self]
  rfl

end

/-- Settles O10: the two commands in each of the five slot states. -/
theorem muteAndUnmute : Obligations.MuteAndUnmute := by
  intro s t p tag b0 n hn hh
  refine ⟨fun htake => ⟨fun hr => ?_, fun hm => ?_, fun hp => ?_, fun he => ?_⟩,
    fun htake => ⟨fun hm => ?_, fun hr => ?_, fun hp => ?_, fun he => ?_⟩⟩
  · have taken := State.changeByState_taken (t := t) n (by rw [hr]; decide) (by rw [hr]; decide) State.muteSlot
    rw [State.muteSlot_running hr] at taken
    exact (slotCommand_answers htake (muteChecks_byState hn hh) taken (Or.inl rfl)).trans
      (by rw [State.answered, State.renew_write])
  · have taken := State.changeByState_taken (t := t) n (by rw [hm]; decide) (by rw [hm]; decide) State.muteSlot
    have stays : t.muteSlot n = t := by unfold State.muteSlot; rw [hm]
    rw [stays] at taken
    exact slotCommand_answers htake (muteChecks_byState hn hh) taken (Or.inl rfl)
  · have taken := State.changeByState_taken (t := t) n (by rw [hp]; decide) (by rw [hp]; decide) State.muteSlot
    have field : t.muteSlot n = t.setSlot n { t.slots[n] with muteWanted := true } := by unfold State.muteSlot; rw [hp]
    rw [field] at taken
    exact (slotCommand_answers htake (muteChecks_byState hn hh) taken (Or.inl rfl)).trans
      (by rw [State.answered, State.renew_setSlot])
  · exact slotCommand_refuses htake (muteChecks_byState hn hh) (State.changeByState_refused n he _) (by decide)
  · have taken := State.changeByState_taken (t := t) n (by rw [hm]; decide) (by rw [hm]; decide) State.unmuteSlot
    rw [State.unmuteSlot_muted hm] at taken
    exact (slotCommand_answers htake (muteChecks_byState hn hh) taken (Or.inl rfl)).trans
      (by rw [State.answered, State.renew_write])
  · have taken := State.changeByState_taken (t := t) n (by rw [hr]; decide) (by rw [hr]; decide) State.unmuteSlot
    have stays : t.unmuteSlot n = t := by unfold State.unmuteSlot; rw [hr]
    rw [stays] at taken
    exact slotCommand_answers htake (muteChecks_byState hn hh) taken (Or.inl rfl)
  · have taken := State.changeByState_taken (t := t) n (by rw [hp]; decide) (by rw [hp]; decide) State.unmuteSlot
    have field : t.unmuteSlot n = t.setSlot n { t.slots[n] with muteWanted := false } := by unfold State.unmuteSlot; rw [hp]
    rw [field] at taken
    exact (slotCommand_answers htake (muteChecks_byState hn hh) taken (Or.inl rfl)).trans
      (by rw [State.answered, State.renew_setSlot])
  · exact slotCommand_refuses htake (muteChecks_byState hn hh) (State.changeByState_refused n he _) (by decide)

/-! ### ROUTE and READ SLOT (R21, R22) -/

/-- R22: READ SLOT clears the clip flag unless the other port holds the slot. -/
theorem State.clearClip_eq (s : State) (p : Port) (n : SlotId) : s.clearClip p n = { s with
    slots := s.slots.set n { s.slots[n] with clip := s.slots[n].clip && s.holds[n].holder == some p.other } } := by
  unfold State.clearClip State.heldByOther
  cases h : s.holds[n].holder == some p.other
  · rw [Bool.and_false]; rfl
  · rw [Bool.and_true, if_pos rfl]
    exact congrArg (fun v => ({ s with slots := v } : State)) (table_set_self s.slots n).symm

/-- R184: a line position takes 3 bytes. -/
theorem State.lineField_length (s : State) (n : SlotId) (l : LineId) : (s.lineField n l).length = 3 := by
  unfold State.lineField; split <;> rfl

theorem State.slotReadout_length (s : State) (n : SlotId) : (s.slotReadout n).length = 67 := by
  have lines : (allLines.flatMap (s.lineField n)).length = 12 := by
    simp [State.lineField_length, allLines]
  unfold State.slotReadout
  simp [bankBytes_length, lines, byte1]

/-- Settles O11: ROUTE writes the routing of a slot that is not FADING, READ SLOT reads the record and clears the clip flag. -/
theorem routeAndReadSlot : Obligations.RouteAndReadSlot := by
  intro s t p tag b0 b1 b2 n r hn
  refine ⟨fun htake hr hh hstate => ?_, fun htake => ⟨?_, t.slotReadout_length n, rfl⟩⟩
  · exact (slotCommand_answers htake (routeDecision_byState hn hr hh) (if_neg hstate) (Or.inl rfl)).trans
      (by rw [State.answered, State.routeSlot, State.renew_setSlot])
  · have reads : readSlotDecision p [b0] t = (t.clearClip p n).answerDone (t.slotReadout n) := by
      simp only [readSlotDecision, hn]
    rw [State.clearClip_eq] at reads
    exact taken_ownCommand htake reads

end Sys2Proof.Machine

namespace Sys2Proof.Machine

/-! ### Regions given back twice (R37) -/

/-- A region that giving back leaves as it is: its entry is free, or ABANDONED. -/
def Pool.returned (p : Pool) (e : EntryId) : Prop := ∀ r, p.entries[e] = some r → r.state = .abandoned

section
variable (p : Pool) (e : EntryId)

theorem Pool.giveBack_of_returned (h : p.returned e) : p.giveBack e = p := by
  unfold Pool.giveBack; split
  · rfl
  · rename_i r hr; rw [h r hr]

@[simp] theorem Pool.cancelHead_entries : p.cancelHead.entries = p.entries := by unfold Pool.cancelHead; split <;> rfl

@[simp] theorem Pool.free_entries (first count : Nat) : (p.free first count).entries = p.entries := by
  unfold Pool.free; split_ifs <;> rfl

/-- Giving a region back changes its own entry alone, which is then free or ABANDONED. -/
theorem Pool.giveBack_entries : ∃ x : Option Region, (p.giveBack e).entries = p.entries.set e x ∧ ∀ r, x = some r → r.state = .abandoned := by
  unfold Pool.giveBack; split
  · rename_i h; exact ⟨none, by rw [← h, table_set_self], nofun⟩
  · rename_i r h
    split
    · rename_i ha; exact ⟨some r, by rw [← h, table_set_self], fun _ e => by cases e; exact ha⟩
    · split_ifs
      · exact ⟨some { r with state := .abandoned, owner := none }, by simp [Pool.setEntry], fun _ e => by cases e; rfl⟩
      · exact ⟨none, by simp [Pool.release, Pool.setEntry, Pool.removeJob], nofun⟩
    · split
      · exact ⟨none, by simp [Pool.release, Pool.setEntry], nofun⟩
      · rename_i x _
        split_ifs
        · exact ⟨some { state := .abandoned, first := r.first + r.count, count := x, ext := none, owner := none },
            by simp [Pool.setEntry], fun _ e => by cases e; rfl⟩
        · exact ⟨none, by simp [Pool.release, Pool.setEntry, Pool.removeJob], nofun⟩
    · exact ⟨none, by simp [Pool.release, Pool.setEntry], nofun⟩

theorem Pool.giveBack_returned : (p.giveBack e).returned e := by
  obtain ⟨x, hx, ha⟩ := p.giveBack_entries e
  intro r hr
  rw [hx, table_get_set_self] at hr
  exact ha r hr

theorem Pool.returned_giveBack {k : EntryId} (h : p.returned k) : (p.giveBack e).returned k := by
  by_cases hk : e = k
  · subst hk; exact p.giveBack_returned e
  · obtain ⟨x, hx, _⟩ := p.giveBack_entries e
    intro r hr
    rw [hx, table_get_set, if_neg hk] at hr
    exact h r hr

end

/-- Regions given back stay so while others are. -/
theorem Pool.giveBack_all_returned (es : List EntryId) : ∀ (p : Pool) (k : EntryId), k ∈ es ∨ p.returned k →
    (es.foldl Pool.giveBack p).returned k := by
  induction es with
  | nil => rintro p k (h | h); · cases h
           · exact h
  | cons e es ih =>
    rintro p k (h | h)
    · rcases List.mem_cons.mp h with rfl | h
      · exact ih _ _ (Or.inr (p.giveBack_returned k))
      · exact ih _ _ (Or.inl h)
    · exact ih _ _ (Or.inr (p.returned_giveBack e h))

theorem Pool.giveBack_all_of_returned (es : List EntryId) (p : Pool) (h : ∀ k ∈ es, p.returned k) : es.foldl Pool.giveBack p = p := by
  induction es with
  | nil => rfl
  | cons e es ih =>
    rw [List.foldl_cons, p.giveBack_of_returned e (h e List.mem_cons_self)]
    exact ih fun k hk => h k (List.mem_cons_of_mem e hk)

/-- R37: giving the same regions back a second time does nothing. -/
theorem Pool.giveBack_all_twice (es : List EntryId) (p : Pool) :
    es.foldl Pool.giveBack (es.foldl Pool.giveBack p) = es.foldl Pool.giveBack p :=
  Pool.giveBack_all_of_returned es _ fun k hk => Pool.giveBack_all_returned es p k (Or.inl hk)

/-! ### Fade ends (R12, R121) -/

section
variable (s : State) (n : SlotId)

/-- R12: what a fade end starts with: the old regions are back and the voice is ended. -/
def State.faded (s : State) (n : SlotId) : State := (s.giveBackLines s.slots[n].lines).endVoice n

theorem State.faded_pool : (s.faded n).pool = (s.slots[n].lines.flatMap Line.regions).foldl Pool.giveBack s.pool := by
  unfold State.faded State.giveBackLines
  generalize (s.slots[n].lines.flatMap Line.regions).foldl Pool.giveBack s.pool = q
  rfl

theorem State.faded_frame : (s.faded n).slots = s.slots ∧ (s.faded n).entries = s.entries ∧ (s.faded n).flagsOf = s.flagsOf := by
  unfold State.faded State.giveBackLines
  generalize (s.slots[n].lines.flatMap Line.regions).foldl Pool.giveBack s.pool = q
  exact ⟨rfl, rfl, rfl⟩

theorem State.prepare_flagsOf (a : Alg) (b : Bank) (es : List EntryId) : (s.prepare n a b es).flagsOf = s.flagsOf := rfl

/-- Emptying the slot gives back the regions a fade end gave back already: nothing more is freed. -/
theorem State.emptySlot_after_faded {v : State} (hpool : v.pool = (s.faded n).pool) (hslots : v.slots = s.slots) :
    (v.emptySlot n).pool = (s.faded n).pool := by
  have given : (v.emptySlot n).pool = (v.slots[n].lines.flatMap Line.regions).foldl Pool.giveBack v.pool := State.emptySlot_pool v n
  rw [given, hslots, hpool, State.faded_pool]
  exact Pool.giveBack_all_twice _ s.pool

theorem State.fadeEnded_none (h : s.slots[n].next = none) : s.fadeEnded n = (s.faded n).emptySlot n := by
  unfold State.fadeEnded; rw [h]; rfl

theorem State.fadeEnded_placed {a : Alg} {q : Pool} {es : List EntryId} (h : s.slots[n].next = some a)
    (hq : (s.faded n).pool.allocate n (allocationSizes s.rate a (s.nextBank n a)) = .ok (q, es)) :
    s.fadeEnded n = (((s.faded n).setPool q).prepare n a (s.nextBank n a) es).takePending n := by
  unfold State.fadeEnded; rw [h]; dsimp only; unfold State.faded at hq; rw [hq]; rfl

theorem State.fadeEnded_failed {a : Alg} {f : PlaceFail} (h : s.slots[n].next = some a)
    (hq : (s.faded n).pool.allocate n (allocationSizes s.rate a (s.nextBank n a)) = .error f) :
    s.fadeEnded n = (((s.faded n).raiseBoth .poolShort).recallFailed n).emptySlot n := by
  unfold State.fadeEnded; rw [h]; dsimp only; unfold State.faded at hq; rw [hq]; rfl

theorem State.not_mem_endVoice_fadeReports : n ∉ (s.endVoice n).fadeReports := by
  simp [State.endVoice]

theorem State.emptySlot_fadeReports : (s.emptySlot n).fadeReports = (s.endVoice n).fadeReports := by
  simp only [State.emptySlot, State.raiseBoth_fadeReports, State.leaveWaiting_fadeReports, State.setEntry_fadeReports,
    State.setMorph_fadeReports, State.setSlot_fadeReports]
  rfl

/-- What every emptied slot has: no voice, no report, no pending entry. -/
theorem State.emptySlot_silent : (s.emptySlot n).voices[n].begun = false ∧ (s.emptySlot n).voices[n].fade = none
    ∧ n ∉ (s.emptySlot n).fadeReports ∧ (s.emptySlot n).entries[n] = none := by
  rw [State.emptySlot_voices, State.emptySlot_fadeReports, State.endVoice_voice]
  exact ⟨rfl, rfl, s.not_mem_endVoice_fadeReports n, s.emptySlot_entry n⟩

theorem State.takePending_entry : (s.takePending n).entries[n] = none := by
  unfold State.takePending; split
  · rw [State.setEntry_entries, table_get_set_self]
  · assumption

@[simp] theorem State.takePending_voices : (s.takePending n).voices = s.voices := by
  unfold State.takePending; split <;> rfl

@[simp] theorem State.takePending_fadeReports : (s.takePending n).fadeReports = s.fadeReports := by
  unfold State.takePending; split <;> rfl

@[simp] theorem State.takePending_flagsOf : (s.takePending n).flagsOf = s.flagsOf := by
  unfold State.takePending; split <;> rfl

/-- R121: the pending entry brings its routing and mute wanted, and nothing else of the slot changes. -/
theorem State.takePending_slot : (s.takePending n).slots[n] = (s.entries[n]).elim s.slots[n] fun e =>
    { s.slots[n] with sendSet := e.sendSet, returnPair := e.returnPair, muteWanted := e.mute } := by
  unfold State.takePending; split
  · rename_i e h
    rw [h, State.setEntry_slots]
    exact table_get_set_self _ _ _
  · rename_i h; rw [h]; rfl

/-- R12, R121: the slot prepared, with what a pending entry carries. -/
theorem State.prepare_takePending_slot (a : Alg) (b : Bank) (es : List EntryId) :
    ((s.prepare n a b es).takePending n).slots[n] = { s.slots[n] with
      state := .preparing, algorithm := some a, next := none, active := a.defaults, shadow := b, swapPending := true,
      lines := newLines es, clamped := false, sendSet := (s.entries[n]).elim s.slots[n].sendSet (·.sendSet),
      returnPair := (s.entries[n]).elim s.slots[n].returnPair (·.returnPair),
      muteWanted := (s.entries[n]).elim s.slots[n].muteWanted (·.mute) } := by
  have entries : (s.prepare n a b es).entries = s.entries := rfl
  rw [State.takePending_slot, entries, State.prepare_slot]
  cases s.entries[n] <;> rfl

theorem newLines_current (es : List EntryId) : (newLines es).map (·.current) = es := by
  unfold newLines; rw [List.map_map]; exact List.map_id es

/-- What the slot prepared by a fade end has: no voice, no report, no pending entry. -/
theorem State.prepare_silent (a : Alg) (b : Bank) (es : List EntryId) :
    ((s.prepare n a b es).takePending n).voices[n].begun = false ∧ ((s.prepare n a b es).takePending n).voices[n].fade = none
    ∧ n ∉ ((s.prepare n a b es).takePending n).fadeReports ∧ ((s.prepare n a b es).takePending n).entries[n] = none := by
  have voice : (s.prepare n a b es).voices = (s.endVoice n).voices := rfl
  rw [State.takePending_voices, State.takePending_fadeReports, voice, State.endVoice_voice]
  exact ⟨rfl, rfl, s.not_mem_endVoice_fadeReports n, State.takePending_entry _ n⟩

end

section
variable (s : State) (n : SlotId)

/-- R12: a fade end with no next algorithm empties the slot. -/
theorem State.fadeEnded_of_none (h : s.slots[n].next = none) :
    (s.fadeEnded n).slots[n] = s.slots[n].emptied ∧ (s.fadeEnded n).pool = (s.faded n).pool ∧ (s.fadeEnded n).flagged .slotEmpty := by
  have hslots := (s.faded_frame n).1
  rw [s.fadeEnded_none n h]
  refine ⟨?_, s.emptySlot_after_faded n rfl hslots, (s.faded n).emptySlot_slotEmpty⟩
  rw [State.emptySlot_slot, hslots]

/-- R12: a fade end whose next algorithm is placed prepares the slot with it. -/
theorem State.fadeEnded_of_placed {a : Alg} {q : Pool} {es : List EntryId} (h : s.slots[n].next = some a)
    (hq : (s.faded n).pool.allocate n (allocationSizes s.rate a (s.nextBank n a)) = .ok (q, es)) :
    (s.fadeEnded n).slots[n] = { s.slots[n] with
      state := .preparing, algorithm := some a, next := none, active := a.defaults, shadow := s.nextBank n a, swapPending := true,
      lines := newLines es, clamped := false, sendSet := (s.entries[n]).elim s.slots[n].sendSet (·.sendSet),
      returnPair := (s.entries[n]).elim s.slots[n].returnPair (·.returnPair),
      muteWanted := (s.entries[n]).elim s.slots[n].muteWanted (·.mute) }
    ∧ (s.fadeEnded n).pool = q ∧ (s.fadeEnded n).flagsOf = s.flagsOf := by
  obtain ⟨hslots, hentries, hflags⟩ := s.faded_frame n
  rw [s.fadeEnded_placed n h hq]
  refine ⟨?_, ?_, ?_⟩
  · rw [State.prepare_takePending_slot, State.setPool_slots, State.setPool_entries, hslots, hentries]
  · rw [State.takePending_pool, State.prepare_pool, State.setPool_pool]
  · rw [State.takePending_flagsOf, State.prepare_flagsOf, ← hflags]; rfl

/-- R12: a fade end whose next algorithm cannot be placed empties the slot and raises both flags. -/
theorem State.fadeEnded_of_failed {a : Alg} {f : PlaceFail} (h : s.slots[n].next = some a)
    (hq : (s.faded n).pool.allocate n (allocationSizes s.rate a (s.nextBank n a)) = .error f) :
    (s.fadeEnded n).slots[n].state = .empty ∧ (s.fadeEnded n).pool = (s.faded n).pool ∧ (s.fadeEnded n).flagged .poolShort
    ∧ (s.fadeEnded n).flagged .slotEmpty := by
  rw [s.fadeEnded_failed n h hq]
  refine ⟨congrArg Slot.state (State.emptySlot_slot _ n), s.emptySlot_after_faded n ?_ ?_, ?_, State.emptySlot_slotEmpty _⟩
  · rw [State.recallFailed_pool]; rfl
  · rw [State.recallFailed_slots]; exact (s.faded_frame n).1
  · exact State.emptySlot_flagged _ (State.recallFailed_flagged _ n (State.flagged_raiseBoth _ _))

/-- R12, R121: however a fade end goes, no voice, report or pending entry is left. -/
theorem State.fadeEnded_silent : (s.fadeEnded n).voices[n].begun = false ∧ (s.fadeEnded n).voices[n].fade = none
    ∧ n ∉ (s.fadeEnded n).fadeReports ∧ (s.fadeEnded n).entries[n] = none := by
  cases hnext : s.slots[n].next with
  | none => rw [s.fadeEnded_none n hnext]; exact State.emptySlot_silent _ n
  | some a =>
    cases hplace : (s.faded n).pool.allocate n (allocationSizes s.rate a (s.nextBank n a)) with
    | ok x => rw [s.fadeEnded_placed n hnext hplace]; exact State.prepare_silent _ n _ _ _
    | error f => rw [s.fadeEnded_failed n hnext hplace]; exact State.emptySlot_silent _ n

end

/-- Settles O43: the three ways a fade end can go. -/
theorem fadeEndTaken : Obligations.FadeEndTaken := by
  intro s n hreport hstate back
  let t : State := { s with fadeReports := s.fadeReports.filter (· != n) }
  have taken : exec (.fadeEnd n) s = .next (t.fadeEnded n).startClearing := by
    show execFadeEnd n s = _
    unfold execFadeEnd; rw [if_pos hreport]; exact congrArg _ (if_pos hstate)
  have given : (t.faded n).pool = back := t.faded_pool n
  have others : (t.fadeEnded n).startClearing.sameSlotsBut s n :=
    State.sameSlotsBut_of_slotView fun m hm => t.fadeEnded_slotView hm
  obtain ⟨hbegun, hfade, hrep, hentry⟩ := t.fadeEnded_silent n
  refine ⟨_, taken, t.fadeEnded_surroundings n, others, hbegun, hfade, hrep, hentry, fun hnext => ?_, fun a hnext => ⟨fun h => ?_, ?_, ?_⟩⟩
  · obtain ⟨hslot, hpool, hflag⟩ := t.fadeEnded_of_none n hnext
    exact ⟨hslot, congrArg Pool.startJob (hpool.trans given), State.flagged_of_ports rfl rfl hflag⟩
  · unfold State.nextBank; rw [h]
  · intro q es hplace
    obtain ⟨hslot, hpool, hflags⟩ := t.fadeEnded_of_placed n hnext (q := q) (es := es) (by rw [given]; exact hplace)
    have slot : (t.fadeEnded n).startClearing.slots[n] = (t.fadeEnded n).slots[n] := rfl
    have entries : t.entries = s.entries := rfl
    rw [slot, hslot, entries]
    refine ⟨rfl, rfl, rfl, rfl, rfl, rfl, rfl, newLines_current es, congrArg Pool.startJob hpool, hflags, fun h => ?_, fun e h => ?_⟩
    · rw [h]; rfl
    · rw [h]; exact ⟨rfl, rfl, rfl⟩
  · intro f hplace
    obtain ⟨hstate', hpool, hshort, hempty⟩ := t.fadeEnded_of_failed n hnext (f := f) (by rw [given]; exact hplace)
    exact ⟨hstate', congrArg Pool.startJob (hpool.trans given), State.flagged_of_ports rfl rfl hshort, State.flagged_of_ports rfl rfl hempty⟩

end Sys2Proof.Machine

namespace Sys2Proof.Machine

/-! ### Region LIVE reports (R5, R39, R47) -/

theorem slotIn_without_self (w : SlotSet) (n : SlotId) : slotIn (w &&& ~~~slotBit n) n = false := by
  have bit : (slotBit n).getLsbD n.val = true := by revert n; decide
  simp [slotIn, bit]

section
variable (s : State) (n : SlotId)

/-- R123: a slot that leaves the waiting set of a RUNNING record is not in it, and no other record changes. -/
theorem State.leaveWaiting_waiting :
    slotIn (s.leaveWaiting n).recallRecord.waiting n = (slotIn s.recallRecord.waiting n && s.recallRecord.state != .running) := by
  by_cases h : s.recallRecord.state = .running ∧ slotIn s.recallRecord.waiting n
  · have left : (s.leaveWaiting n).recallRecord.waiting = s.recallRecord.waiting &&& ~~~slotBit n := by
      unfold State.leaveWaiting; rw [if_pos h]; dsimp only; split_ifs <;> rfl
    rw [left, slotIn_without_self, h.1]; simp
  · have same : s.leaveWaiting n = s := by unfold State.leaveWaiting; exact if_neg h
    rw [same]
    cases hin : slotIn s.recallRecord.waiting n
    · rfl
    · have out : s.recallRecord.state ≠ .running := fun hr => h ⟨hr, hin⟩
      simp [out]

/-- R5: every line's region is LIVE in the Region Table. -/
theorem State.allLive_iff : s.allLive n = true ↔ ∀ k ∈ s.slots[n].lines, ∃ x, s.pool.entries[k.current] = some x ∧ x.state = .live := by
  unfold State.allLive
  rw [List.all_eq_true]
  refine forall₂_congr fun k _ => ?_
  rw [beq_iff_eq, Pool.stateOf, Option.map_eq_some_iff]

/-- Evaluating the clamped flag changes nothing else of the slot. -/
theorem State.updateClamped_slot : (s.updateClamped n).slots[n] = { s.slots[n] with clamped := (s.updateClamped n).slots[n].clamped } := by
  simp only [State.updateClamped, State.setSlot_slots, table_get_set_self]

theorem State.endPreparation_slot : (s.endPreparation n).slots[n] = { s.slots[n] with
    state := (if s.slots[n].muteWanted then .muted else .running), clamped := (s.endPreparation n).slots[n].clamped } := by
  simp only [State.endPreparation, State.raiseBoth_slots, State.leaveWaiting_slots, State.updateClamped, State.setSlot_slots,
    State.setVoice_slots, table_get_set_self]

theorem State.endPreparation_voice : (s.endPreparation n).voices[n] = { s.voices[n] with beginRequested := true } := by
  have voices : (s.endPreparation n).voices = s.voices.set n { s.voices[n] with beginRequested := true } := by
    simp only [State.endPreparation, State.raiseBoth_voices, State.leaveWaiting_voices, State.updateClamped, State.setSlot_voices]
    rfl
  rw [voices, table_get_set_self]

theorem State.endPreparation_slotReady : (s.endPreparation n).flagged .slotReady := State.flagged_raiseBoth _ _

theorem State.endPreparation_waiting : slotIn (s.endPreparation n).recallRecord.waiting n
    = (slotIn s.recallRecord.waiting n && s.recallRecord.state != .running) := by
  have raised : ∀ t : State, (t.raiseBoth .slotReady).recallRecord = t.recallRecord := fun _ => rfl
  rw [State.endPreparation, raised, State.leaveWaiting_waiting]
  rfl

/-- R47: the old length of a line in use is its glide's delay. -/
theorem State.oldLength_of_glide {l : LineId} {g : Glide} (h : s.voices[n].glideOf l = some g) : s.oldLength n l = g.delay := by
  unfold State.oldLength; rw [h]

theorem State.addCrossfade_voice (l : LineId) : (s.addCrossfade n l).voices[n] = if s.stopped then s.voices[n]
    else { s.voices[n] with crossfades := s.voices[n].crossfades ++ [⟨l, 16, s.oldLength n l⟩] } := by
  unfold State.addCrossfade; split_ifs
  · rfl
  · rw [State.setVoice, table_get_set_self]

theorem State.addCrossfade_slots (l : LineId) : (s.addCrossfade n l).slots = s.slots := by
  unfold State.addCrossfade; split_ifs <;> rfl

theorem State.addCrossfade_flagsOf (l : LineId) : (s.addCrossfade n l).flagsOf = s.flagsOf := by
  unfold State.addCrossfade; split_ifs <;> rfl

theorem State.startCrossfade_slot (l : LineId) :
    (s.startCrossfade n l).slots[n] = { s.slots[n] with clamped := (s.startCrossfade n l).slots[n].clamped } := by
  have slots := s.addCrossfade_slots n l
  have clamped := (s.addCrossfade n l).updateClamped_slot n
  rwa [slots] at clamped

end

/-- R43: a report of an owned region is taken, and acted on if the line still refers to the region. -/
theorem exec_regionLive_of_owned {s : State} {e : EntryId} {r : Region} {n : SlotId} {l : LineId} {ln : Line}
    (hreport : s.pool.liveReports.contains e = true) (hentry : s.pool.entries[e] = some r) (howner : r.owner = some (n, l))
    (hline : s.slots[n].lines[l.val]? = some ln) :
    exec (.regionLive e) s = .next (if ln.current = e
      then (s.setPool { s.pool with liveReports := s.pool.liveReports.filter (· != e) }).takeLiveReport n l ln
      else s.setPool { s.pool with liveReports := s.pool.liveReports.filter (· != e) }) := by
  show execRegionLive e s = _
  unfold execRegionLive; dsimp only
  rw [if_pos hreport]
  simp only [State.setPool_pool, State.setPool_slots, hentry, Option.bind_some, howner, hline]

/-- Settles O46: the reports that change nothing, the one that ends a preparation, and the one that starts a crossfade. -/
theorem regionReportTaken : Obligations.RegionReportTaken := by
  intro s e r n l ln hreport hentry howner hline taken allLive
  have run : exec (.regionLive e) s = .next (if ln.current = e then taken.takeLiveReport n l ln else taken) :=
    exec_regionLive_of_owned hreport hentry howner hline
  have live : taken.allLive n = true ↔ allLive := taken.allLive_iff n
  refine ⟨fun hne => ?_, fun he hprep hnot => ?_, fun he hprep hall => ?_, fun he hprep hgrow => ?_, fun he hprep hgrow => ?_⟩
  · rw [run, if_neg hne]
  · have act : taken.takeLiveReport n l ln = taken := by
      unfold State.takeLiveReport; rw [if_pos (show taken.slots[n].state = .preparing from hprep), if_neg (mt live.mp hnot)]
    rw [run, if_pos he, act]
  · have act : taken.takeLiveReport n l ln = taken.endPreparation n := by
      unfold State.takeLiveReport; rw [if_pos (show taken.slots[n].state = .preparing from hprep), if_pos (live.mpr hall)]
    refine ⟨taken.endPreparation n, by rw [run, if_pos he, act], taken.endPreparation_slot n, taken.endPreparation_voice n,
      taken.endPreparation_slotReady n, taken.endPreparation_pool n, taken.endPreparation_waiting n,
      State.sameSlotsBut_of_slotView fun m hm => ?_, taken.endPreparation_surroundings n⟩
    exact taken.endPreparation_slotView hm
  · have act : taken.takeLiveReport n l ln = taken := by
      unfold State.takeLiveReport; rw [if_neg (show ¬ taken.slots[n].state = .preparing from hprep), if_neg hgrow]
    rw [run, if_pos he, act]
  · have act : taken.takeLiveReport n l ln = taken.startCrossfade n l := by
      unfold State.takeLiveReport; rw [if_neg (show ¬ taken.slots[n].state = .preparing from hprep), if_pos hgrow]
    refine ⟨taken.startCrossfade n l, taken.oldLength n l, by rw [run, if_pos he, act], taken.addCrossfade_voice n l,
      taken.startCrossfade_pool n l, fun g hg => taken.oldLength_of_glide n hg, taken.startCrossfade_slot n l,
      State.sameSlotsBut_of_slotView fun m hm => ?_, taken.startCrossfade_surroundings n l, taken.addCrossfade_flagsOf n l⟩
    exact taken.startCrossfade_slotView l hm

end Sys2Proof.Machine

namespace Sys2Proof.Machine

/-! ### Folds over the slots and over the parameters -/

/-- What a fold over the slots leaves of one slot's view is what that slot's own step makes of it, when no other slot's step touches it. -/
theorem foldl_allSlots_at {β : Type} (view : State → β) (op : State → SlotId → State) (n : SlotId)
    (hop : ∀ (t : State) (m : SlotId), m ≠ n → view (op t m) = view t) (s : State) :
    ∃ t, view t = view s ∧ view (allSlots.foldl op s) = view (op t n) := by
  obtain ⟨before, after, hsplit⟩ := List.append_of_mem (mem_allSlots n)
  have nodup : (before ++ n :: after).Nodup := hsplit ▸ allSlots_nodup
  have others : ∀ (ns : List SlotId) (t : State), n ∉ ns → view (ns.foldl op t) = view t := by
    intro ns
    induction ns with
    | nil => intro t _; rfl
    | cons m ns ih =>
      intro t hn
      rw [List.foldl_cons, ih _ (fun h => hn (List.mem_cons_of_mem m h)), hop t m (fun h => hn (h ▸ List.mem_cons_self))]
  have disjoint := List.nodup_append.mp nodup
  have hbefore : n ∉ before := fun h => disjoint.2.2 n h n List.mem_cons_self rfl
  have hafter : n ∉ after := (List.nodup_cons.mp disjoint.2.1).1
  refine ⟨before.foldl op s, others before s hbefore, ?_⟩
  rw [hsplit, List.foldl_append, List.foldl_cons, others after _ hafter]

theorem foldl_set_get {α : Type} {k : Nat} (f : Fin k → α) (ixs : List (Fin k)) (ix : Fin k) : ∀ b : Vector α k,
    (ixs.foldl (fun (acc : Vector α k) (i : Fin k) => acc.set i (f i)) b)[ix] = if ix ∈ ixs then f ix else b[ix] := by
  induction ixs with
  | nil => intro b; simp
  | cons i ixs ih =>
    intro b
    rw [List.foldl_cons, ih, table_get_set]
    by_cases h : ix = i
    · subst h; simp
    · simp [h, Ne.symm h]

theorem mem_paramsOf (w : BitVec 12) (ix : ParamIx) : ix ∈ paramsOf w ↔ w.getLsbD ix.val = true := by
  have all : ix ∈ allParams := by unfold allParams; revert ix; decide
  simp [paramsOf, all]

/-! ### A slot's reports not yet taken -/

/-- The reports of a slot that the Voice Engine has made and nobody has taken yet, counted. -/
def State.reportsOf (s : State) (n : SlotId) : Nat × (LineId → Nat) :=
  (s.fadeReports.count n, fun l => s.crossfadeReports.count (n, l))

section
variable (s : State) {n m : SlotId} (l : LineId)

theorem State.reportsOf_congr {s t : State} (hf : s.fadeReports = t.fadeReports) (hc : s.crossfadeReports = t.crossfadeReports) :
    s.reportsOf n = t.reportsOf n := by
  unfold State.reportsOf; rw [hf, hc]

@[simp] theorem State.updateClamped_reportsOf : (s.updateClamped m).reportsOf n = s.reportsOf n := rfl

theorem State.emptySlot_crossfadeReports : (s.emptySlot n).crossfadeReports = (s.endVoice n).crossfadeReports := by
  simp only [State.emptySlot, State.raiseBoth_crossfadeReports, State.leaveWaiting_crossfadeReports, State.setEntry_crossfadeReports,
    State.setMorph_crossfadeReports, State.setSlot_crossfadeReports]
  rfl

theorem State.endVoice_reportsOf (h : m ≠ n) : (s.endVoice m).reportsOf n = s.reportsOf n := by
  refine Prod.ext ?_ (funext fun l => ?_)
  · exact List.count_filter (by simpa using Ne.symm h)
  · exact List.count_filter (by simpa using Ne.symm h)

theorem State.emptySlot_reportsOf (h : m ≠ n) : (s.emptySlot m).reportsOf n = s.reportsOf n :=
  (State.reportsOf_congr (s.emptySlot_fadeReports m) s.emptySlot_crossfadeReports).trans (s.endVoice_reportsOf h)

theorem State.startGrowth_reportsOf (k : Nat) : (s.startGrowth m l k).reportsOf n = s.reportsOf n := by
  unfold State.startGrowth; split
  · split
    · rfl
    · split <;> rfl
  · rfl

theorem State.replaceRegion_reportsOf (h : m ≠ n) (k : Nat) : (s.replaceRegion m l k).reportsOf n = s.reportsOf n := by
  unfold State.replaceRegion; split
  · split
    · rfl
    · rw [State.emptySlot_reportsOf _ h]
      exact State.reportsOf_congr (by simp) (by simp)
  · rfl

/-- Only a replacement that fails, of the slot itself, ends the slot's reports. -/
theorem State.evalNeed_reportsOf (h : m ≠ n ∨ s.slots[m].state ≠ .preparing) : (s.evalNeed m l).reportsOf n = s.reportsOf n := by
  unfold State.evalNeed; split_ifs
  · split
    · split_ifs
      · rw [State.updateClamped_reportsOf]
        unfold State.needAbove; split_ifs with _ hp
        · exact s.replaceRegion_reportsOf l (h.resolve_right (not_not_intro hp)) _
        · exact s.startGrowth_reportsOf l _
        · rfl
        · rfl
      · rfl
    · rfl
  · rfl

theorem State.evalWritten_reportsOf (h : m ≠ n ∨ s.slots[m].state ≠ .preparing) (ixs : List ParamIx) :
    (s.evalWritten m ixs).reportsOf n = s.reportsOf n := by
  unfold State.evalWritten; split
  · rcases h with h | h
    · exact foldl_keeps (fun t => State.reportsOf t n) _ (fun t k => t.evalNeed_reportsOf k (.inl h)) _ _
    · refine (foldl_holds (fun t : State => t.slotCore m = s.slotCore m ∧ t.reportsOf n = s.reportsOf n) _
        (fun t k ht => ?_) _ s ⟨rfl, rfl⟩).2
      have state : t.slots[m].state ≠ .preparing := State.slotCore_state ht.1 ▸ h
      exact ⟨(t.evalNeed_slotCore k state).trans ht.1, (t.evalNeed_reportsOf k (.inr state)).trans ht.2⟩
  · rfl

@[simp] theorem State.removeMorph_reportsOf : (s.removeMorph m).reportsOf n = s.reportsOf n := by
  unfold State.removeMorph; split
  · rfl
  · exact State.reportsOf_congr (by simp) (by simp)

theorem State.morphStep_reportsOf (h : m ≠ n ∨ s.slots[m].state ≠ .preparing) : (s.morphStep m).reportsOf n = s.reportsOf n := by
  unfold State.morphStep; split
  · rename_i x a _ _
    have written : ∀ b ixs, (((s.setMorph m (some { x with done := x.done + 1 })).writeShadow m b).evalWritten m ixs).reportsOf n
        = s.reportsOf n := by
      intro b ixs
      rw [State.evalWritten_reportsOf]
      · rfl
      · refine h.imp_right fun hs => ?_
        rw [State.writeShadow_slot]; exact hs
    dsimp only; split_ifs
    · rw [State.removeMorph_reportsOf, written]
    · exact written _ _
  · rfl

end

/-! ### The step of a slot's own morph (R125) -/

section
variable (a : Alg) (tempo : Nat) (x : Morph) (k : Nat) (b : Bank)

theorem Alg.locked_set_time (v : Int) : a.locked (b.set timeIx v) = a.locked b := by
  unfold Alg.locked; rw [Bank.division_set_time]

/-- The bank with the step's values, before the time of a locked bank is settled. -/
def Alg.morphWritten (a : Alg) (x : Morph) (k : Nat) (b : Bank) : Bank :=
  (paramsOf x.morphing).foldl (fun (acc : Bank) (ix : ParamIx) => acc.set ix (a.morphValue x k ix)) b

theorem Alg.morphWritten_get (ix : ParamIx) :
    (a.morphWritten x k b)[ix] = if x.morphing.getLsbD ix.val then a.morphValue x k ix else b[ix] := by
  rw [Alg.morphWritten, foldl_set_get]
  simp only [mem_paramsOf]

/-- A step leaves the values written, but for the time of a bank left tempo-locked. -/
theorem Alg.morphBank_cases : a.morphBank tempo x k b = a.morphWritten x k b
    ∨ a.locked (a.morphWritten x k b) = true ∧ ∃ v, a.morphBank tempo x k b = (a.morphWritten x k b).set timeIx v := by
  have bank : a.morphBank tempo x k b = if a.locked (a.morphWritten x k b) then
      (if x.morphing.getLsbD divisionIx.val then a.withDerived tempo (a.morphWritten x k b)
        else (a.morphWritten x k b).set timeIx b[timeIx])
      else a.morphWritten x k b := rfl
  generalize a.morphWritten x k b = w at bank ⊢
  rw [bank]
  by_cases hlocked : a.locked w = true
  · refine Or.inr ⟨hlocked, ?_⟩
    have derived : a.withDerived tempo w = w.set timeIx (derivedTime a tempo w.division) := if_pos hlocked
    rw [if_pos hlocked, derived]
    split_ifs
    · exact ⟨_, rfl⟩
    · exact ⟨_, rfl⟩
  · exact Or.inl (if_neg hlocked)

/-- What a step leaves at an index whose value is its own, not the derived time. -/
theorem Alg.morphBank_get {ix : ParamIx} (h : ix ≠ 0 ∨ a.locked (a.morphBank tempo x k b) = false) :
    (a.morphBank tempo x k b)[ix] = if x.morphing.getLsbD ix.val then a.morphValue x k ix else b[ix] := by
  rw [← a.morphWritten_get x k b ix]
  rcases a.morphBank_cases tempo x k b with hbank | ⟨hlocked, v, hbank⟩
  · rw [hbank]
  · have own : ix ≠ 0 := h.resolve_right (by rw [hbank, a.locked_set_time, hlocked]; decide)
    rw [hbank, table_get_set, if_neg (Ne.symm own)]

theorem lt_ceilDiv_two (j total : Nat) : j < ceilDiv total 2 ↔ 2 * j < total := by unfold ceilDiv; omega

/-- R125: the value of a step, as the manual writes it. -/
theorem Alg.morphValue_eq (ix : ParamIx) : a.morphValue x k ix =
    if a.discrete ix then (if 2 * k < x.total then x.start[ix] else x.target[ix])
    else x.start[ix] + (2 * ((x.target[ix] - x.start[ix]) * k) + x.total) / (2 * x.total) := by
  unfold Alg.morphValue
  simp only [lt_ceilDiv_two, roundDivInt]

end

section
variable (s : State) (n : SlotId)

theorem State.morphStep_of_idle (h : s.morphs[n] = none ∨ s.slots[n].algorithm = none) : s.morphStep n = s := by
  unfold State.morphStep; split
  · rename_i hm ha; rcases h with h | h
    · rw [h] at hm; cases hm
    · rw [h] at ha; cases ha
  · rfl

/-- R125: the step of a morph in a slot that is not PREPARING. -/
theorem State.morphStep_of_morph {x : Morph} {a : Alg} (hx : s.morphs[n] = some x) (ha : s.slots[n].algorithm = some a)
    (hs : s.slots[n].state ≠ .preparing) :
    (s.morphStep n).slots[n] = { s.slots[n] with
        shadow := a.morphBank s.tempo.applied x (x.done + 1) s.slots[n].shadow, swapPending := true,
        lines := (s.morphStep n).slots[n].lines, clamped := (s.morphStep n).slots[n].clamped }
    ∧ (s.morphStep n).morphs[n] = (if x.total ≤ x.done + 1 then none else some { x with done := x.done + 1 })
    ∧ (s.morphStep n).voices[n] = s.voices[n] := by
  unfold State.morphStep; rw [hx, ha]; dsimp only
  generalize a.morphBank s.tempo.applied x (x.done + 1) s.slots[n].shadow = b
  generalize a.stepWrites s.tempo.applied x (x.done + 1) s.slots[n].shadow = ixs
  let w := (s.setMorph n (some { x with done := x.done + 1 })).writeShadow n b
  have hw : s.ShadowWritten w n b := {
    slot := State.writeShadow_slot _ n b, entry := rfl, voice := rfl, surroundings := rfl
    others := fun m h => by rw [State.writeShadow_slotView _ h, State.setMorph_slotView _ h] }
  have running : ¬ w.evaluationFails n ixs := State.not_evaluationFails (by rw [hw.slot]; exact hs)
  obtain ⟨hslot, hmorph, _, hvoice⟩ := hw.evaluated running
  have morph : w.morphs[n] = some { x with done := x.done + 1 } := table_get_set_self _ _ _
  split_ifs with hlast
  · have slot : ((w.evalWritten n ixs).removeMorph n).slots[n] = (w.evalWritten n ixs).slots[n] :=
      congrArg (·[n]) (State.removeMorph_slots _ n)
    have voice : ((w.evalWritten n ixs).removeMorph n).voices[n] = (w.evalWritten n ixs).voices[n] :=
      congrArg (·[n]) (State.removeMorph_voices _ n)
    rw [slot, voice]
    exact ⟨hslot, State.removeMorph_morph _ n, hvoice⟩
  · exact ⟨hslot, hmorph.trans morph, hvoice⟩

/-- What the steps of the Morph Table leave of slot `n` is what its own step makes of it. -/
theorem State.morphSteps_at : ∃ t : State, (t.slotView n, t.reportsOf n, t.surroundings) = (s.slotView n, s.reportsOf n, s.surroundings)
    ∧ (s.morphSteps.slotView n, s.morphSteps.reportsOf n, s.morphSteps.surroundings)
      = ((t.morphStep n).slotView n, (t.morphStep n).reportsOf n, (t.morphStep n).surroundings) :=
  foldl_allSlots_at (fun t => (t.slotView n, t.reportsOf n, t.surroundings)) State.morphStep n
    (fun t m h => by
      rw [t.morphStep_slotView h, t.morphStep_reportsOf (.inl h), t.morphStep_surroundings]) s

end

end Sys2Proof.Machine

namespace Sys2Proof.Machine

/-! ### The stages of a block end, at one slot (R59 to R67) -/

section
variable (s : State) (n : SlotId)

theorem State.setSlot_slot_other {m : SlotId} (h : m ≠ n) (v : Slot) : (s.setSlot m v).slots[n] = s.slots[n] := by
  rw [State.setSlot_slots, table_get_set, if_neg h]

theorem State.setVoice_voice_other {m : SlotId} (h : m ≠ n) (v : Voice) : (s.setVoice m v).voices[n] = s.voices[n] := by
  rw [State.setVoice_voices, table_get_set, if_neg h]

/-! #### The clip flags (R62) -/

/-- The clip flags change slot records and the event flags alone. -/
theorem State.handPeaks_keeps {γ : Type} (g : State → γ) (hslot : ∀ (t : State) m v, g (t.setSlot m v) = g t)
    (hflag : ∀ (t : State) f, g (t.raiseBoth f) = g t) : g s.handPeaks = g s := by
  have fold : g (allSlots.foldl State.handPeak s) = g s :=
    foldl_keeps g _ (fun t m => by unfold State.handPeak; split_ifs; exacts [hslot t m _, rfl]) _ _
  unfold State.handPeaks; dsimp only; split_ifs
  · rw [hflag, fold]
  · exact fold

theorem State.handPeaks_slot : s.handPeaks.slots[n] = { s.slots[n] with clip := s.slots[n].clip || s.voices[n].peak } := by
  have slots : s.handPeaks.slots = (allSlots.foldl State.handPeak s).slots := by
    unfold State.handPeaks; dsimp only; split_ifs <;> rfl
  obtain ⟨t, before, after⟩ := foldl_allSlots_at (fun t => (t.slots[n], t.voices[n])) State.handPeak n (fun t m h => by
    unfold State.handPeak; split_ifs
    · exact Prod.ext (t.setSlot_slot_other n h _) rfl
    · rfl) s
  simp only [Prod.mk.injEq] at before after
  obtain ⟨hslot, hvoice⟩ := before
  rw [slots, after.1]
  unfold State.handPeak
  rw [hvoice]
  cases s.voices[n].peak
  · rw [Bool.or_false, if_neg Bool.false_ne_true, hslot]
  · rw [Bool.or_true, if_pos rfl, State.setSlot_slots, table_get_set_self, hslot]

/-- R62: a peak raises CLIP in both ports. -/
theorem State.handPeaks_flagged (h : s.voices[n].peak = true) : s.handPeaks.flagged .clip := by
  have peaked : allSlots.any (fun m => s.voices[m].peak) = true := List.any_eq_true.mpr ⟨n, mem_allSlots n, h⟩
  unfold State.handPeaks; dsimp only; rw [if_pos peaked]
  exact State.flagged_raiseBoth _ _

/-! #### Begin and swap (R60, R67) -/

/-- The slot record after its begin or swap, if there is one. -/
def Slot.takenUp (sl : Slot) (v : Voice) : Slot :=
  if v.beginRequested || (v.begun && sl.swapPending) then { sl with active := sl.shadow, swapPending := false } else sl

/-- The voice record after its begin, if there is one. -/
def Voice.takenUp (v : Voice) (st : SlotState) : Voice :=
  if v.beginRequested then
    { v with begun := true, beginRequested := false, gain := 0, fade := beginFade st, glides := [], modulation := none }
  else v

/-- R59: the voice record after the gains of a returned clock. -/
def Voice.afterReturn (v : Voice) (due : Bool) (st : SlotState) : Voice := if due && v.begun then v.returned st else v

theorem State.beginOrSwap_at : (s.beginOrSwap n).slots[n] = s.slots[n].takenUp s.voices[n]
    ∧ (s.beginOrSwap n).voices[n] = s.voices[n].takenUp s.slots[n].state := by
  unfold State.beginOrSwap Slot.takenUp Voice.takenUp
  cases hreq : s.voices[n].beginRequested
  · rw [if_neg Bool.false_ne_true, if_neg Bool.false_ne_true, Bool.false_or]
    cases hswap : s.voices[n].begun && s.slots[n].swapPending
    · exact ⟨rfl, rfl⟩
    · exact ⟨table_get_set_self _ _ _, rfl⟩
  · rw [if_pos rfl, if_pos rfl, Bool.true_or, if_pos rfl]
    exact ⟨table_get_set_self _ _ _, table_get_set_self _ _ _⟩

theorem State.beginOrSwap_other {m : SlotId} (h : m ≠ n) :
    (s.beginOrSwap m).slots[n] = s.slots[n] ∧ (s.beginOrSwap m).voices[n] = s.voices[n] := by
  unfold State.beginOrSwap; split_ifs
  · exact ⟨s.setSlot_slot_other n h _, s.setVoice_voice_other n h _⟩
  · exact ⟨s.setSlot_slot_other n h _, rfl⟩
  · exact ⟨rfl, rfl⟩

theorem State.beginOrSwap_keeps {γ : Type} (g : State → γ) (hslot : ∀ (t : State) m v, g (t.setSlot m v) = g t)
    (hvoice : ∀ (t : State) m v, g (t.setVoice m v) = g t) : g (s.beginOrSwap n) = g s := by
  unfold State.beginOrSwap; split_ifs
  · exact (hvoice _ n _).trans (hslot s n _)
  · exact hslot s n _
  · rfl

theorem State.begins_at : (allSlots.foldl State.beginOrSwap s).slots[n] = s.slots[n].takenUp s.voices[n]
    ∧ (allSlots.foldl State.beginOrSwap s).voices[n] = s.voices[n].takenUp s.slots[n].state := by
  obtain ⟨t, before, after⟩ := foldl_allSlots_at (fun t => (t.slots[n], t.voices[n])) State.beginOrSwap n
    (fun t m h => Prod.ext (t.beginOrSwap_other n h).1 (t.beginOrSwap_other n h).2) s
  simp only [Prod.mk.injEq] at before after
  obtain ⟨hslot, hvoice⟩ := before
  obtain ⟨hslot', hvoice'⟩ := after
  obtain ⟨taken, begins⟩ := t.beginOrSwap_at n
  rw [hslot', hvoice', taken, begins, hslot, hvoice]
  exact ⟨rfl, rfl⟩

/-! #### The gains of a returned clock (R59) -/

/-- R60, R67, R59: begins, swaps and the gains of a return, before the lengths follow. -/
def State.swapped (s : State) : State := (allSlots.foldl State.beginOrSwap s).applyReturn

theorem State.returns_voice :
    (allSlots.foldl State.returnSlot s).voices[n] = s.voices[n].afterReturn true s.slots[n].state := by
  obtain ⟨t, before, after⟩ := foldl_allSlots_at (fun t => (t.slots[n], t.voices[n])) State.returnSlot n (fun t m h => by
    unfold State.returnSlot; split_ifs
    · exact Prod.ext rfl (t.setVoice_voice_other n h _)
    · rfl) s
  simp only [Prod.mk.injEq] at before after
  obtain ⟨hslot, hvoice⟩ := before
  rw [after.2]
  unfold State.returnSlot Voice.afterReturn
  rw [hslot, hvoice, Bool.true_and]
  split_ifs
  · exact table_get_set_self _ _ _
  · exact hvoice

theorem State.applyReturn_keeps {γ : Type} (g : State → γ) (hvoice : ∀ (t : State) m v, g (t.setVoice m v) = g t)
    (hdone : ∀ t : State, g t.returnApplied = g t) : g s.applyReturn = g s := by
  unfold State.applyReturn; split_ifs
  · rw [hdone]
    exact foldl_keeps g _ (fun t m => by unfold State.returnSlot; split_ifs; exacts [hvoice t m _, rfl]) _ _
  · rfl

theorem State.applyReturn_voice : s.applyReturn.voices[n] = s.voices[n].afterReturn s.audio.returnDue s.slots[n].state := by
  unfold State.applyReturn
  cases hdue : s.audio.returnDue
  · rfl
  · exact s.returns_voice n

theorem State.swapped_keeps {γ : Type} (g : State → γ) (hslot : ∀ (t : State) m v, g (t.setSlot m v) = g t)
    (hvoice : ∀ (t : State) m v, g (t.setVoice m v) = g t) (hdone : ∀ t : State, g t.returnApplied = g t) : g s.swapped = g s :=
  (State.applyReturn_keeps _ g hvoice hdone).trans (foldl_keeps g _ (fun t m => t.beginOrSwap_keeps m g hslot hvoice) _ _)

theorem State.swapped_slot : s.swapped.slots[n] = s.slots[n].takenUp s.voices[n] := by
  have slots : s.swapped.slots = (allSlots.foldl State.beginOrSwap s).slots :=
    State.applyReturn_keeps _ State.slots (fun _ _ _ => rfl) (fun _ => rfl)
  rw [slots, (s.begins_at n).1]

theorem Slot.takenUp_state (sl : Slot) (v : Voice) : (sl.takenUp v).state = sl.state := by
  unfold Slot.takenUp; split_ifs <;> rfl

theorem State.swapped_voice :
    s.swapped.voices[n] = (s.voices[n].takenUp s.slots[n].state).afterReturn s.audio.returnDue s.slots[n].state := by
  have audio : (allSlots.foldl State.beginOrSwap s).audio = s.audio :=
    foldl_keeps State.audio _ (fun t m => t.beginOrSwap_keeps m State.audio (fun _ _ _ => rfl) (fun _ _ _ => rfl)) _ _
  obtain ⟨hslot, hvoice⟩ := s.begins_at n
  rw [State.swapped, State.applyReturn_voice, audio, hslot, hvoice, Slot.takenUp_state]

/-! #### Lengths and inputs (R65, R67) -/

theorem State.followBank_keeps {γ : Type} (g : State → γ) (hvoice : ∀ (t : State) m v, g (t.setVoice m v) = g t)
    (before : Vector Slot 16) : g (s.followBank before n) = g s := by
  unfold State.followBank; split_ifs
  · dsimp only
    split
    · exact (hvoice _ n _).trans (hvoice s n _)
    · exact hvoice s n _
  · rfl

theorem State.followBank_other {m : SlotId} (h : m ≠ n) (before : Vector Slot 16) :
    (s.followBank before m).voices[n] = s.voices[n] := by
  have other := fun (t : State) (v : Voice) => t.setVoice_voice_other n h v
  unfold State.followBank; split_ifs
  · dsimp only
    split
    · exact (other _ _).trans (other _ _)
    · exact other _ _
  · rfl

/-- The glide states of a slot are made of its own record and voice, the rate, the pool and the reports of crossfades. -/
theorem State.glidesOf_congr {s t : State} (hslots : t.slots = s.slots) (hvoice : t.voices[n] = s.voices[n]) (hrate : t.rate = s.rate)
    (hpool : t.pool = s.pool) (hreports : t.crossfadeReports = s.crossfadeReports) (a : Alg) (before : Bank) :
    t.glidesOf n a before = s.glidesOf n a before := by
  unfold State.glidesOf State.lineTarget State.voiceRegion
  rw [hslots, hvoice, hrate, hpool, hreports]

theorem State.followBank_voice (before : Vector Slot 16) : (s.followBank before n).voices[n] =
    if s.voices[n].begun then { s.voices[n] with
      glides := (s.slots[n].algorithm).elim s.voices[n].glides fun a => s.glidesOf n a before[n].active,
      inputOpen := s.slots[n].inputWanted }
    else s.voices[n] := by
  unfold State.followBank
  by_cases hbegun : s.voices[n].begun = true
  · have opened : (s.voices[n].begun && s.slots[n].inputWanted) = s.slots[n].inputWanted := by rw [hbegun]; rfl
    rw [if_pos hbegun, if_pos hbegun, ← opened]
    cases s.slots[n].algorithm with
    | none => dsimp only; rw [State.followInput_voice]; rfl
    | some a => dsimp only; rw [State.followInput_voice, State.setVoice_voices, table_get_set_self]; rfl
  · rw [if_neg hbegun, if_neg hbegun]

theorem State.takeUp_keeps {γ : Type} (g : State → γ) (hslot : ∀ (t : State) m v, g (t.setSlot m v) = g t)
    (hvoice : ∀ (t : State) m v, g (t.setVoice m v) = g t) (hdone : ∀ t : State, g t.returnApplied = g t) : g s.takeUp = g s :=
  (foldl_keeps g _ (fun t m => t.followBank_keeps m g hvoice s.slots) _ _).trans (s.swapped_keeps g hslot hvoice hdone)

theorem State.takeUp_slot : s.takeUp.slots[n] = s.slots[n].takenUp s.voices[n] := by
  have slots : s.takeUp.slots = s.swapped.slots :=
    foldl_keeps State.slots _ (fun t m => t.followBank_keeps m State.slots (fun _ _ _ => rfl) s.slots) _ _
  rw [slots, s.swapped_slot n]

/-- The voice record after its lengths and its input follow the slot's new active bank. -/
theorem State.takeUp_voice : s.takeUp.voices[n] =
    if s.swapped.voices[n].begun then { s.swapped.voices[n] with
      glides := (s.swapped.slots[n].algorithm).elim s.swapped.voices[n].glides fun a => s.swapped.glidesOf n a s.slots[n].active,
      inputOpen := s.swapped.slots[n].inputWanted }
    else s.swapped.voices[n] := by
  obtain ⟨t, hbefore, hafter⟩ := foldl_allSlots_at
    (fun t => (t.voices[n], t.slots, t.rate, t.pool, t.crossfadeReports)) (State.followBank s.slots) n (fun t m h => by
      have frame := t.followBank_keeps m (fun t => (t.slots, t.rate, t.pool, t.crossfadeReports)) (fun _ _ _ => rfl) s.slots
      exact Prod.ext (t.followBank_other n h s.slots) frame) s.swapped
  simp only [Prod.mk.injEq] at hbefore hafter
  obtain ⟨hvoice, hslots, hrate, hpool, hreports⟩ := hbefore
  have glides := State.glidesOf_congr n hslots hvoice hrate hpool hreports
  have final : s.takeUp.voices[n] = (t.followBank s.slots n).voices[n] := hafter.1
  rw [final, State.followBank_voice, hvoice, hslots]
  simp only [glides]

end
end Sys2Proof.Machine

namespace Sys2Proof.Machine

/-! ### Ended fades, and the block processed (R61 to R65, R68, R69) -/

/-- R63: a voice whose fade with no blocks left is removed. -/
def Voice.fadeFinished (v : Voice) : Voice :=
  match v.fade with
  | some f => if f.left = 0 then { v with gain := f.target, fade := none } else v
  | none => v

/-- R63: whether a block end reports the end of the voice's fade. -/
def Voice.fadeReport (v : Voice) : Nat :=
  match v.fade with
  | some f => if f.left = 0 ∧ f.length = 16 then 1 else 0
  | none => 0

/-- R64: a voice whose crossfades with no blocks left are removed. -/
def Voice.crossfadesFinished (v : Voice) : Voice :=
  if v.begun then { v with crossfades := v.crossfades.filter fun x => x.left != 0 } else v

/-- R64: how many ends of crossfades of a line a block end reports. -/
def Voice.crossfadeReport (v : Voice) (l : LineId) : Nat :=
  if v.begun then (v.crossfades.filter fun x => x.left == 0 && x.line == l).length else 0

section
variable (s : State) (n : SlotId)

theorem State.finishFade_at : (s.finishFade n).voices[n] = s.voices[n].fadeFinished
    ∧ (s.finishFade n).reportsOf n = ((s.reportsOf n).1 + s.voices[n].fadeReport, (s.reportsOf n).2) := by
  unfold State.finishFade Voice.fadeFinished Voice.fadeReport
  cases s.voices[n].fade with
  | none => exact ⟨rfl, rfl⟩
  | some f =>
    dsimp only
    by_cases hleft : f.left = 0
    · by_cases hlength : f.length = 16
      · rw [if_pos hleft, if_pos hlength, if_pos hleft, if_pos ⟨hleft, hlength⟩]
        refine ⟨table_get_set_self _ _ _, Prod.ext ?_ rfl⟩
        show (s.fadeReports ++ [n]).count n = _
        rw [List.count_append, List.count_singleton_self]; rfl
      · rw [if_pos hleft, if_neg hlength, if_pos hleft, if_neg (fun h => hlength h.2)]
        exact ⟨table_get_set_self _ _ _, rfl⟩
    · rw [if_neg hleft, if_neg hleft, if_neg (fun h => hleft h.1)]
      exact ⟨rfl, rfl⟩

theorem count_endedLines (l : LineId) (xs : List Crossfade) :
    ((xs.filter fun x => x.left == 0).map fun x => (n, x.line)).count (n, l) = (xs.filter fun x => x.left == 0 && x.line == l).length := by
  induction xs with
  | nil => rfl
  | cons x xs ih =>
    cases hleft : x.left == 0
    · simp only [List.filter_cons, hleft, Bool.false_and, Bool.false_eq_true, if_false, ih]
    · by_cases hline : x.line = l
      · simp [hleft, hline, ih]
      · simp [hleft, hline, ih]

theorem State.finishCrossfades_at : (s.finishCrossfades n).voices[n] = s.voices[n].crossfadesFinished
    ∧ (s.finishCrossfades n).reportsOf n = ((s.reportsOf n).1, fun l => (s.reportsOf n).2 l + s.voices[n].crossfadeReport l) := by
  unfold State.finishCrossfades Voice.crossfadesFinished Voice.crossfadeReport
  by_cases hbegun : s.voices[n].begun = true
  · simp only [if_pos hbegun]
    refine ⟨table_get_set_self _ _ _, Prod.ext rfl (funext fun l => ?_)⟩
    show (s.crossfadeReports ++ _).count (n, l) = _
    rw [List.count_append, count_endedLines]; rfl
  · simp only [if_neg hbegun, Nat.add_zero, and_self]

/-- Ending fades and crossfades changes voices and reports alone. -/
theorem State.finishFades_keeps {γ : Type} (g : State → γ) (hvoice : ∀ (t : State) m v, g (t.setVoice m v) = g t)
    (hfades : ∀ (t : State) r, g { t with fadeReports := r } = g t)
    (hcrossfades : ∀ (t : State) r, g { t with crossfadeReports := r } = g t) : g s.finishFades = g s := by
  have fade : ∀ (t : State) (m : SlotId), g (t.finishFade m) = g t := fun t m => by
    unfold State.finishFade; split
    · dsimp only; split_ifs
      · exact (hfades _ _).trans (hvoice t m _)
      · exact hvoice t m _
      · rfl
    · rfl
  have crossfades : ∀ (t : State) (m : SlotId), g (t.finishCrossfades m) = g t := fun t m => by
    unfold State.finishCrossfades; split_ifs
    · exact (hcrossfades _ _).trans (hvoice t m _)
    · rfl
  exact foldl_keeps g _ (fun t m => (crossfades _ m).trans (fade t m)) _ _

theorem State.finishFade_other {m : SlotId} (h : m ≠ n) :
    (s.finishFade m).voices[n] = s.voices[n] ∧ (s.finishFade m).reportsOf n = s.reportsOf n := by
  have other := fun v => s.setVoice_voice_other n h v
  unfold State.finishFade; split
  · dsimp only; split_ifs
    · refine ⟨other _, Prod.ext ?_ rfl⟩
      show (s.fadeReports ++ [m]).count n = _
      rw [List.count_append, List.count_singleton, beq_false_of_ne h]; rfl
    · exact ⟨other _, rfl⟩
    · exact ⟨rfl, rfl⟩
  · exact ⟨rfl, rfl⟩

theorem State.finishCrossfades_other {m : SlotId} (h : m ≠ n) :
    (s.finishCrossfades m).voices[n] = s.voices[n] ∧ (s.finishCrossfades m).reportsOf n = s.reportsOf n := by
  unfold State.finishCrossfades; split_ifs
  · refine ⟨s.setVoice_voice_other n h _, Prod.ext rfl (funext fun l => ?_)⟩
    show (s.crossfadeReports ++ _).count (n, l) = _
    have away : ∀ xs : List Crossfade, (xs.map fun x => (m, x.line)).count (n, l) = 0 := fun xs =>
      List.count_eq_zero.mpr fun mem => by
        obtain ⟨x, _, hx⟩ := List.mem_map.mp mem
        exact h (congrArg (·.1) hx)
    rw [List.count_append, away]; rfl
  · exact ⟨rfl, rfl⟩

theorem Voice.fadeFinished_begun (v : Voice) : v.fadeFinished.begun = v.begun := by
  unfold Voice.fadeFinished; split
  · split_ifs <;> rfl
  · rfl

theorem Voice.fadeFinished_beginRequested (v : Voice) : v.fadeFinished.beginRequested = v.beginRequested := by
  unfold Voice.fadeFinished; split
  · split_ifs <;> rfl
  · rfl

theorem Voice.fadeFinished_crossfades (v : Voice) : v.fadeFinished.crossfades = v.crossfades := by
  unfold Voice.fadeFinished; split
  · split_ifs <;> rfl
  · rfl

theorem Voice.fadeFinished_glides (v : Voice) : v.fadeFinished.glides = v.glides := by
  unfold Voice.fadeFinished; split
  · split_ifs <;> rfl
  · rfl

theorem Voice.fadeFinished_crossfadeReport (v : Voice) (l : LineId) : v.fadeFinished.crossfadeReport l = v.crossfadeReport l := by
  unfold Voice.crossfadeReport; rw [v.fadeFinished_begun, v.fadeFinished_crossfades]

/-- R63, R64: what the ended fades leave of a slot's voice and reports. -/
theorem State.finishFades_at : s.finishFades.voices[n] = s.voices[n].fadeFinished.crossfadesFinished
    ∧ s.finishFades.reportsOf n
      = ((s.reportsOf n).1 + s.voices[n].fadeReport, fun l => (s.reportsOf n).2 l + s.voices[n].crossfadeReport l) := by
  obtain ⟨t, before, after⟩ := foldl_allSlots_at (fun t => (t.voices[n], t.reportsOf n))
    (fun t m => (t.finishFade m).finishCrossfades m) n (fun t m h => by
      obtain ⟨hvoice, hreports⟩ := t.finishFade_other n h
      obtain ⟨hvoice', hreports'⟩ := (t.finishFade m).finishCrossfades_other n h
      exact Prod.ext (hvoice'.trans hvoice) (hreports'.trans hreports)) s
  simp only [Prod.mk.injEq] at before after
  obtain ⟨hvoice, hreports⟩ := before
  obtain ⟨hvoice', hreports'⟩ := after
  obtain ⟨fade, fadeReport⟩ := t.finishFade_at n
  obtain ⟨crossfades, crossfadeReport⟩ := (t.finishFade n).finishCrossfades_at n
  refine ⟨?_, ?_⟩
  · exact hvoice'.trans (by rw [crossfades, fade, hvoice])
  · refine hreports'.trans ?_
    rw [crossfadeReport, fadeReport, fade, hvoice, hreports]
    simp only [Voice.fadeFinished_crossfadeReport]

theorem State.processBlock_voice (sends : List (Vector Sample 8)) : (s.processBlock sends).voices[n] = s.stepVoice n sends := by
  show (allSlots.foldl (fun (acc : Vector Voice 16) (m : SlotId) => acc.set m (s.stepVoice m sends)) s.voices)[n] = _
  rw [foldl_set_get (fun m => s.stepVoice m sends), if_pos (mem_allSlots n)]

end
end Sys2Proof.Machine

namespace Sys2Proof.Machine

/-! ### The hand-offs of a block end, at one slot (R62, R66) -/

section
variable {s t : State} (h : s.surroundings = t.surroundings)
include h

theorem audio_of_surroundings : s.audio = t.audio :=
  (congrArg State.audio h : s.surroundings.audio = t.surroundings.audio)
theorem quietGain_of_surroundings : s.quietGain = t.quietGain :=
  (congrArg State.quietGain h : s.surroundings.quietGain = t.surroundings.quietGain)
theorem rate_of_surroundings : s.rate = t.rate :=
  (congrArg State.rate h : s.surroundings.rate = t.surroundings.rate)
theorem tempo_of_surroundings : s.tempo = t.tempo :=
  (congrArg State.tempo h : s.surroundings.tempo = t.surroundings.tempo)

end

section
variable (s : State) (n : SlotId)

theorem State.handOff_surroundings : s.handOff.surroundings = s.stepLfos.surroundings :=
  (State.handPeaks_keeps _ State.surroundings (fun _ _ _ => rfl) (fun _ _ => rfl)).trans s.stepLfos.morphSteps_surroundings

theorem State.handOff_audio : s.handOff.audio = s.audio := (audio_of_surroundings s.handOff_surroundings).trans rfl
theorem State.handOff_quietGain : s.handOff.quietGain = s.quietGain := (quietGain_of_surroundings s.handOff_surroundings).trans rfl
theorem State.handOff_rate : s.handOff.rate = s.rate := (rate_of_surroundings s.handOff_surroundings).trans rfl
theorem State.handOff_morphs : s.handOff.morphs = s.stepLfos.morphSteps.morphs :=
  State.handPeaks_keeps _ State.morphs (fun _ _ _ => rfl) (fun _ _ => rfl)
theorem State.handOff_voices : s.handOff.voices = s.stepLfos.morphSteps.voices :=
  State.handPeaks_keeps _ State.voices (fun _ _ _ => rfl) (fun _ _ => rfl)
theorem State.handOff_reportsOf : s.handOff.reportsOf n = s.stepLfos.morphSteps.reportsOf n :=
  State.handPeaks_keeps _ (fun t => State.reportsOf t n) (fun _ _ _ => rfl) (fun _ _ => rfl)

/-- What the hand-offs leave of a slot with no step to make. -/
theorem State.handOff_of_idle (h : s.morphs[n] = none ∨ s.slots[n].algorithm = none) :
    s.handOff.slots[n] = { s.slots[n] with clip := s.slots[n].clip || s.voices[n].peak } ∧ s.handOff.morphs[n] = s.morphs[n]
    ∧ s.handOff.voices[n] = s.voices[n] ∧ s.handOff.reportsOf n = s.reportsOf n := by
  obtain ⟨t, before, after⟩ := s.stepLfos.morphSteps_at n
  simp only [Prod.mk.injEq] at before after
  obtain ⟨hview, hreports, _⟩ := before
  obtain ⟨hview', hreports', _⟩ := after
  have slot : t.slots[n] = s.slots[n] := congrArg (·.1) hview
  have morph : t.morphs[n] = s.morphs[n] := congrArg (·.2.1) hview
  have idle : t.morphStep n = t := t.morphStep_of_idle n (by rw [morph, slot]; exact h)
  rw [idle] at hview' hreports'
  have view : s.stepLfos.morphSteps.slotView n = s.slotView n := hview'.trans hview
  have slot' : s.stepLfos.morphSteps.slots[n] = s.slots[n] := congrArg (·.1) view
  have voice' : s.stepLfos.morphSteps.voices[n] = s.voices[n] := congrArg (·.2.2.2) view
  rw [s.handOff_morphs, s.handOff_voices, s.handOff_reportsOf]
  refine ⟨?_, congrArg (·.2.1) view, voice', hreports'.trans hreports⟩
  rw [State.handOff, State.handPeaks_slot, slot', voice']

/-- What the hand-offs leave of a slot whose morph makes its step. -/
theorem State.handOff_of_morph {x : Morph} {a : Alg} (hx : s.morphs[n] = some x) (ha : s.slots[n].algorithm = some a)
    (hs : s.slots[n].state ≠ .preparing) :
    s.handOff.slots[n] = { s.slots[n] with
      shadow := a.morphBank s.tempo.applied x (x.done + 1) s.slots[n].shadow, swapPending := true,
      lines := s.handOff.slots[n].lines, clamped := s.handOff.slots[n].clamped, clip := s.slots[n].clip || s.voices[n].peak }
    ∧ s.handOff.morphs[n] = (if x.total ≤ x.done + 1 then none else some { x with done := x.done + 1 })
    ∧ s.handOff.voices[n] = s.voices[n] ∧ s.handOff.reportsOf n = s.reportsOf n := by
  obtain ⟨t, before, after⟩ := s.stepLfos.morphSteps_at n
  simp only [Prod.mk.injEq] at before after
  obtain ⟨hview, hreports, hsurroundings⟩ := before
  obtain ⟨hview', hreports', _⟩ := after
  have slot : t.slots[n] = s.slots[n] := congrArg (·.1) hview
  have morph : t.morphs[n] = s.morphs[n] := congrArg (·.2.1) hview
  have voice : t.voices[n] = s.voices[n] := congrArg (·.2.2.2) hview
  have tempo : t.tempo = s.tempo := (tempo_of_surroundings hsurroundings).trans rfl
  obtain ⟨hslot, hmorph, hvoice⟩ := t.morphStep_of_morph n (morph.trans hx) ((congrArg Slot.algorithm slot).trans ha) (slot ▸ hs)
  have slot' : s.stepLfos.morphSteps.slots[n] = (t.morphStep n).slots[n] := congrArg (·.1) hview'
  have voice' : s.stepLfos.morphSteps.voices[n] = s.voices[n] := (congrArg (·.2.2.2) hview').trans (hvoice.trans voice)
  have peaked := State.handPeaks_slot s.stepLfos.morphSteps n
  have reports := (t.morphStep_reportsOf (n := n) (m := n) (.inr (slot ▸ hs))).trans hreports
  rw [s.handOff_morphs, s.handOff_voices, s.handOff_reportsOf]
  refine ⟨?_, (congrArg (·.2.1) hview').trans hmorph, voice', hreports'.trans reports⟩
  rw [State.handOff, peaked, slot', voice', hslot, slot, tempo]

/-- What every hand-off leaves of a slot that makes no step while PREPARING. -/
theorem State.handOff_steady (h : s.morphs[n] = none ∨ s.slots[n].state = .running ∨ s.slots[n].state = .muted) :
    s.handOff.slots[n].state = s.slots[n].state ∧ s.handOff.slots[n].clip = (s.slots[n].clip || s.voices[n].peak)
    ∧ s.handOff.voices[n] = s.voices[n] ∧ s.handOff.reportsOf n = s.reportsOf n := by
  by_cases hidle : s.morphs[n] = none ∨ s.slots[n].algorithm = none
  · obtain ⟨hslot, _, hvoice, hreports⟩ := s.handOff_of_idle n hidle
    rw [hslot]; exact ⟨rfl, rfl, hvoice, hreports⟩
  · obtain ⟨hmorph, halg⟩ := not_or.mp hidle
    obtain ⟨x, hx⟩ := Option.ne_none_iff_exists'.mp hmorph
    obtain ⟨a, ha⟩ := Option.ne_none_iff_exists'.mp halg
    have hs : s.slots[n].state ≠ .preparing := by
      rcases h.resolve_left hmorph with h | h <;> rw [h] <;> decide
    obtain ⟨hslot, _, hvoice, hreports⟩ := s.handOff_of_morph n hx ha hs
    rw [hslot]; exact ⟨rfl, rfl, hvoice, hreports⟩

/-- With no morph anywhere the hand-offs leave the pool and the reports. -/
theorem State.handOff_of_no_morph (h : ∀ k : SlotId, s.morphs[k] = none) :
    s.handOff.pool = s.pool ∧ s.handOff.crossfadeReports = s.crossfadeReports := by
  have idle : s.stepLfos.morphSteps = s.stepLfos :=
    foldl_holds (fun t => t = s.stepLfos) _ (fun t k ht => by rw [ht]; exact State.morphStep_of_idle _ k (.inl (h k))) _ _ rfl
  rw [State.handOff, idle]
  exact ⟨State.handPeaks_pool _, State.handPeaks_keeps _ State.crossfadeReports (fun _ _ _ => rfl) (fun _ _ => rfl)⟩

end

/-! ### The voice of a slot through a block end -/

/-- The gain and fade a block leaves: an ended fade is removed at its target, any other moves by one block. -/
def fadeAfter (gain : Rat) : Option Fade → Rat × Option Fade
  | none => (gain, none)
  | some f => if f.left = 0 then (f.target, none) else (f.next, some f.step)

theorem Voice.fadeFinished_played (v : Voice) :
    (v.fadeFinished.nextGain, v.fadeFinished.fade.map Fade.step) = fadeAfter v.gain v.fade := by
  unfold Voice.fadeFinished
  cases hfade : v.fade with
  | none => simp only [fadeAfter, Voice.nextGain, hfade]; rfl
  | some f =>
    by_cases hleft : f.left = 0
    · simp only [fadeAfter, hleft, if_true, Voice.nextGain]; rfl
    · simp only [fadeAfter, hleft, if_false, Voice.nextGain, hfade]; rfl

section
variable (v : Voice) (due : Bool) (st : SlotState)

theorem Voice.afterReturn_frame : (v.afterReturn due st).begun = v.begun ∧ (v.afterReturn due st).beginRequested = v.beginRequested
    ∧ (v.afterReturn due st).crossfades = v.crossfades ∧ (v.afterReturn due st).glides = v.glides := by
  unfold Voice.afterReturn; split_ifs
  · cases st <;> exact ⟨rfl, rfl, rfl, rfl⟩
  · exact ⟨rfl, rfl, rfl, rfl⟩

end

section
variable (s : State) (n : SlotId) (sends : List (Vector Sample 8))

/-- What the lengths' turn leaves of a voice. -/
theorem State.takeUp_voice_frame : s.takeUp.voices[n].begun = s.swapped.voices[n].begun
    ∧ s.takeUp.voices[n].beginRequested = s.swapped.voices[n].beginRequested ∧ s.takeUp.voices[n].gain = s.swapped.voices[n].gain
    ∧ s.takeUp.voices[n].fade = s.swapped.voices[n].fade ∧ s.takeUp.voices[n].crossfades = s.swapped.voices[n].crossfades := by
  rw [s.takeUp_voice n]
  split_ifs <;> exact ⟨rfl, rfl, rfl, rfl, rfl⟩

theorem State.stepVoice_frame : (s.stepVoice n sends).begun = s.voices[n].begun
    ∧ (s.stepVoice n sends).beginRequested = s.voices[n].beginRequested := by
  unfold State.stepVoice; dsimp only
  split_ifs <;> exact ⟨rfl, rfl⟩

theorem Voice.crossfadesFinished_frame (v : Voice) : v.crossfadesFinished.begun = v.begun
    ∧ v.crossfadesFinished.beginRequested = v.beginRequested := by
  unfold Voice.crossfadesFinished; split_ifs <;> exact ⟨rfl, rfl⟩

/-- What a block end leaves of the slots, the morphs, the reports and the flags: what its hand-offs, begins and swaps and ended fades
leave. -/
theorem State.soundingBlockEnd_keeps {γ : Type} (g : State → γ) (hclearing : ∀ t : State, g t.startClearing = g t)
    (hsilent : ∀ t : State, g t.finishSupply.endQuietFade.silentBlock = g t)
    (hprocess : ∀ t : State, g (t.finishSupply.processBlock sends) = g t) :
    g (s.soundingBlockEnd sends) = g s.handOff.takeUp.finishFades := by
  unfold State.soundingBlockEnd; dsimp only
  rw [hclearing]
  split_ifs
  · exact hsilent _
  · exact hprocess _

theorem State.finishFades_quietGain : s.handOff.takeUp.finishFades.quietGain = s.quietGain := by
  rw [State.finishFades_keeps _ State.quietGain (fun _ _ _ => rfl) (fun _ _ => rfl) (fun _ _ => rfl),
    State.takeUp_keeps _ State.quietGain (fun _ _ _ => rfl) (fun _ _ _ => rfl) (fun _ => rfl), State.handOff_quietGain]

/-- The voice of a block end that finds the quiet fade over, and of every other one. -/
theorem State.soundingBlockEnd_voice : (s.soundingBlockEnd sends).voices[n] = (s.handOff.takeUp.finishFades).voices[n]
    ∨ (s.soundingBlockEnd sends).voices[n] = s.handOff.takeUp.finishFades.finishSupply.stepVoice n sends := by
  unfold State.soundingBlockEnd; dsimp only
  split_ifs
  · exact Or.inl rfl
  · exact Or.inr (State.processBlock_voice _ n sends)

theorem State.soundingBlockEnd_voice_of_sounding (h : ∀ f, s.quietGain.fade = some f → f.left ≠ 0) :
    (s.soundingBlockEnd sends).voices[n] = s.handOff.takeUp.finishFades.finishSupply.stepVoice n sends := by
  have sounding : ¬ s.handOff.takeUp.finishFades.finishSupply.quietFadeOver = true := by
    have quiet : s.handOff.takeUp.finishFades.finishSupply.quietFadeOver = s.quietGain.fade.any fun f => f.left == 0 :=
      congrArg (fun g : GainFade => g.fade.any fun f : Fade => f.left == 0) s.finishFades_quietGain
    rw [quiet]
    cases hfade : s.quietGain.fade with
    | none => exact Bool.false_ne_true
    | some f => simpa using h f hfade
  unfold State.soundingBlockEnd; dsimp only
  rw [if_neg sounding]
  exact State.processBlock_voice _ n sends

end
end Sys2Proof.Machine

namespace Sys2Proof.Machine

/-! ### Gains, fades and crossfades of a block end (R59, R60, R63, R64) -/

/-- A voice record after its begin and the gains of a return. -/
def Voice.swapped (v : Voice) (due : Bool) (st : SlotState) : Voice := (v.takenUp st).afterReturn due st

section
variable (v : Voice) (due : Bool) (st : SlotState)

/-- R60: a voice that begins takes the fade of its slot's state, whether a return is due or not. -/
theorem Voice.swapped_of_requested (h : v.beginRequested = true) : (v.swapped due st).beginRequested = false
    ∧ (v.swapped due st).gain = 0 ∧ (v.swapped due st).fade = beginFade st ∧ (v.swapped due st).glides = [] := by
  unfold Voice.swapped Voice.takenUp; rw [if_pos h]
  cases due with
  | false => exact ⟨rfl, rfl, rfl, rfl⟩
  | true => cases st <;> exact ⟨rfl, rfl, rfl, rfl⟩

theorem Voice.swapped_of_not_requested (h : v.beginRequested = false) : v.swapped due st = v.afterReturn due st := by
  unfold Voice.swapped Voice.takenUp; rw [h]; rfl

theorem Voice.swapped_begun : (v.swapped due st).begun = (v.beginRequested || v.begun) := by
  have begun := ((v.takenUp st).afterReturn_frame due st).1
  rw [Voice.swapped, begun, Voice.takenUp]
  cases v.beginRequested <;> rfl

theorem Voice.swapped_crossfades : (v.swapped due st).crossfades = v.crossfades := by
  have crossfades := ((v.takenUp st).afterReturn_frame due st).2.2.1
  rw [Voice.swapped, crossfades, Voice.takenUp]
  split_ifs <;> rfl

end

theorem fadeAfter_begin_running : fadeAfter 0 (beginFade .running) = (1 / 8, some { start := 0, target := 1, length := 8, left := 7 }) := by
  norm_num [fadeAfter, beginFade, newFade, Fade.next, Fade.valueAt, Fade.step]

theorem fadeAfter_begin_fading :
    fadeAfter 0 (beginFade .fading) = (0, some { start := 0, target := 0, length := 16, left := 15 }) := by
  norm_num [fadeAfter, beginFade, newFade, Fade.next, Fade.valueAt, Fade.step]

/-- R59: an end fade goes on from 0 after a return. -/
theorem fadeAfter_returned_fading (f : Fade) (h : f.target = 0) :
    fadeAfter 0 (some { f with start := 0 }) = (0, if f.left = 0 then none else some { f with start := 0, left := f.left - 1 }) := by
  by_cases hleft : f.left = 0
  · simp [fadeAfter, hleft, h]
  · simp [fadeAfter, hleft, h, Fade.next, Fade.valueAt, Fade.step]

/-! ### Lengths of lines (R65) -/

theorem find_glide_of_line {f : LineId → Option Glide} (hf : ∀ k g, f k = some g → g.line = k) (l : LineId) (ls : List LineId) :
    (ls.filterMap f).find? (fun g => g.line == l) = if l ∈ ls then f l else none := by
  induction ls with
  | nil => rfl
  | cons k ls ih =>
    cases hk : f k with
    | none =>
      rw [List.filterMap_cons_none hk, ih]
      by_cases hl : l = k
      · subst hl; simp [hk]
      · simp [hl]
    | some g =>
      rw [List.filterMap_cons_some hk, List.find?_cons]
      by_cases hl : k = l
      · subst hl; simp [hf k g hk, hk]
      · have other : (g.line == l) = false := by rw [hf k g hk]; exact beq_false_of_ne hl
        rw [other, ih]
        simp [Ne.symm hl]

theorem Alg.mem_lines (a : Alg) (l : LineId) : l ∈ a.lines ↔ l.val < a.lineCount := by
  unfold Alg.lines allLines Alg.lineCount
  cases a <;> revert l <;> decide

theorem Voice.glideOf_line {v : Voice} {l : LineId} {g : Glide} (h : v.glideOf l = some g) : g.line = l := by
  have line := List.find?_some h
  exact beq_iff_eq.mp line

theorem nextGlide_line (v : Voice) (l : LineId) (target : Rat) (usable blocks : Nat) (changed : Bool) :
    (nextGlide l (v.glideOf l) target usable blocks changed).line = l := by
  have fresh : ∀ (d : Rat) (b : Nat), (newGlide l d target b).line = l := fun d b => by unfold newGlide; split_ifs <;> rfl
  unfold nextGlide
  cases hg : v.glideOf l with
  | none => exact fresh _ _
  | some g =>
    dsimp only; split_ifs
    · exact fresh _ _
    · exact (v.glideOf_line hg : g.line = l)

theorem Glide.step_line (g : Glide) : g.step.line = g.line := by unfold Glide.step; split_ifs <;> rfl

theorem Voice.glideOf_stepped {v w : Voice} (h : w.glides = v.glides.map Glide.step) (l : LineId) :
    w.glideOf l = (v.glideOf l).map Glide.step := by
  unfold Voice.glideOf
  rw [h, List.find?_map]
  simp only [Function.comp_def, Glide.step_line]

/-- R65: a line with no glide state starts at its target. -/
theorem nextGlide_fresh (l : LineId) (target : Rat) (usable blocks : Nat) (changed : Bool) :
    (nextGlide l none target usable blocks changed).step = { line := l, delay := target, target := target, left := 0 } := by
  simp [nextGlide, newGlide, Glide.step]

/-- R65: a line whose target changed steps there, or glides over the blocks of the glide time. -/
theorem nextGlide_changed {l : LineId} {g : Glide} {target : Rat} {usable blocks : Nat} {changed : Bool}
    (h : (changed || g.target != target) = true) : (nextGlide l (some g) target usable blocks changed).step =
      if blocks = 0 then { line := l, delay := target, target := target, left := 0 }
      else { line := l, delay := min g.delay usable + (target - min g.delay usable) / (blocks : Rat), target := target,
             left := blocks - 1 } := by
  unfold nextGlide; dsimp only
  rw [if_pos h, newGlide]
  split_ifs with hblocks
  · simp [Glide.step]
  · simp [Glide.step, hblocks]

/-- R65: any other line goes on, cut to the usable length. -/
theorem nextGlide_same {l : LineId} {g : Glide} {target : Rat} {usable blocks : Nat} {changed : Bool} (hline : g.line = l)
    (h : (changed || g.target != target) = false) : (nextGlide l (some g) target usable blocks changed).step =
      if g.left = 0 then { line := l, delay := min g.delay usable, target := target, left := 0 }
      else { line := l, delay := min g.delay usable + (target - min g.delay usable) / (g.left : Rat), target := target,
             left := g.left - 1 } := by
  obtain ⟨_, same⟩ := Bool.or_eq_false_iff.mp h
  have htarget : g.target = target := by simpa using same
  unfold nextGlide; dsimp only
  rw [if_neg (by rw [h]; decide), Glide.step]
  dsimp only
  rw [hline, htarget]
  split_ifs with hleft
  · rw [hleft]
  · rfl

section
variable (s : State) (n : SlotId) {l : LineId} {ln : Line}

theorem State.glidesOf_line {a : Alg} (before : Bank) (hl : l.val < a.lineCount) (hline : s.slots[n].lines[l.val]? = some ln) :
    (s.glidesOf n a before).find? (fun g => g.line == l) = some (nextGlide l (s.voices[n].glideOf l) (s.lineTarget n a l ln)
      (usableLength (s.pool.countOf (s.voiceRegion n l ln))) (a.glideBlocks s.rate s.slots[n].active)
      (a.timeDriven && a.lineTime s.slots[n].active l != a.lineTime before l)) := by
  unfold State.glidesOf
  rw [find_glide_of_line (fun k g hk => ?_), if_pos ((a.mem_lines l).mpr hl), hline]
  · rfl
  · obtain ⟨ln', _, rfl⟩ := Option.map_eq_some_iff.mp hk
    exact nextGlide_line _ k _ _ _ _

end

theorem Alg.timeDriven_iff (a : Alg) : a.timeDriven = true ↔ a = .tape ∨ a = .pingpong := by cases a <;> simp [Alg.timeDriven]

/-- R20, R65: the blocks of a glide, as the manual counts them. -/
theorem Alg.glideBlocks_eq (a : Alg) (r : Rate) (b : Bank) :
    a.glideBlocks r b = if a = .tape ∨ a = .pingpong then (b[glideIx].toNat * r.perMs + 31) / 32 else 0 := by
  unfold Alg.glideBlocks
  simp only [a.timeDriven_iff]
  rfl

end Sys2Proof.Machine

namespace Sys2Proof.Machine

/-! ### What a block end of the running Voice Engine does to a slot -/

section
variable (s : State) (n : SlotId) (sends : List (Vector Sample 8))

theorem State.blockEnd_slot : (s.soundingBlockEnd sends).slots[n] = s.handOff.slots[n].takenUp s.handOff.voices[n] := by
  have slots : (s.soundingBlockEnd sends).slots = s.handOff.takeUp.slots :=
    (s.soundingBlockEnd_keeps sends State.slots (fun _ => rfl) (fun _ => rfl) (fun _ => rfl)).trans
      (State.finishFades_keeps _ State.slots (fun _ _ _ => rfl) (fun _ _ => rfl) (fun _ _ => rfl))
  rw [slots, State.takeUp_slot]

theorem State.blockEnd_morph : (s.soundingBlockEnd sends).morphs[n] = s.handOff.morphs[n] := by
  have morphs : (s.soundingBlockEnd sends).morphs = s.handOff.morphs :=
    ((s.soundingBlockEnd_keeps sends State.morphs (fun _ => rfl) (fun _ => rfl) (fun _ => rfl)).trans
      (State.finishFades_keeps _ State.morphs (fun _ _ _ => rfl) (fun _ _ => rfl) (fun _ _ => rfl))).trans
      (State.takeUp_keeps _ State.morphs (fun _ _ _ => rfl) (fun _ _ _ => rfl) (fun _ => rfl))
  rw [morphs]

theorem State.blockEnd_flagged {f : Flag} (h : s.handOff.flagged f) : (s.soundingBlockEnd sends).flagged f := by
  have ports : ((s.soundingBlockEnd sends).portA, (s.soundingBlockEnd sends).portB) = (s.handOff.portA, s.handOff.portB) :=
    ((s.soundingBlockEnd_keeps sends (fun t => (t.portA, t.portB)) (fun _ => rfl) (fun _ => rfl) (fun _ => rfl)).trans
      (State.finishFades_keeps _ (fun t => (t.portA, t.portB)) (fun _ _ _ => rfl) (fun _ _ => rfl) (fun _ _ => rfl))).trans
      (State.takeUp_keeps _ (fun t => (t.portA, t.portB)) (fun _ _ _ => rfl) (fun _ _ _ => rfl) (fun _ => rfl))
  exact State.flagged_of_ports (congrArg (·.1) ports) (congrArg (·.2) ports) h

/-- R62: a peak of the block just sent. -/
theorem State.blockEnd_peak (h : s.stepLfos.morphSteps.voices[n].peak = true) : (s.soundingBlockEnd sends).flagged .clip :=
  s.blockEnd_flagged sends (State.handPeaks_flagged _ n h)

variable {s n}

/-- A slot with a step to make is RUNNING or MUTED: its needs are evaluated in place, and no replacement can empty it. -/
def State.stepsInPlace (s : State) (n : SlotId) : Prop :=
  s.morphs[n] = none ∨ s.slots[n].state = .running ∨ s.slots[n].state = .muted

/-- The voice of a slot when the lengths follow. -/
theorem State.stepsInPlace.swapped_voice (hs : s.stepsInPlace n) :
    s.handOff.swapped.voices[n] = s.voices[n].swapped s.audio.returnDue s.slots[n].state := by
  obtain ⟨hstate, _, hvoice, _⟩ := s.handOff_steady n hs
  rw [State.swapped_voice, hvoice, hstate, State.handOff_audio]; rfl

theorem State.stepsInPlace.blockEnd_clip (hs : s.stepsInPlace n) (h : s.voices[n].peak = true) :
    (s.soundingBlockEnd sends).slots[n].clip = true ∧ (s.soundingBlockEnd sends).flagged .clip := by
  obtain ⟨_, hclip, hvoice, _⟩ := s.handOff_steady n hs
  have kept : ∀ (sl : Slot) v, (sl.takenUp v).clip = sl.clip := fun sl v => by unfold Slot.takenUp; split_ifs <;> rfl
  refine ⟨?_, s.blockEnd_peak n sends ?_⟩
  · rw [s.blockEnd_slot n sends, kept, hclip, h, Bool.or_true]
  · rw [← s.handOff_voices, hvoice]; exact h

theorem State.stepsInPlace.blockEnd_state (hs : s.stepsInPlace n) :
    (s.soundingBlockEnd sends).slots[n].state = s.slots[n].state := by
  rw [s.blockEnd_slot n sends, Slot.takenUp_state, (s.handOff_steady n hs).1]

/-- R60: a slot whose begin is requested has begun after the block end, whether the block is processed or not. -/
theorem State.stepsInPlace.blockEnd_begins (hs : s.stepsInPlace n) (h : s.voices[n].beginRequested = true) :
    (s.soundingBlockEnd sends).voices[n].begun = true ∧ (s.soundingBlockEnd sends).voices[n].beginRequested = false := by
  have taken : s.handOff.takeUp.voices[n].begun = true ∧ s.handOff.takeUp.voices[n].beginRequested = false := by
    obtain ⟨hbegun, hrequested, _, _, _⟩ := s.handOff.takeUp_voice_frame n
    rw [hbegun, hrequested, hs.swapped_voice, Voice.swapped_begun, h]
    exact ⟨rfl, (Voice.swapped_of_requested _ _ _ h).1⟩
  have finished : s.handOff.takeUp.finishFades.voices[n].begun = true
      ∧ s.handOff.takeUp.finishFades.voices[n].beginRequested = false := by
    have frame := s.handOff.takeUp.voices[n].fadeFinished.crossfadesFinished_frame
    rw [(s.handOff.takeUp.finishFades_at n).1, frame.1, frame.2, Voice.fadeFinished_begun, Voice.fadeFinished_beginRequested]
    exact taken
  rcases s.soundingBlockEnd_voice n sends with hv | hv
  · rw [hv]; exact finished
  · have frame := s.handOff.takeUp.finishFades.finishSupply.stepVoice_frame n sends
    rw [hv, frame.1, frame.2]; exact finished

/-- The reports a block end leaves of a slot. -/
theorem State.stepsInPlace.blockEnd_reports (hs : s.stepsInPlace n) : (s.soundingBlockEnd sends).reportsOf n =
    ((s.reportsOf n).1 + (s.voices[n].swapped s.audio.returnDue s.slots[n].state).fadeReport,
      fun l => (s.reportsOf n).2 l + (s.voices[n].swapped s.audio.returnDue s.slots[n].state).crossfadeReport l) := by
  obtain ⟨_, _, _, hreports⟩ := s.handOff_steady n hs
  obtain ⟨hbegun, _, _, hfade, hcrossfades⟩ := s.handOff.takeUp_voice_frame n
  have taken : s.handOff.takeUp.reportsOf n = s.reportsOf n :=
    (State.takeUp_keeps _ (fun t => State.reportsOf t n) (fun _ _ _ => rfl) (fun _ _ _ => rfl) (fun _ => rfl)).trans hreports
  have fade : s.handOff.takeUp.voices[n].fadeReport = (s.voices[n].swapped s.audio.returnDue s.slots[n].state).fadeReport := by
    unfold Voice.fadeReport; rw [hfade, hs.swapped_voice]
  have crossfade : s.handOff.takeUp.voices[n].crossfadeReport =
      (s.voices[n].swapped s.audio.returnDue s.slots[n].state).crossfadeReport := by
    funext l; unfold Voice.crossfadeReport; rw [hbegun, hcrossfades, hs.swapped_voice]
  have final : (s.soundingBlockEnd sends).reportsOf n = s.handOff.takeUp.finishFades.reportsOf n :=
    s.soundingBlockEnd_keeps sends (fun t => State.reportsOf t n) (fun _ => rfl) (fun _ => rfl) (fun _ => rfl)
  rw [final, (s.handOff.takeUp.finishFades_at n).2, taken, fade, crossfade]

/-- R61 to R65: the voice of a slot heard in a block that is processed. -/
theorem State.stepsInPlace.blockEnd_voice (hs : s.stepsInPlace n) (sounding : ∀ f, s.quietGain.fade = some f → f.left ≠ 0)
    (heard : s.voices[n].beginRequested = true ∨ s.voices[n].begun = true) :
    ((s.soundingBlockEnd sends).voices[n].gain, (s.soundingBlockEnd sends).voices[n].fade)
        = fadeAfter (s.voices[n].swapped s.audio.returnDue s.slots[n].state).gain
          (s.voices[n].swapped s.audio.returnDue s.slots[n].state).fade
      ∧ (s.soundingBlockEnd sends).voices[n].crossfades
        = (s.voices[n].crossfades.filter fun x => x.left != 0).map (fun x => { x with left := x.left - 1 })
      ∧ (s.soundingBlockEnd sends).voices[n].glides = s.handOff.takeUp.voices[n].glides.map Glide.step := by
  obtain ⟨hbegun, _, hgain, hfade, hcrossfades⟩ := s.handOff.takeUp_voice_frame n
  rw [hs.swapped_voice] at hbegun hgain hfade hcrossfades
  have begun : s.handOff.takeUp.voices[n].begun = true := by
    rw [hbegun, Voice.swapped_begun, Bool.or_eq_true]; exact heard
  have finished : s.handOff.takeUp.finishFades.finishSupply.voices[n]
      = s.handOff.takeUp.voices[n].fadeFinished.crossfadesFinished := (s.handOff.takeUp.finishFades_at n).1
  have removed : s.handOff.takeUp.voices[n].fadeFinished.crossfadesFinished = { s.handOff.takeUp.voices[n].fadeFinished with
      crossfades := s.handOff.takeUp.voices[n].fadeFinished.crossfades.filter fun x => x.left != 0 } :=
    if_pos ((Voice.fadeFinished_begun _).trans begun)
  have heardStill : s.handOff.takeUp.finishFades.finishSupply.voices[n].begun = true := by
    rw [finished, removed]; exact (Voice.fadeFinished_begun _).trans begun
  rw [s.soundingBlockEnd_voice_of_sounding n sends sounding]
  unfold State.stepVoice; dsimp only
  rw [if_pos heardStill, finished, removed, ← hgain, ← hfade, ← Voice.fadeFinished_played]
  refine ⟨rfl, ?_, ?_⟩
  · dsimp only; rw [Voice.fadeFinished_crossfades, hcrossfades, Voice.swapped_crossfades]
  · dsimp only; rw [Voice.fadeFinished_glides]

end
end Sys2Proof.Machine

namespace Sys2Proof.Machine

/-! ### The clauses of the block end (R19, R59, R60, R63 to R65, R67, R125) -/

section
variable (sl : Slot) (v : Voice)

theorem Slot.takenUp_frame : (sl.takenUp v).shadow = sl.shadow ∧ (sl.takenUp v).algorithm = sl.algorithm
    ∧ (sl.takenUp v).lines = sl.lines := by
  unfold Slot.takenUp; split_ifs <;> exact ⟨rfl, rfl, rfl⟩

/-- R67: a begin, or a begun slot's pending swap. -/
theorem Slot.takenUp_of_swap (h : v.beginRequested = true ∨ v.begun = true ∧ sl.swapPending = true) :
    (sl.takenUp v).active = sl.shadow ∧ (sl.takenUp v).swapPending = false := by
  have cond : (v.beginRequested || (v.begun && sl.swapPending)) = true := by rw [Bool.or_eq_true, Bool.and_eq_true]; exact h
  unfold Slot.takenUp; rw [if_pos cond]; exact ⟨rfl, rfl⟩

theorem Slot.takenUp_of_no_swap (hr : v.beginRequested = false) (h : v.begun = false ∨ sl.swapPending = false) :
    (sl.takenUp v).active = sl.active ∧ (sl.takenUp v).swapPending = sl.swapPending := by
  have cond : (v.beginRequested || (v.begun && sl.swapPending)) = false := by
    rw [Bool.or_eq_false_iff, Bool.and_eq_false_iff]; exact ⟨hr, h⟩
  unfold Slot.takenUp; rw [cond]; exact ⟨rfl, rfl⟩

end

section
variable {s : State} {n : SlotId} (sends : List (Vector Sample 8))

/-- A slot with no morph: its shadow bank stays, and swaps in if it should. -/
theorem State.blockEnd_of_no_morph (h : s.morphs[n] = none) :
    (s.soundingBlockEnd sends).slots[n].shadow = s.slots[n].shadow ∧ (s.soundingBlockEnd sends).morphs[n] = none
    ∧ (s.voices[n].beginRequested = true ∨ s.voices[n].begun = true ∧ s.slots[n].swapPending = true →
      (s.soundingBlockEnd sends).slots[n].active = s.slots[n].shadow ∧ (s.soundingBlockEnd sends).slots[n].swapPending = false)
    ∧ (s.voices[n].beginRequested = false → (s.voices[n].begun = false ∨ s.slots[n].swapPending = false) →
      (s.soundingBlockEnd sends).slots[n].active = s.slots[n].active
      ∧ (s.soundingBlockEnd sends).slots[n].swapPending = s.slots[n].swapPending) := by
  obtain ⟨hslot, hmorph, hvoice, _⟩ := s.handOff_of_idle n (.inl h)
  rw [s.blockEnd_slot n sends, s.blockEnd_morph n sends, hslot, hvoice]
  refine ⟨(Slot.takenUp_frame _ _).1, hmorph.trans h, fun hswap => Slot.takenUp_of_swap _ _ hswap, fun hr hno => ?_⟩
  exact Slot.takenUp_of_no_swap _ _ hr hno

/-- A slot whose morph makes its step: the bank written is pending, and swaps in if the slot is heard. -/
theorem State.blockEnd_of_morph {x : Morph} {a : Alg} (hx : s.morphs[n] = some x) (ha : s.slots[n].algorithm = some a)
    (hs : s.slots[n].state ≠ .preparing) :
    (s.soundingBlockEnd sends).slots[n].shadow = a.morphBank s.tempo.applied x (x.done + 1) s.slots[n].shadow
    ∧ (s.soundingBlockEnd sends).morphs[n] = (if x.total ≤ x.done + 1 then none else some { x with done := x.done + 1 })
    ∧ (s.voices[n].beginRequested = true ∨ s.voices[n].begun = true →
      (s.soundingBlockEnd sends).slots[n].active = a.morphBank s.tempo.applied x (x.done + 1) s.slots[n].shadow
      ∧ (s.soundingBlockEnd sends).slots[n].swapPending = false)
    ∧ (¬ (s.voices[n].beginRequested = true ∨ s.voices[n].begun = true) →
      (s.soundingBlockEnd sends).slots[n].active = s.slots[n].active ∧ (s.soundingBlockEnd sends).slots[n].swapPending = true) := by
  obtain ⟨hslot, hmorph, hvoice, _⟩ := s.handOff_of_morph n hx ha hs
  rw [s.blockEnd_slot n sends, s.blockEnd_morph n sends, hslot, hvoice]
  refine ⟨(Slot.takenUp_frame _ _).1, hmorph, fun heard => ?_, fun hnot => ?_⟩
  · exact Slot.takenUp_of_swap _ _ (heard.imp_right fun h => ⟨h, rfl⟩)
  · obtain ⟨hr, hb⟩ := not_or.mp hnot
    exact Slot.takenUp_of_no_swap _ _ (Bool.eq_false_iff.mpr hr) (.inl (Bool.eq_false_iff.mpr hb))

variable (hs : s.stepsInPlace n) (sounding : ∀ f, s.quietGain.fade = some f → f.left ≠ 0)
include hs sounding

/-- R60: the gain and fade of a slot that begins. -/
theorem State.stepsInPlace.begin_gain (h : s.voices[n].beginRequested = true) :
    ((s.soundingBlockEnd sends).voices[n].gain, (s.soundingBlockEnd sends).voices[n].fade)
      = fadeAfter 0 (beginFade s.slots[n].state) := by
  obtain ⟨_, hgain, hfade, _⟩ := s.voices[n].swapped_of_requested s.audio.returnDue s.slots[n].state h
  rw [(hs.blockEnd_voice sends sounding (.inl h)).1, hgain, hfade]

/-- R59, R63: the gain and fade of a slot that goes on. -/
theorem State.stepsInPlace.played_gain {due : Bool} (hr : s.voices[n].beginRequested = false) (hb : s.voices[n].begun = true)
    (hdue : s.audio.returnDue = due) :
    ((s.soundingBlockEnd sends).voices[n].gain, (s.soundingBlockEnd sends).voices[n].fade)
      = fadeAfter (s.voices[n].afterReturn due s.slots[n].state).gain (s.voices[n].afterReturn due s.slots[n].state).fade := by
  rw [(hs.blockEnd_voice sends sounding (.inr hb)).1, Voice.swapped_of_not_requested _ _ _ hr, hdue]

/-- R59: the first block end after a return. -/
theorem State.stepsInPlace.return_gain (hr : s.voices[n].beginRequested = false) (hb : s.voices[n].begun = true)
    (hdue : s.audio.returnDue = true) :
    ((s.soundingBlockEnd sends).voices[n].gain, (s.soundingBlockEnd sends).voices[n].fade)
      = fadeAfter (s.voices[n].returned s.slots[n].state).gain (s.voices[n].returned s.slots[n].state).fade := by
  have returned : s.voices[n].afterReturn true s.slots[n].state = s.voices[n].returned s.slots[n].state := by
    unfold Voice.afterReturn; rw [hb]; rfl
  rw [hs.played_gain sends sounding hr hb hdue, returned]

end

section
variable {s : State} {n : SlotId} (sends : List (Vector Sample 8)) (hnone : ∀ k : SlotId, s.morphs[k] = none)
include hnone

/-- With no morph anywhere, the lengths follow from what the state held before the block end. -/
theorem State.swapped_lines (l : LineId) (ln : Line) :
    s.handOff.swapped.slots[n].algorithm = s.slots[n].algorithm ∧ s.handOff.swapped.slots[n].lines = s.slots[n].lines
    ∧ s.handOff.slots[n].active = s.slots[n].active ∧ s.handOff.swapped.rate = s.rate ∧ s.handOff.swapped.pool = s.pool
    ∧ s.handOff.swapped.voiceRegion n l ln = s.voiceRegion n l ln := by
  obtain ⟨hslot, _, _, _⟩ := s.handOff_of_idle n (.inl (hnone n))
  obtain ⟨hpool, hreports⟩ := s.handOff_of_no_morph hnone
  have hs : s.stepsInPlace n := .inl (hnone n)
  have frame := s.handOff.slots[n].takenUp_frame s.handOff.voices[n]
  rw [← s.handOff.swapped_slot n] at frame
  obtain ⟨_, halg, hlines⟩ := frame
  have outside : (s.handOff.swapped.rate, s.handOff.swapped.pool, s.handOff.swapped.crossfadeReports)
      = (s.handOff.rate, s.handOff.pool, s.handOff.crossfadeReports) :=
    State.swapped_keeps _ (fun t => (t.rate, t.pool, t.crossfadeReports)) (fun _ _ _ => rfl) (fun _ _ _ => rfl) (fun _ => rfl)
  simp only [Prod.mk.injEq] at outside
  obtain ⟨hrate, hpool', hreports'⟩ := outside
  refine ⟨?_, ?_, ?_, hrate.trans s.handOff_rate, hpool'.trans hpool, ?_⟩
  · rw [halg, hslot]
  · rw [hlines, hslot]
  · rw [hslot]
  · unfold State.voiceRegion Voice.crossfadeOf
    rw [hs.swapped_voice, Voice.swapped_crossfades, hreports', hreports]

/-- R40, R65: the length state of a line of a slot that is heard. -/
theorem State.blockEnd_line (sounding : ∀ f, s.quietGain.fade = some f → f.left ≠ 0)
    (heard : s.voices[n].beginRequested = true ∨ s.voices[n].begun = true) {a : Alg} {l : LineId} {ln : Line}
    (ha : s.slots[n].algorithm = some a) (hl : l.val < a.lineCount) (hline : s.slots[n].lines[l.val]? = some ln) :
    (s.soundingBlockEnd sends).voices[n].glideOf l = some (nextGlide l
      ((s.voices[n].swapped s.audio.returnDue s.slots[n].state).glideOf l)
      (if s.pool.countOf (s.voiceRegion n l ln) < requiredPages s.rate a (s.soundingBlockEnd sends).slots[n].active l
        then usableLength (s.pool.countOf (s.voiceRegion n l ln))
        else lineAsked s.rate a (s.soundingBlockEnd sends).slots[n].active l)
      (usableLength (s.pool.countOf (s.voiceRegion n l ln))) (a.glideBlocks s.rate (s.soundingBlockEnd sends).slots[n].active)
      (a.timeDriven && a.lineTime (s.soundingBlockEnd sends).slots[n].active l != a.lineTime s.slots[n].active l)).step := by
  have hs : s.stepsInPlace n := .inl (hnone n)
  obtain ⟨halg, hlines, hactive, hrate, hpool, hregion⟩ := s.swapped_lines (n := n) hnone l ln
  have slot : (s.soundingBlockEnd sends).slots[n] = s.handOff.swapped.slots[n] := by
    rw [s.blockEnd_slot n sends, State.swapped_slot]
  have begun : s.handOff.swapped.voices[n].begun = true := by
    rw [hs.swapped_voice, Voice.swapped_begun, Bool.or_eq_true]; exact heard
  have glides : s.handOff.takeUp.voices[n].glides = s.handOff.swapped.glidesOf n a s.slots[n].active := by
    rw [State.takeUp_voice, if_pos begun]
    dsimp only
    rw [halg, ha, hactive]; rfl
  have found := s.handOff.swapped.glidesOf_line n (a := a) s.slots[n].active hl (by rw [hlines]; exact hline)
  rw [← glides] at found
  rw [Voice.glideOf_stepped (hs.blockEnd_voice sends sounding heard).2.2]
  refine (congrArg (Option.map Glide.step) found).trans ?_
  rw [Option.map_some, State.lineTarget, hregion, hpool, hrate, hs.swapped_voice, slot]

end
end Sys2Proof.Machine

namespace Sys2Proof.Machine

/-! ### The block end of the running Voice Engine, as the manual states it -/

/-- R125: the values a step leaves in the shadow bank. -/
theorem Alg.morphBank_values (a : Alg) (tempo : Nat) (x : Morph) (k : Nat) (b : Bank) :
    (∀ ix : ParamIx, x.morphing.getLsbD ix.val = false → (ix ≠ 0 ∨ a.locked (a.morphBank tempo x k b) = false) →
      (a.morphBank tempo x k b)[ix] = b[ix])
    ∧ (∀ ix : ParamIx, x.morphing.getLsbD ix.val = true → (ix ≠ 0 ∨ a.locked (a.morphBank tempo x k b) = false) →
      (a.morphBank tempo x k b)[ix] = if a.discrete ix then (if 2 * k < x.total then x.start[ix] else x.target[ix])
        else x.start[ix] + (2 * ((x.target[ix] - x.start[ix]) * k) + x.total) / (2 * x.total)) := by
  refine ⟨fun ix hout hown => ?_, fun ix hin hown => ?_⟩
  · rw [a.morphBank_get tempo x k b hown, hout]; rfl
  · rw [a.morphBank_get tempo x k b hown, if_pos hin, a.morphValue_eq]

theorem Alg.timeChanged_iff (a : Alg) (old new : Nat) (g target : Rat) :
    ((a.timeDriven && new != old) || g != target) = true ↔ (a = .tape ∨ a = .pingpong) ∧ new ≠ old ∨ g ≠ target := by
  rw [Bool.or_eq_true, Bool.and_eq_true, bne_iff_ne, bne_iff_ne, a.timeDriven_iff]

theorem Voice.swapped_glideOf (v : Voice) (due : Bool) (st : SlotState) (l : LineId) :
    (v.swapped due st).glideOf l = if v.beginRequested then none else v.glideOf l := by
  unfold Voice.glideOf
  cases hreq : v.beginRequested with
  | true => rw [(v.swapped_of_requested due st hreq).2.2.2]; rfl
  | false =>
    obtain ⟨_, _, _, hglides⟩ := v.afterReturn_frame due st
    rw [v.swapped_of_not_requested due st hreq, hglides]; rfl

theorem Voice.fadeReport_of_left {v : Voice} {f : Fade} (hf : v.fade = some f) (h : 0 < f.left) : v.fadeReport = 0 := by
  unfold Voice.fadeReport; rw [hf]; exact if_neg fun ended => Nat.ne_of_gt h ended.1

theorem Voice.fadeReport_of_ended {v : Voice} {f : Fade} (hf : v.fade = some f) (h : f.left = 0) :
    v.fadeReport = if f.length = 16 then 1 else 0 := by
  unfold Voice.fadeReport; rw [hf]; simp only [h, true_and]

section
variable {s : State} {n : SlotId} (sends : List (Vector Sample 8)) (hs : s.stepsInPlace n)
include hs

/-- R63: the reports of a slot's fade at a block end that neither begins it nor follows a return. -/
theorem State.stepsInPlace.fade_reports (hr : s.voices[n].beginRequested = false) (hdue : s.audio.returnDue = false) :
    (s.soundingBlockEnd sends).fadeReports.count n = s.fadeReports.count n + s.voices[n].fadeReport := by
  have counted := congrArg (·.1) (hs.blockEnd_reports sends)
  rw [Voice.swapped_of_not_requested _ _ _ hr, hdue] at counted
  exact counted

/-- R63: a fade with blocks left moves by one, and one with none left is removed and reported. -/
theorem State.stepsInPlace.fade_moves (sounding : ∀ f, s.quietGain.fade = some f → f.left ≠ 0)
    (hr : s.voices[n].beginRequested = false) (hb : s.voices[n].begun = true) (hdue : s.audio.returnDue = false) :
    (s.voices[n].fade = none → (s.soundingBlockEnd sends).voices[n].gain = s.voices[n].gain
      ∧ (s.soundingBlockEnd sends).voices[n].fade = none)
    ∧ (∀ f, s.voices[n].fade = some f → 0 < f.left → (s.soundingBlockEnd sends).voices[n].gain = f.next
      ∧ (s.soundingBlockEnd sends).voices[n].fade = some f.step
      ∧ (s.soundingBlockEnd sends).fadeReports.count n = s.fadeReports.count n)
    ∧ (∀ f, s.voices[n].fade = some f → f.left = 0 → (s.soundingBlockEnd sends).voices[n].gain = f.target
      ∧ (s.soundingBlockEnd sends).voices[n].fade = none
      ∧ (s.soundingBlockEnd sends).fadeReports.count n = s.fadeReports.count n + (if f.length = 16 then 1 else 0)) := by
  have played : ((s.soundingBlockEnd sends).voices[n].gain, (s.soundingBlockEnd sends).voices[n].fade)
      = fadeAfter s.voices[n].gain s.voices[n].fade := hs.played_gain sends sounding hr hb hdue
  have reports := hs.fade_reports sends hr hdue
  refine ⟨fun hf => ?_, fun f hf hleft => ?_, fun f hf hleft => ?_⟩
  · rw [hf] at played; exact Prod.mk.inj played
  · have going : fadeAfter s.voices[n].gain (some f) = (f.next, some f.step) := if_neg (Nat.ne_of_gt hleft)
    rw [hf, going] at played
    rw [Voice.fadeReport_of_left hf hleft] at reports
    obtain ⟨hgain, hfade⟩ := Prod.mk.inj played
    exact ⟨hgain, hfade, reports⟩
  · have ended : fadeAfter s.voices[n].gain (some f) = (f.target, none) := if_pos hleft
    rw [hf, ended] at played
    rw [Voice.fadeReport_of_ended hf hleft] at reports
    obtain ⟨hgain, hfade⟩ := Prod.mk.inj played
    exact ⟨hgain, hfade, reports⟩

/-- R64: the reports of a line's crossfades. -/
theorem State.stepsInPlace.crossfade_reports (heard : s.voices[n].beginRequested = true ∨ s.voices[n].begun = true) (l : LineId) :
    (s.soundingBlockEnd sends).crossfadeReports.count (n, l) = s.crossfadeReports.count (n, l)
      + (s.voices[n].crossfades.filter fun x => x.left == 0 && x.line == l).length := by
  have counted : (s.soundingBlockEnd sends).crossfadeReports.count (n, l) = s.crossfadeReports.count (n, l)
      + (s.voices[n].swapped s.audio.returnDue s.slots[n].state).crossfadeReport l :=
    congrFun (congrArg (·.2) (hs.blockEnd_reports sends)) l
  have begun : (s.voices[n].swapped s.audio.returnDue s.slots[n].state).begun = true := by
    rw [Voice.swapped_begun, Bool.or_eq_true]; exact heard
  rw [counted, Voice.crossfadeReport, if_pos begun, Voice.swapped_crossfades]

end

/-- The block end that a frame brings. -/
theorem exec_frameTaken_blockEnd {s : State} {words : Vector AudioWord 16} (hpower : s.power ≠ .starting)
    (hclock : s.audio.clock = .present) (hopen : s.audio.frameOpen = true) (hsends : s.audio.sends.length = 31)
    (hrunning : s.stopped = false) :
    exec (.frameTaken words) s = .next ((({ s with audio := { s.audio.takeFrame words with sends := [] } } : State).feed
      (s.audio.takeFrame words).sends).soundingBlockEnd (s.audio.takeFrame words).sends) := by
  have full : ¬ (s.audio.takeFrame words).sends.length < 32 := by
    rw [Audio.takeFrame, List.length_append, hsends]; exact Nat.lt_irrefl 32
  show execFrameTaken words s = _
  unfold execFrameTaken
  rw [if_pos ⟨hpower, hclock, hopen⟩]; dsimp only
  rw [if_neg full, State.blockEnd]
  exact congrArg Host.Outcome.next (if_neg (ne_true_of_eq_false hrunning))

/-- Settles O42: the morph's step, the swap, and the gains, crossfades and lengths of the slot's voice. -/
theorem blockEndSwaps : Obligations.BlockEndSwaps := by
  intro s words n hpower hclock hopen hsends hrunning hsteps v sounding heard
  have taken := exec_frameTaken_blockEnd (words := words) hpower hclock hopen hsends hrunning
  generalize (s.audio.takeFrame words).sends = sends at taken
  let t : State := ({ s with audio := { s.audio.takeFrame words with sends := [] } } : State).feed sends
  have hs : t.stepsInPlace n := hsteps
  refine ⟨t.soundingBlockEnd sends, taken, hs.blockEnd_state sends, t.blockEnd_of_no_morph sends, fun x a hx ha => ?morph,
    hs.blockEnd_begins sends, fun hsound hr => ?begins, fun hsound hr hb hdue => ?returns, fun hsound hr hb hdue => ?fades,
    fun hsound hheard => ?crossfades, fun hsound hheard hnone a l ln ha hl hline => ?lengths, hs.blockEnd_clip sends⟩
  case morph =>
    have running : t.slots[n].state ≠ .preparing := by
      have steps : s.slots[n].state = .running ∨ s.slots[n].state = .muted := hsteps.resolve_left (by rw [hx]; exact nofun)
      show s.slots[n].state ≠ _
      rcases steps with h | h <;> rw [h] <;> decide
    obtain ⟨hshadow, hmorph, hheard, hunheard⟩ := t.blockEnd_of_morph sends hx ha running
    obtain ⟨hout, hin⟩ := a.morphBank_values s.tempo.applied x (x.done + 1) s.slots[n].shadow
    have htime := a.morphBank_time s.tempo.applied x (x.done + 1) s.slots[n].shadow
    intro k bank
    rw [show bank = a.morphBank s.tempo.applied x (x.done + 1) s.slots[n].shadow from hshadow]
    exact ⟨hmorph, hheard, hunheard, hout, hin, htime⟩
  case begins =>
    have played := hs.begin_gain sends hsound hr
    have state : t.slots[n].state = s.slots[n].state := rfl
    rw [state] at played
    refine ⟨fun h => ?_, fun h => ?_, fun h => ?_⟩
    · rw [h, fadeAfter_begin_running] at played; exact Prod.mk.inj played
    · rw [h] at played; exact Prod.mk.inj played
    · rw [h, fadeAfter_begin_fading] at played; exact Prod.mk.inj played
  case returns =>
    have played := hs.return_gain sends hsound hr hb hdue
    have state : t.slots[n].state = s.slots[n].state := rfl
    rw [state] at played
    refine ⟨fun h => ?_, fun h => ?_, fun f h hf htarget => ?_⟩
    · rw [h] at played; exact Prod.mk.inj (played.trans fadeAfter_begin_running)
    · rw [h] at played; exact Prod.mk.inj played
    · have fading : (t.voices[n].returned .fading).fade = some { f with start := 0 } := congrArg (Option.map _) hf
      rw [h, fading] at played
      exact Prod.mk.inj (played.trans (fadeAfter_returned_fading f htarget))
  case fades => exact hs.fade_moves sends hsound hr hb hdue
  case crossfades => exact ⟨(hs.blockEnd_voice sends hsound hheard).2.1, hs.crossfade_reports sends hheard⟩
  case lengths =>
    intro pages bank target blocks
    have line := t.blockEnd_line sends hnone hsound hheard ha hl hline
    rw [Alg.glideBlocks_eq, Voice.swapped_glideOf] at line
    refine ⟨fun hfresh => ?_, fun g hr hg => ?_⟩
    · have fresh : (if t.voices[n].beginRequested then none else t.voices[n].glideOf l) = none :=
        ite_eq_left_iff.mpr hfresh.resolve_left
      rw [fresh, nextGlide_fresh] at line
      exact line
    · have kept : (if t.voices[n].beginRequested then none else t.voices[n].glideOf l) = some g :=
        (if_neg (ne_true_of_eq_false hr)).trans hg
      rw [kept] at line
      intro now changed
      have moved : ((a.timeDriven && a.lineTime bank l != a.lineTime s.slots[n].active l) || g.target != target) = true ↔ changed :=
        a.timeChanged_iff _ _ _ _
      have same : ¬ changed → ((a.timeDriven && a.lineTime bank l != a.lineTime s.slots[n].active l) || g.target != target) = false :=
        fun hc => Bool.eq_false_iff.mpr (mt moved.mp hc)
      have own : g.line = l := v.glideOf_line hg
      refine ⟨fun hc hblocks => ?_, fun hc hblocks => ?_, fun hc hleft => ?_, fun hc hleft => ?_⟩
      · exact line.trans (congrArg some ((nextGlide_changed (moved.mpr hc)).trans (if_pos hblocks)))
      · exact line.trans (congrArg some ((nextGlide_changed (moved.mpr hc)).trans (if_neg (Nat.ne_of_gt hblocks))))
      · exact line.trans (congrArg some ((nextGlide_same own (same hc)).trans (if_pos hleft)))
      · exact line.trans (congrArg some ((nextGlide_same own (same hc)).trans (if_neg (Nat.ne_of_gt hleft))))

end Sys2Proof.Machine

namespace Sys2Proof.Machine

/-! ### Places of a page (R29, R31) -/

section

/-- 1 for a page of the `count` pages from `first`, 0 for any other. -/
def covers (first count page : Nat) : Nat := if first ≤ page ∧ page < first + count then 1 else 0

theorem covers_zero (first page : Nat) : covers first 0 page = 0 := if_neg (by omega)

/-- The pages from `first` on are the first `a` of them and the `b` after these. -/
theorem covers_add (first a b page : Nat) : covers first (a + b) page = covers first a page + covers (first + a) b page := by
  unfold covers; split_ifs <;> omega

/-- The free runs that hold a page. -/
def runPlaces (runs : List Run) (page : Nat) : Nat := (runs.filter (·.has page)).length

theorem runPlaces_nil (page : Nat) : runPlaces [] page = 0 := rfl

theorem runPlaces_cons (r : Run) (runs : List Run) (page : Nat) :
    runPlaces (r :: runs) page = covers r.first r.count page + runPlaces runs page := by
  have has : r.has page = true ↔ r.first ≤ page ∧ page < r.first + r.count := by simp [Run.has]
  unfold runPlaces covers
  rw [List.filter_cons]
  split_ifs <;> simp_all; omega

/-- The region entries of a table that hold a page. -/
def entryPlaces (entries : Vector (Option Region) 64) (page : Nat) : Nat :=
  (allEntries.filter fun e => entries[e].any (·.has page)).length

/-- What one entry adds to the places of a page. -/
def entryCovers (x : Option Region) (page : Nat) : Nat := x.elim 0 fun r => covers r.first r.size page

theorem Pool.places_eq (p : Pool) (page : Nat) : p.places page = entryPlaces p.entries page + runPlaces p.runs page := rfl

theorem entryCovers_eq (x : Option Region) (page : Nat) : entryCovers x page = if x.any (·.has page) = true then 1 else 0 := by
  cases x with
  | none => rfl
  | some r => simp [entryCovers, covers, Region.has]

/-- Two tests that agree on all but one member of a list without repetition. -/
theorem length_filter_update {α : Type} {f g : α → Bool} {a : α} {l : List α} (hl : l.Nodup) (ha : a ∈ l)
    (h : ∀ b ∈ l, b ≠ a → f b = g b) :
    (l.filter f).length + (if g a = true then 1 else 0) = (l.filter g).length + (if f a = true then 1 else 0) := by
  obtain ⟨before, after, rfl⟩ := List.append_of_mem ha
  have apart := (List.nodup_middle.mp hl)
  have out : ∀ b ∈ before ++ after, b ≠ a := fun b hb e => (List.nodup_cons.mp apart).1 (e ▸ hb)
  have hb : before.filter f = before.filter g := List.filter_congr fun b hb =>
    h b (by simp [hb]) (out b (by simp [hb]))
  have hc : after.filter f = after.filter g := List.filter_congr fun b hb =>
    h b (by simp [hb]) (out b (by simp [hb]))
  simp only [List.filter_append, List.filter_cons, hb, hc, List.length_append]
  split_ifs <;> simp only [List.length_cons] <;> omega

/-- An entry replaced. -/
theorem entryPlaces_set (entries : Vector (Option Region) 64) (e : EntryId) (x : Option Region) (page : Nat) :
    entryPlaces (entries.set e x) page + entryCovers entries[e] page = entryPlaces entries page + entryCovers x page := by
  have others : ∀ k ∈ allEntries, k ≠ e → (entries.set e x)[k].any (·.has page) = entries[k].any (·.has page) := fun k _ hk => by
    rw [table_get_set, if_neg hk.symm]
  have update := length_filter_update allEntries_nodup (mem_allEntries e) others
  rw [table_get_set_self] at update
  rw [entryCovers_eq, entryCovers_eq]
  exact update

end

/-! ### The Free Run List in order (R31) -/

section

/-- The runs are in the order of R31, and the first begins at `lo` or after it. -/
def runsFrom (lo : Nat) : List Run → Prop
  | [] => True
  | r :: rest => lo ≤ r.first ∧ 0 < r.count ∧ runsFrom (r.first + r.count + 1) rest

theorem runsFrom_mono {lo lo' : Nat} (h : lo' ≤ lo) {runs : List Run} (hr : runsFrom lo runs) : runsFrom lo' runs := by
  cases runs with
  | nil => trivial
  | cons r rest => exact ⟨h.trans hr.1, hr.2⟩

theorem runsOk_cons_iff (r : Run) (rest : List Run) : runsOk (r :: rest) ↔ 0 < r.count ∧ runsFrom (r.first + r.count + 1) rest := by
  induction rest generalizing r with
  | nil => simp [runsOk, runsFrom]
  | cons b rest ih =>
    unfold runsOk runsFrom
    rw [ih b]
    exact and_congr_right fun _ => and_congr_left fun _ => Nat.lt_iff_add_one_le

theorem runsOk_iff (runs : List Run) : runsOk runs ↔ runsFrom 0 runs := by
  cases runs with
  | nil => exact Iff.rfl
  | cons r rest => rw [runsOk_cons_iff]; exact ⟨fun h => ⟨Nat.zero_le _, h⟩, fun h => h.2⟩

/-- R34, R45: a run that gives its low end. -/
theorem takeFrom_places {r : Run} {size : Nat} (h : size ≤ r.count) (rest : List Run) (page : Nat) :
    runPlaces (r :: rest) page = covers r.first size page + runPlaces (takeFrom r size rest) page := by
  have split : covers r.first r.count page = covers r.first size page + covers (r.first + size) (r.count - size) page := by
    rw [← covers_add, Nat.add_sub_cancel' h]
  unfold takeFrom
  rw [runPlaces_cons, split]
  split_ifs with hs
  · rw [hs, Nat.sub_self, covers_zero]; omega
  · rw [runPlaces_cons]; dsimp only; omega

theorem takeFrom_runsFrom {lo : Nat} {r : Run} {size : Nat} {rest : List Run} (h : size ≤ r.count) (hr : runsFrom lo (r :: rest)) :
    runsFrom lo (takeFrom r size rest) := by
  obtain ⟨hlo, hcount, hrest⟩ := hr
  unfold takeFrom
  split_ifs with hs
  · exact runsFrom_mono (by omega) hrest
  · exact ⟨by dsimp only; omega, by dsimp only; omega, runsFrom_mono (by dsimp only; omega) hrest⟩

/-- R34: the pages taken from the lowest run that has them. -/
theorem takeLowest_spec {size first : Nat} : ∀ {runs left : List Run} {lo : Nat}, takeLowest size runs = some (first, left) →
    runsFrom lo runs → runsFrom lo left ∧ ∀ page, runPlaces runs page = covers first size page + runPlaces left page := by
  intro runs
  induction runs with
  | nil => intro left lo h; cases h
  | cons r rest ih =>
    intro left lo h hr
    unfold takeLowest at h
    split_ifs at h with hs
    · cases h; exact ⟨takeFrom_runsFrom hs hr, takeFrom_places hs rest⟩
    · obtain ⟨⟨f, left'⟩, ht, he⟩ := Option.map_eq_some_iff.mp h
      cases he
      obtain ⟨hok, hplaces⟩ := ih ht hr.2.2
      refine ⟨⟨hr.1, hr.2.1, hok⟩, fun page => ?_⟩
      rw [runPlaces_cons, runPlaces_cons, hplaces]; dsimp only; omega

/-- R45: the pages taken from the run that begins at a page. -/
theorem takeAt_spec {size first : Nat} : ∀ {runs left : List Run} {lo : Nat}, takeAt first size runs = some left →
    runsFrom lo runs → runsFrom lo left ∧ ∀ page, runPlaces runs page = covers first size page + runPlaces left page := by
  intro runs
  induction runs with
  | nil => intro left lo h; cases h
  | cons r rest ih =>
    intro left lo h hr
    unfold takeAt at h
    split_ifs at h with hf hs
    · cases h; exact ⟨takeFrom_runsFrom hs hr, hf ▸ takeFrom_places hs rest⟩
    · obtain ⟨left', ht, he⟩ := Option.map_eq_some_iff.mp h
      cases he
      obtain ⟨hok, hplaces⟩ := ih ht hr.2.2
      refine ⟨⟨hr.1, hr.2.1, hok⟩, fun page => ?_⟩
      rw [runPlaces_cons, runPlaces_cons, hplaces]; omega

/-- R31: pages freed that lie in no free run enter the list at their place, merged with the runs that touch them. -/
theorem insertRun_spec : ∀ {runs : List Run} {r : Run} {lo : Nat}, runsFrom lo runs → lo ≤ r.first → 0 < r.count →
    (∀ page, covers r.first r.count page + runPlaces runs page ≤ 1) →
    runsFrom lo (insertRun r runs)
      ∧ ∀ page, runPlaces (insertRun r runs) page = covers r.first r.count page + runPlaces runs page := by
  intro runs
  induction runs with
  | nil => intro r lo _ hlo hcount _; exact ⟨⟨hlo, hcount, trivial⟩, runPlaces_cons r []⟩
  | cons h rest ih =>
    intro r lo hr hlo hcount hfree
    obtain ⟨hhlo, hhcount, hrest⟩ := hr
    simp only [runPlaces_cons] at hfree
    unfold insertRun
    split_ifs with before touches follows
    · exact ⟨⟨hlo, hcount, before, hhcount, hrest⟩, runPlaces_cons r (h :: rest)⟩
    · refine ⟨⟨hlo, by dsimp only; omega, runsFrom_mono (by dsimp only; omega) hrest⟩, fun page => ?_⟩
      rw [runPlaces_cons, runPlaces_cons]; dsimp only; rw [covers_add, touches]; omega
    · have joined : ∀ page, covers h.first (h.count + r.count) page = covers h.first h.count page + covers r.first r.count page :=
        fun page => by rw [covers_add, follows]
      obtain ⟨hok, hplaces⟩ := ih (r := { first := h.first, count := h.count + r.count }) (lo := lo)
        (runsFrom_mono (by omega) hrest) hhlo (by dsimp only; omega)
        (fun page => by have := hfree page; dsimp only; rw [joined]; omega)
      refine ⟨hok, fun page => ?_⟩
      rw [hplaces, runPlaces_cons]; dsimp only; rw [joined]; omega
    · have apart : h.first + h.count < r.first := by
        have := hfree (max r.first h.first)
        unfold covers at this
        by_contra hover
        rw [if_pos (by omega), if_pos (by omega)] at this
        omega
      obtain ⟨hok, hplaces⟩ := ih (r := r) hrest apart hcount (fun page => by have := hfree page; omega)
      refine ⟨⟨hhlo, hhcount, hok⟩, fun page => ?_⟩
      rw [runPlaces_cons, runPlaces_cons, hplaces]; omega

end

/-! ### The pool stays tiled (R29) -/

section
variable {p q : Pool} {e : EntryId} {r : Region}

/-- A pool whose pages have the places they had in a tiled one. -/
theorem Pool.tiled_of_places (h : p.tiled) (hp : ∀ page, q.places page = p.places page) (hr : runsFrom 0 q.runs) : q.tiled :=
  ⟨fun page hpage => (hp page).trans (h.1 page hpage), fun page hpage => (hp page).trans (h.2.1 page hpage),
    (runsOk_iff _).mpr hr⟩

/-- Only the Region Table and the Free Run List matter. -/
theorem Pool.tiled_of_same (h : p.tiled) (he : q.entries = p.entries) (hr : q.runs = p.runs) : q.tiled := by
  refine Pool.tiled_of_places h (fun page => ?_) (hr ▸ (runsOk_iff _).mp h.2.2)
  rw [Pool.places_eq, Pool.places_eq, he, hr]

theorem Pool.tiled.runsFrom (h : p.tiled) : runsFrom 0 p.runs := (runsOk_iff _).mp h.2.2

theorem Pool.tiled.places_le (h : p.tiled) (page : Nat) : p.places page ≤ 1 := by
  by_cases hpage : page < 4096
  · exact (h.1 page hpage).le
  · exact (h.2.1 page (by omega)).le.trans (Nat.zero_le _)

/-- R31, R36: an entry gives up some of its pages, which are freed. -/
theorem Pool.tiled_free (h : p.tiled) (x : Option Region) (first count : Nat) (he : q.entries = p.entries.set e x)
    (hr : q.runs = p.runs) (hpages : ∀ page, entryCovers x page + covers first count page = entryCovers p.entries[e] page) :
    (q.free first count).tiled := by
  have places : ∀ page, q.places page + covers first count page = p.places page := fun page => by
    have := entryPlaces_set p.entries e x page
    have := hpages page
    rw [Pool.places_eq, Pool.places_eq, he, hr]; omega
  unfold Pool.free
  split_ifs with hc
  · exact Pool.tiled_of_places h (fun page => by rw [← places, hc, covers_zero, Nat.add_zero]) (hr ▸ h.runsFrom)
  · obtain ⟨hok, hplaces⟩ := insertRun_spec (r := { first := first, count := count }) (hr ▸ h.runsFrom : runsFrom 0 q.runs)
      (Nat.zero_le _) (Nat.pos_of_ne_zero hc) (fun page => by
        have := h.places_le page
        have := places page
        rw [Pool.places_eq] at this
        dsimp only; omega)
    refine Pool.tiled_of_places h (fun page => ?_) hok
    have := places page
    rw [Pool.places_eq] at this ⊢
    dsimp only
    rw [hplaces]; dsimp only; omega

/-- An entry that keeps its pages. -/
theorem Pool.tiled_set (h : p.tiled) (x : Option Region) (he : q.entries = p.entries.set e x) (hr : q.runs = p.runs)
    (hpages : ∀ page, entryCovers x page = entryCovers p.entries[e] page) : q.tiled :=
  Pool.tiled_free h x 0 0 he hr fun page => by rw [covers_zero, hpages, Nat.add_zero]

/-- An entry that keeps its first page and its size. -/
theorem Pool.tiled_set_region (h : p.tiled) (hp : p.entries[e] = some r) {r' : Region} (he : q.entries = p.entries.set e (some r'))
    (hr : q.runs = p.runs) (hfirst : r'.first = r.first) (hsize : r'.size = r.size) : q.tiled :=
  Pool.tiled_set h _ he hr fun page => by rw [hp]; simp only [entryCovers, Option.elim_some, hfirst, hsize]

/-- R34, R45: an entry takes pages of the free runs. -/
theorem Pool.tiled_take (h : p.tiled) {x : Option Region} {first count : Nat} {runs : List Run} (he : q.entries = p.entries.set e x)
    (hr : q.runs = runs) (hok : Machine.runsFrom 0 runs)
    (htaken : ∀ page, runPlaces p.runs page = covers first count page + runPlaces runs page)
    (hpages : ∀ page, entryCovers x page = entryCovers p.entries[e] page + covers first count page) : q.tiled := by
  refine Pool.tiled_of_places h (fun page => ?_) (hr ▸ hok)
  have := entryPlaces_set p.entries e x page
  have := htaken page
  have := hpages page
  rw [Pool.places_eq, Pool.places_eq, he, hr]; omega

@[simp] theorem Pool.cancelHead_runs (p : Pool) : p.cancelHead.runs = p.runs := by unfold Pool.cancelHead; split <;> rfl

@[simp] theorem Pool.startJob_entries (p : Pool) : p.startJob.entries = p.entries := by unfold Pool.startJob; split <;> rfl

@[simp] theorem Pool.startJob_runs (p : Pool) : p.startJob.runs = p.runs := by unfold Pool.startJob; split <;> rfl

theorem Pool.place_spec {size : Nat} {n : SlotId} {l : LineId} (hq : p.place size n l = .ok (q, e)) :
    ∃ first runs, takeLowest size p.runs = some (first, runs) ∧ p.entries[e] = none
      ∧ q = { p with runs := runs }.setEntry e
          (some { state := .zeroing, first := first, count := size, ext := none, owner := some (n, l) }) := by
  unfold Pool.place at hq
  split at hq
  · cases hq
  · rename_i first runs htake
    split at hq
    · cases hq
    · rename_i k hfind
      cases hq
      exact ⟨first, runs, htake, by simpa using List.find?_some hfind, rfl⟩

theorem Pool.tiled_place {size : Nat} {n : SlotId} {l : LineId} (h : p.tiled) (hq : p.place size n l = .ok (q, e)) : q.tiled := by
  obtain ⟨first, runs, htake, hnone, rfl⟩ := Pool.place_spec hq
  obtain ⟨hok, hplaces⟩ := takeLowest_spec htake h.runsFrom
  exact Pool.tiled_take h rfl rfl hok hplaces fun page => by
    rw [hnone]; simp [entryCovers, Region.size]

/-- R45: a growth in place, step by step. -/
theorem Pool.extend_spec {target : Nat} (hq : p.extend e target = some q) :
    ∃ r runs, p.entries[e] = some r ∧ r.state = .live ∧ r.ext = none ∧ r.count < target
      ∧ takeAt (r.first + r.count) (target - r.count) p.runs = some runs
      ∧ q = ({ p with runs := runs }.setEntry e (some { r with ext := some (target - r.count) })).addJob .extension e := by
  unfold Pool.extend at hq
  split at hq
  · rename_i r hr
    split_ifs at hq with hlive
    obtain ⟨hstate, hext, hcount⟩ := hlive
    split at hq
    · rename_i runs htake
      exact ⟨r, runs, hr, hstate, hext, hcount, htake, (Option.some.inj hq).symm⟩
    · cases hq
  · cases hq

theorem Pool.tiled_extend {target : Nat} (h : p.tiled) (hq : p.extend e target = some q) : q.tiled := by
  obtain ⟨r, runs, hr, -, hext, -, htake, rfl⟩ := Pool.extend_spec hq
  obtain ⟨hok, hplaces⟩ := takeAt_spec htake h.runsFrom
  exact Pool.tiled_take h rfl rfl hok hplaces fun page => by
    rw [hr]
    simp only [entryCovers, Option.elim_some, Region.size, hext, Option.getD_some, Option.getD_none, Nat.add_zero]
    exact covers_add _ _ _ page

/-- R36: a region's pages, with its pending extension, go back as one run. -/
theorem Pool.tiled_release (h : p.tiled) (hr : p.entries[e] = some r) (he : q.entries = p.entries) (hruns : q.runs = p.runs) :
    (q.release e r).tiled :=
  Pool.tiled_free h none r.first r.size (by rw [← he]; rfl) hruns fun page => by
    rw [hr]; simp [entryCovers]

theorem Pool.tiled_cancelHead (h : p.tiled) : p.cancelHead.tiled := Pool.tiled_of_same h p.cancelHead_entries p.cancelHead_runs

theorem Pool.tiled_startJob (h : p.tiled) : p.startJob.tiled := Pool.tiled_of_same h p.startJob_entries p.startJob_runs

theorem Pool.tiled_giveBack (h : p.tiled) (e : EntryId) : (p.giveBack e).tiled := by
  have hc := Pool.tiled_cancelHead h
  unfold Pool.giveBack
  split
  · exact h
  · rename_i r hr
    have hrc : p.cancelHead.entries[e] = some r := by rw [Pool.cancelHead_entries]; exact hr
    split
    · exact h
    · split_ifs
      · exact Pool.tiled_set_region hc hrc rfl rfl rfl rfl
      · exact Pool.tiled_release h hr rfl rfl
    · split
      · exact Pool.tiled_release h hr rfl rfl
      · rename_i x hx
        split_ifs
        · refine Pool.tiled_free hc _ _ _ rfl rfl fun page => ?_
          rw [hrc]
          simp only [entryCovers, Option.elim_some, Region.size, hx, Option.getD_some, Option.getD_none, Nat.add_zero]
          rw [covers_add r.first, Nat.add_comm]
        · exact Pool.tiled_release h hr rfl rfl
    · exact Pool.tiled_release h hr rfl rfl

theorem Pool.tiled_retire (h : p.tiled) (e : EntryId) : (p.retire e).tiled := by
  unfold Pool.retire; split
  · rename_i r hr; exact Pool.tiled_set_region h hr rfl rfl rfl rfl
  · exact h

theorem Pool.tiled_rezero (h : p.tiled) (e : EntryId) : (p.rezero e).tiled := by
  unfold Pool.rezero; split
  · rename_i r hr
    split
    · dsimp only; split_ifs
      · have hrc : p.cancelHead.entries[e] = some r := by rw [Pool.cancelHead_entries]; exact hr
        exact Pool.tiled_set_region (Pool.tiled_cancelHead h) hrc rfl rfl rfl rfl
      · exact Pool.tiled_set_region h hr rfl rfl rfl rfl
    · exact h
  · exact h

theorem Pool.tiled_regionJobDone (h : p.tiled) : p.regionJobDone.tiled := by
  unfold Pool.regionJobDone; split
  · split
    · rename_i r hr
      split_ifs
      · exact Pool.tiled_startJob (Pool.tiled_set_region h hr rfl rfl rfl rfl)
      · exact h
    · exact h
  · exact h

theorem Pool.tiled_extensionDone {o : Option (SlotId × LineId)} (h : p.tiled) (hq : p.extensionDone = some (q, o)) : q.tiled := by
  unfold Pool.extensionDone at hq
  split at hq
  · split at hq
    · rename_i r hr
      split_ifs at hq
      cases hq
      exact Pool.tiled_startJob (Pool.tiled_set_region h hr rfl rfl rfl rfl)
    · cases hq
  · cases hq

theorem Pool.tiled_cancelledPageEnd (h : p.tiled) : p.cancelledPageEnd.tiled := by
  unfold Pool.cancelledPageEnd; split
  · dsimp only; split
    · split_ifs
      · exact Pool.tiled_startJob (Pool.tiled_release h (by assumption) rfl rfl)
      · exact Pool.tiled_startJob (Pool.tiled_of_same h rfl rfl)
    · exact Pool.tiled_startJob (Pool.tiled_of_same h rfl rfl)
  · exact h

/-- R29: after a reset every page lies in the one free run. -/
theorem Pool.tiled_reset (m : Memory) : (Pool.reset m).tiled := by
  have places : ∀ page, (Pool.reset m).places page = covers 0 4096 page := fun page => by
    have free : entryPlaces (Pool.reset m).entries page = 0 := by
      simp [entryPlaces, Pool.reset]
    rw [Pool.places_eq, free, Nat.zero_add]
    exact runPlaces_cons _ _ _
  refine ⟨fun page hpage => ?_, fun page hpage => ?_, Nat.succ_pos _⟩
  · rw [places]; exact if_pos (by omega)
  · rw [places]; exact if_neg (by omega)

end

/-- A page zeroed or written leaves the tables. -/
theorem Pool.pageTick_tables (p : Pool) : p.pageTick.entries = p.entries ∧ p.pageTick.runs = p.runs := by
  unfold Pool.pageTick; split
  · split_ifs <;> exact ⟨rfl, rfl⟩
  · exact ⟨rfl, rfl⟩

theorem Pool.writeRegion_tables (p : Pool) (e : EntryId) (stamp : Nat) :
    (p.writeRegion e stamp).entries = p.entries ∧ (p.writeRegion e stamp).runs = p.runs := by
  unfold Pool.writeRegion; split
  · split_ifs <;> exact ⟨rfl, rfl⟩
  · exact ⟨rfl, rfl⟩

/-- R29, R31: every operation of the Delay Memory Manager and the Clear Engine keeps the pool tiled. -/
theorem PoolClosed.tiled : PoolClosed Pool.tiled where
  place := Pool.tiled_place
  extend := Pool.tiled_extend
  addJob _ _ h := Pool.tiled_of_same h rfl rfl
  giveBack e h := Pool.tiled_giveBack h e
  retire e h := Pool.tiled_retire h e
  rezero e h := Pool.tiled_rezero h e
  startJob := Pool.tiled_startJob
  pageTick {p} h := Pool.tiled_of_same h p.pageTick_tables.1 p.pageTick_tables.2
  regionJobDone := Pool.tiled_regionJobDone
  extensionDone := Pool.tiled_extensionDone
  cancelledPageEnd := Pool.tiled_cancelledPageEnd
  writeRegion {p} e stamp h := Pool.tiled_of_same h (p.writeRegion_tables e stamp).1 (p.writeRegion_tables e stamp).2
  takeReports _ h := Pool.tiled_of_same h rfl rfl
  sweepPage _ h := Pool.tiled_of_same h rfl rfl
  sweep h := Pool.tiled_of_same h rfl rfl
  reset _ := Pool.tiled_reset _

/-! ### The page contents stay canonical (log 12) -/

/-- The contents of the pages are in canonical form. -/
def Pool.canonical (p : Pool) : Prop := p.written.wf = true

section
variable {p q : Pool} {e : EntryId}

theorem Pool.canonical_of_written (h : p.canonical) (hq : q.written = p.written) : q.canonical := by
  unfold Pool.canonical; rw [hq]; exact h

/-- What a job's end zeroes keeps the form. -/
theorem Pool.canonical_of_zeroed (h : p.canonical) {first count : Nat} (hq : q.written = p.written.zeroPages first count) :
    q.canonical := by
  unfold Pool.canonical; rw [hq]; exact Memory.wf_zeroPages h _ _

@[simp] theorem Pool.startJob_written (p : Pool) : p.startJob.written = p.written := by unfold Pool.startJob; split <;> rfl

@[simp] theorem Pool.free_written (p : Pool) (first count : Nat) : (p.free first count).written = p.written := by
  unfold Pool.free; split_ifs <;> rfl

@[simp] theorem Pool.cancelHead_written (p : Pool) : p.cancelHead.written = p.written := by unfold Pool.cancelHead; split <;> rfl

@[simp] theorem Pool.release_written (p : Pool) (e : EntryId) (r : Region) : (p.release e r).written = p.written :=
  Pool.free_written _ _ _

/-- R37: giving back writes no page. -/
theorem Pool.giveBack_written (p : Pool) (e : EntryId) : (p.giveBack e).written = p.written := by
  unfold Pool.giveBack; split
  · rfl
  · split
    · rfl
    · split_ifs <;> simp [Pool.setEntry, Pool.removeJob]
    · split
      · simp
      · split_ifs <;> simp [Pool.setEntry, Pool.removeJob]
    · simp

theorem Pool.retire_written (p : Pool) (e : EntryId) : (p.retire e).written = p.written := by
  unfold Pool.retire; split <;> rfl

theorem Pool.rezero_written (p : Pool) (e : EntryId) : (p.rezero e).written = p.written := by
  unfold Pool.rezero; split
  · split
    · dsimp only; split_ifs <;> simp [Pool.setEntry, Pool.removeJob, Pool.addJob]
    · rfl
  · rfl

theorem Pool.canonical_pageTick (h : p.canonical) : p.pageTick.canonical := by
  unfold Pool.pageTick; split
  · split_ifs
    · exact Pool.canonical_of_zeroed h rfl
    · exact h
  · exact h

theorem Pool.canonical_regionJobDone (h : p.canonical) : p.regionJobDone.canonical := by
  unfold Pool.regionJobDone; split
  · split
    · split_ifs
      · exact Pool.canonical_of_zeroed h (Pool.startJob_written _)
      · exact h
    · exact h
  · exact h

theorem Pool.canonical_extensionDone {o : Option (SlotId × LineId)} (h : p.canonical) (hq : p.extensionDone = some (q, o)) :
    q.canonical := by
  unfold Pool.extensionDone at hq
  split at hq
  · split at hq
    · split_ifs at hq
      cases hq
      exact Pool.canonical_of_zeroed h (Pool.startJob_written _)
    · cases hq
  · cases hq

theorem Pool.canonical_cancelledPageEnd (h : p.canonical) : p.cancelledPageEnd.canonical := by
  unfold Pool.cancelledPageEnd; split
  · dsimp only; split
    · split_ifs
      · exact Pool.canonical_of_zeroed h ((Pool.startJob_written _).trans (Pool.release_written _ _ _))
      · exact Pool.canonical_of_zeroed h (Pool.startJob_written _)
    · exact Pool.canonical_of_zeroed h (Pool.startJob_written _)
  · exact h

theorem Pool.canonical_writeRegion (h : p.canonical) (e : EntryId) (stamp : Nat) : (p.writeRegion e stamp).canonical := by
  unfold Pool.writeRegion; split
  · split_ifs
    · exact Memory.wf_writePages h _ _ _
    · exact h
  · exact h

end

/-- Log 12: every operation of the Delay Memory Manager and the Clear Engine keeps the canonical form. -/
theorem PoolClosed.canonical : PoolClosed Pool.canonical where
  place h hq := by
    obtain ⟨_, _, _, _, rfl⟩ := Pool.place_spec hq
    exact h
  extend h hq := by
    obtain ⟨_, _, _, _, _, _, _, rfl⟩ := Pool.extend_spec hq
    exact h
  addJob _ _ h := h
  giveBack {p} e h := Pool.canonical_of_written h (p.giveBack_written e)
  retire {p} e h := Pool.canonical_of_written h (p.retire_written e)
  rezero {p} e h := Pool.canonical_of_written h (p.rezero_written e)
  startJob {p} h := Pool.canonical_of_written h p.startJob_written
  pageTick := Pool.canonical_pageTick
  regionJobDone := Pool.canonical_regionJobDone
  extensionDone := Pool.canonical_extensionDone
  cancelledPageEnd := Pool.canonical_cancelledPageEnd
  writeRegion e stamp h := Pool.canonical_writeRegion h e stamp
  takeReports _ h := h
  sweepPage _ h := Memory.wf_zeroPages h _ _
  sweep _ := Memory.wf_nil
  reset h := h

/-- Settles O54: both properties are kept by every operation of the pool, and so by every step. -/
theorem stepKeepsPool : Obligations.StepKeepsPool := fun _ _ hstep =>
  ⟨fun h => step_keeps_pool .tiled h hstep, fun h => step_keeps_pool .canonical h hstep⟩

end Sys2Proof.Machine

namespace Sys2Proof.Machine

/-! ### The reports (R53, R93, R122) -/

/-- R93: the tempo report is 18 bytes long. -/
theorem TempoUnit.report_length (u : TempoUnit) : u.report.length = 18 := rfl

/-- R122: a scene number or its absence takes one byte, the whole record nine. -/
theorem RecallRecord.report_length (r : RecallRecord) : r.report.length = 9 := by
  have scene : ∀ k : Option SceneId, (k.elim [0xFF] fun k => byte1 k.val).length = 1 := fun k => by cases k <;> rfl
  simp only [RecallRecord.report, List.length_append, scene]
  rfl

/-- Settles O13: each of the three decisions answers its report; READ RECALL clears last aborted. -/
theorem reportsAreRead : Obligations.ReportsAreRead := fun _ t _ _ =>
  ⟨fun htake => taken_ownCommand htake rfl,
    fun htake => ⟨taken_ownCommand htake rfl, t.tempo.report_length⟩,
    fun htake => ⟨taken_ownCommand htake rfl, t.recallRecord.report_length⟩⟩

/-! ### Entries to STARTING (R161, R177) -/

/-- R161: a RESTART taken with an empty body enters STARTING and puts no result. -/
theorem execRestart_of_taken {s t : State} {p : Port} {tag : Byte} (h : s.takeCommand p (ownCommand tag 0x62 []) = some t) :
    execRestart p tag [] s = .next (t.enterStarting .pin t.scenes) := by
  unfold execRestart; rw [h]; rfl

/-- R176: only a POWER start that has not ended stays one. -/
theorem State.pinKind_of_power {s : State} (hp : s.power = .starting) (hk : s.startKind = .power) : s.pinKind = .power :=
  if_pos ⟨hp, hk⟩

theorem State.pinKind_of_not_power {s : State} (h : s.power ≠ .starting ∨ s.startKind = .pin) : s.pinKind = .pin :=
  if_neg fun ⟨hp, hk⟩ => h.elim (fun hn => hn hp) fun hpin => by rw [hpin] at hk; cases hk

/-- Settles O49: RESTART, power-on reset and RESET low all enter STARTING, with their start kind and records. -/
theorem entriesToStarting : Obligations.EntriesToStarting := by
  refine fun s => ⟨fun t p tag htake => execRestart_of_taken htake, rfl, fun hp hk => ?_, fun h => ?_⟩
  · exact congrArg (fun k => Host.Outcome.next (s.enterStarting k s.scenes)) (State.pinKind_of_power hp hk)
  · exact congrArg (fun k => Host.Outcome.next (s.enterStarting k s.scenes)) (State.pinKind_of_not_power h)

end Sys2Proof.Machine

namespace Sys2Proof.Machine

/-! ### The clamped flag (R50) -/

section
variable {s w u : State} {n : SlotId} {l : LineId} {ln : Line} {a : Alg}

/-- R44: a line's need, by the slot's algorithm. -/
theorem State.need_eq (h : s.slots[n].algorithm = some a) (k : LineId) :
    s.need n k = requiredPages s.rate a s.slots[n].shadow k := by
  unfold State.need; rw [h]

/-- R50: a line is short when it needs more than the region it is heard from. -/
theorem State.lineShort_iff (k : LineId) : s.lineShort n k = true ↔
    ∃ x, s.slots[n].lines[k.val]? = some x ∧ s.pool.countOf (s.pool.heardFrom x) < s.need n k := by
  unfold State.lineShort
  split
  · rename_i x hx
    simp only [hx, decide_eq_true_eq, Option.some.injEq, exists_eq_left']
  · rename_i hx
    simp only [hx, Bool.false_eq_true, reduceCtorEq, false_and, exists_false]

theorem State.updateClamped_lines (s : State) (n : SlotId) : (s.updateClamped n).slots[n].lines = s.slots[n].lines := by
  rw [State.updateClamped, State.setSlot_slots, table_get_set_self]

/-- R50: the clamped flag says whether some line of the slot is short. -/
theorem State.updateClamped_clamped (s : State) (n : SlotId) : (s.updateClamped n).slots[n].clamped = true ↔
    ∃ (k : LineId) (x : Line), s.slots[n].lines[k.val]? = some x ∧ s.pool.countOf (s.pool.heardFrom x) < s.need n k := by
  have flag : (s.updateClamped n).slots[n].clamped = allLines.any (s.lineShort n) :=
    congrArg Slot.clamped (table_get_set_self s.slots n _)
  rw [flag, List.any_eq_true]
  constructor
  · rintro ⟨k, -, hk⟩; exact ⟨k, s.lineShort_iff k |>.mp hk⟩
  · rintro ⟨k, hk⟩; exact ⟨k, mem_allLines k, s.lineShort_iff k |>.mpr hk⟩

/-- R50: what the clamped flag says of `w`, in the needs of slot `n` of `s`. -/
def State.clampedSays (s w : State) (n : SlotId) (a : Alg) : Prop :=
  w.slots[n].clamped = true ↔ ∃ (k : LineId) (x : Line), w.slots[n].lines[k.val]? = some x
    ∧ w.pool.countOf (w.pool.heardFrom x) < requiredPages s.rate a s.slots[n].shadow k

/-- R50: the flag evaluated after a change of the slot's lines and of the pool alone. -/
theorem State.clampedSays_of_slotCore (ha : s.slots[n].algorithm = some a) (hc : w.slotCore n = s.slotCore n) (hr : w.rate = s.rate) :
    s.clampedSays (w.updateClamped n) n a := by
  have slot := State.slotCore_slot hc
  have alg : w.slots[n].algorithm = some a := by rw [slot]; exact ha
  have shadow : w.slots[n].shadow = s.slots[n].shadow := by rw [slot]
  unfold State.clampedSays
  rw [w.updateClamped_clamped, w.updateClamped_lines, State.updateClamped_pool]
  simp only [State.need_eq alg, shadow, hr]

/-! ### What an evaluation changes of the slot alone -/

/-- The slot's lines and clamped flag alone differ. -/
def State.linesOnly (s w : State) (n : SlotId) : Prop :=
  w.slots[n] = { s.slots[n] with lines := w.slots[n].lines, clamped := w.slots[n].clamped }
    ∧ w.sameSlotsBut s n ∧ w.surroundings = s.surroundings

theorem State.evalNeed_linesOnly (h : ¬ s.replacementFails n l) : s.linesOnly (s.evalNeed n l) n :=
  ⟨State.slotCore_slot (s.evalNeed_of_not_replacementFails n l h),
    State.sameSlotsBut_of_slotView fun _ hm => s.evalNeed_slotView l hm, s.evalNeed_surroundings n l⟩

/-- R49: the end of a growth never empties the slot: a growth that fails leaves the line. -/
theorem State.growthEnd_slotCore (s : State) (n : SlotId) (l : LineId) : (s.growthEnd n l).slotCore n = s.slotCore n := by
  unfold State.growthEnd; split
  · dsimp only; split
    · split_ifs
      · rw [State.updateClamped_slotCore, State.startGrowth_slotCore, State.setLine_slotCore]
      · rw [State.updateClamped_slotCore, State.setLine_slotCore]
    · rw [State.updateClamped_slotCore, State.setLine_slotCore]
  · rfl

theorem State.growthEnd_linesOnly (s : State) (n : SlotId) (l : LineId) : s.linesOnly (s.growthEnd n l) n :=
  ⟨State.slotCore_slot (s.growthEnd_slotCore n l), State.sameSlotsBut_of_slotView fun _ hm => s.growthEnd_slotView l hm,
    s.growthEnd_surroundings n l⟩

/-! ### A line written -/

theorem State.setLine_lines (s : State) (n : SlotId) (l : LineId) (v : Line) :
    (s.setLine n l v).slots[n].lines = s.slots[n].lines.set l.val v := by
  rw [State.setLine_slots, table_get_set_self]

theorem set_of_getElem? {α : Type} {xs : List α} {i : Nat} {x : α} (h : xs[i]? = some x) : xs.set i x = xs := by
  obtain ⟨hi, rfl⟩ := List.getElem?_eq_some_iff.mp h
  exact List.set_getElem_self hi

theorem State.setLine_line (hl : s.slots[n].lines[l.val]? = some ln) (v : Line) :
    (s.setLine n l v).slots[n].lines[l.val]? = some v := by
  obtain ⟨hi, _⟩ := List.getElem?_eq_some_iff.mp hl
  rw [State.setLine_lines, List.getElem?_set_self hi]

theorem State.setLine_algorithm (s : State) (n : SlotId) (l : LineId) (v : Line) :
    (s.setLine n l v).slots[n].algorithm = s.slots[n].algorithm := by
  rw [State.setLine_slots, table_get_set_self]

/-! ### Growth and replacement (R45, R46, R51, R52) -/

/-- R45, R46, R51: the three ways a growth can go. -/
theorem State.startGrowth_grownTo (hl : s.slots[n].lines[l.val]? = some ln) (ha : s.slots[n].algorithm = some a) (k : Nat) :
    s.grownTo (s.startGrowth n l k) n l ln (allocationSize a k) := by
  unfold State.startGrowth
  rw [hl, ha]; dsimp only
  refine ⟨fun q hq => ?_, fun hnone => ⟨fun q e hplace => ?_, fun f hplace => ?_⟩⟩
  · rw [hq]; exact ⟨rfl, State.setLine_lines _ n l _⟩
  · rw [hnone, hplace]; exact ⟨rfl, State.setLine_lines _ n l _⟩
  · rw [hnone, hplace]
    exact ⟨rfl, State.flagged_of_ports rfl rfl (State.flagged_raiseBoth s .poolShort), State.setLine_lines _ n l _⟩

/-- A growth is told from the pool, the lines and the flags after it. -/
theorem State.grownTo_updateClamped {target : Nat} (h : s.grownTo u n l ln target) : s.grownTo (u.updateClamped n) n l ln target := by
  obtain ⟨hin, hout⟩ := h
  have lines := u.updateClamped_lines n
  refine ⟨fun q hq => ?_, fun hnone => ⟨fun q e hplace => ?_, fun f hplace => ?_⟩⟩
  · rw [lines]; exact hin q hq
  · rw [lines]; exact (hout hnone).1 q e hplace
  · obtain ⟨hpool, hflag, hlines⟩ := (hout hnone).2 f hplace
    rw [lines]; exact ⟨hpool, State.flagged_of_ports rfl rfl hflag, hlines⟩

/-- A growth of a line just written is one of the line before. -/
theorem State.grownTo_of_setLine {target : Nat} (v : Line) (h : (s.setLine n l v).grownTo u n l ln target) :
    s.grownTo u n l ln target := by
  unfold State.grownTo at h ⊢
  rw [State.setLine_lines] at h
  simpa only [List.set_set, State.setLine_pool] using h

/-- R52: the region of a line replaced. -/
theorem State.replaceRegion_placed (hl : s.slots[n].lines[l.val]? = some ln) (ha : s.slots[n].algorithm = some a) {k : Nat} {q : Pool}
    {e : EntryId} (h : (s.pool.giveBack ln.current).place (allocationSize a k) n l = .ok (q, e)) :
    s.replaceRegion n l k = (s.setPool (q.addJob .region e)).setLine n l
      { current := e, retiring := none, growth := .steady, deferred := none } := by
  unfold State.replaceRegion; rw [hl, ha]; dsimp only; rw [h]

/-! ### The outcome of an evaluation (R44) -/

/-- R44: the pages a line has been promised. -/
theorem Pool.promise_eq (p : Pool) (ln : Line) :
    p.promise ln = if ln.growth = .extending then p.sizeOf ln.current else p.countOf ln.current := by
  unfold Pool.promise; cases ln.growth <;> rfl

/-- R44: an EMPTY or FADING slot has nothing to evaluate. -/
theorem State.evalNeed_of_idle (h : s.slots[n].state = .empty ∨ s.slots[n].state = .fading) : s.evalNeed n l = s := by
  unfold State.evalNeed; refine if_neg ?_
  rcases h with h | h <;> rw [h] <;> decide

/-- R44: the evaluation of a line of any other slot. -/
theorem State.evalNeed_eq (hl : s.slots[n].lines[l.val]? = some ln)
    (hs : (s.slots[n].state = .running ∨ s.slots[n].state = .muted) ∨ s.slots[n].state = .preparing) :
    s.evalNeed n l = (if s.pool.promise ln < s.need n l then s.needAbove n l ln (s.need n l) else s).updateClamped n := by
  unfold State.evalNeed
  rw [if_pos (or_assoc.mp hs), hl]; dsimp only
  split_ifs <;> rfl

/-- A line with a growth in progress, and a slot that is not PREPARING, have no replacement to fail. -/
theorem State.not_replacementFails_of_growth (hl : s.slots[n].lines[l.val]? = some ln) (hg : ln.growth ≠ .steady) :
    ¬ s.replacementFails n l := by
  rintro ⟨x, _, _, _, hx, _, hsteady, _⟩
  obtain rfl : ln = x := Option.some.inj (hl.symm.trans hx)
  exact hg hsteady

theorem State.not_replacementFails_of_state (h : s.slots[n].state ≠ .preparing) : ¬ s.replacementFails n l := by
  rintro ⟨_, _, _, hstate, _⟩
  exact h hstate

theorem State.not_replacementFails_of_promise (hl : s.slots[n].lines[l.val]? = some ln) (ha : s.slots[n].algorithm = some a)
    (h : requiredPages s.rate a s.slots[n].shadow l ≤ s.pool.promise ln) : ¬ s.replacementFails n l := by
  rintro ⟨x, b, _, _, hx, hb, hsteady, hneed, _⟩
  obtain rfl : ln = x := Option.some.inj (hl.symm.trans hx)
  obtain rfl : a = b := Option.some.inj (ha.symm.trans hb)
  rw [Pool.promise_eq, hsteady, if_neg nofun] at h
  omega

theorem State.not_replacementFails_of_placed (hl : s.slots[n].lines[l.val]? = some ln) (ha : s.slots[n].algorithm = some a)
    {q : Pool × EntryId}
    (h : (s.pool.giveBack ln.current).place (allocationSize a (requiredPages s.rate a s.slots[n].shadow l)) n l = .ok q) :
    ¬ s.replacementFails n l := by
  rintro ⟨x, b, f, _, hx, hb, _, _, hplace⟩
  obtain rfl : ln = x := Option.some.inj (hl.symm.trans hx)
  obtain rfl : a = b := Option.some.inj (ha.symm.trans hb)
  rw [h] at hplace; cases hplace

/-- R44: a need above the promise of a growing line becomes the deferred requirement if it is the larger. -/
theorem State.needAbove_growing (hl : s.slots[n].lines[l.val]? = some ln) (hg : ln.growth ≠ .steady) (k : Nat) :
    (s.needAbove n l ln k).pool = s.pool ∧ (s.needAbove n l ln k).slots[n].lines
      = s.slots[n].lines.set l.val { ln with deferred := some (max k (ln.deferred.getD 0)) } := by
  unfold State.needAbove; rw [if_neg hg]
  cases hd : ln.deferred with
  | none =>
    refine ⟨rfl, ?_⟩
    rw [if_pos (by rfl), State.setLine_lines, Option.getD_none, max_eq_left (Nat.zero_le k)]
  | some d =>
    by_cases hlt : d < k
    · rw [if_pos (by exact decide_eq_true hlt)]
      refine ⟨rfl, ?_⟩
      rw [State.setLine_lines, Option.getD_some, max_eq_left hlt.le]
    · rw [if_neg (by simpa using hlt)]
      have same : ({ ln with deferred := some (max k d) } : Line) = ln := by
        rw [max_eq_right (not_lt.mp hlt), ← hd]
      refine ⟨rfl, ?_⟩
      rw [Option.getD_some, same, set_of_getElem? hl]

/-! ### Growth in place (R45) -/

/-- The runs in order begin at `lo` or after it. -/
theorem runsFrom_first_le {lo : Nat} {runs : List Run} (h : runsFrom lo runs) {x : Run} (hx : x ∈ runs) : lo ≤ x.first := by
  induction runs generalizing lo with
  | nil => cases hx
  | cons r rest ih =>
    rcases List.mem_cons.mp hx with rfl | hx
    · exact h.1
    · exact le_trans (le_trans h.1 (by omega)) (ih h.2.2 hx)

/-- R45: a page can be taken just where a run begins at it and has the pages. -/
theorem takeAt_isSome {page size : Nat} : ∀ {runs : List Run} {lo : Nat}, runsFrom lo runs →
    ((takeAt page size runs).isSome = true ↔ ∃ x ∈ runs, x.first = page ∧ size ≤ x.count) := by
  intro runs
  induction runs with
  | nil => intro lo _; simp [takeAt]
  | cons r rest ih =>
    intro lo h
    unfold takeAt
    by_cases hf : r.first = page
    · have later : ∀ x ∈ rest, x.first ≠ page := fun x hx => by
        have := runsFrom_first_le h.2.2 hx
        omega
      rw [if_pos hf]
      constructor
      · intro hsome
        split_ifs at hsome with hsize
        · exact ⟨r, List.mem_cons_self, hf, hsize⟩
        · cases hsome
      · rintro ⟨x, hx, hxf, hsize⟩
        rcases List.mem_cons.mp hx with rfl | hx
        · rw [if_pos hsize]; rfl
        · exact absurd hxf (later x hx)
    · rw [if_neg hf, Option.isSome_map, ih h.2.2]
      constructor
      · rintro ⟨x, hx, hxf⟩; exact ⟨x, List.mem_cons_of_mem r hx, hxf⟩
      · rintro ⟨x, hx, hxf, hsize⟩
        rcases List.mem_cons.mp hx with rfl | hx
        · exact absurd hxf hf
        · exact ⟨x, hx, hxf, hsize⟩

/-- R45: growth in place of a LIVE region without a pending extension. -/
theorem Pool.extend_isSome {p : Pool} {e : EntryId} {r : Region} {target : Nat} (hr : p.entries[e] = some r) (hlive : r.state = .live)
    (hext : r.ext = none) (hcount : r.count < target) :
    (p.extend e target).isSome = (takeAt (r.first + r.count) (target - r.count) p.runs).isSome := by
  unfold Pool.extend
  rw [hr]; dsimp only
  rw [if_pos ⟨hlive, hext, hcount⟩]
  cases takeAt (r.first + r.count) (target - r.count) p.runs <;> rfl

/-! ### The end of a growth (R49) -/

/-- A line whose growth has ended. -/
def Line.settled (ln : Line) : Line := { ln with growth := .steady, deferred := none }

/-- R49: the end of a growth acts on a deferred requirement above the page count, except in a FADING slot. -/
theorem State.growthEnd_acts (hl : s.slots[n].lines[l.val]? = some ln) {d : Nat} (hd : ln.deferred = some d)
    (hs : s.slots[n].state ≠ .fading) (hc : s.pool.countOf ln.current < d) :
    s.growthEnd n l = ((s.setLine n l ln.settled).startGrowth n l d).updateClamped n := by
  unfold State.growthEnd; rw [hl]; dsimp only; rw [hd]
  exact if_pos ⟨hs, hc⟩

/-- R49: otherwise nothing but the line's growth changes. -/
theorem State.growthEnd_rests (hl : s.slots[n].lines[l.val]? = some ln)
    (h : s.slots[n].state = .fading ∨ ln.deferred.getD 0 ≤ s.pool.countOf ln.current) :
    s.growthEnd n l = (s.setLine n l ln.settled).updateClamped n := by
  unfold State.growthEnd; rw [hl]; dsimp only
  split
  · rename_i d hd
    rw [hd] at h
    exact if_neg fun ⟨hs, hc⟩ => h.elim hs fun hle => absurd hc (not_lt.mpr hle)
  · rfl

/-- R50: each time, the clamped flag is evaluated last. -/
theorem State.growthEnd_clampedSays (hl : s.slots[n].lines[l.val]? = some ln) (ha : s.slots[n].algorithm = some a) :
    s.clampedSays (s.growthEnd n l) n a := by
  have judged : ∀ w : State, w.slotCore n = s.slotCore n → w.surroundings = s.surroundings →
      s.clampedSays (w.updateClamped n) n a := fun w hc hsur =>
    State.clampedSays_of_slotCore ha hc (rate_of_surroundings hsur)
  by_cases h : s.slots[n].state = .fading ∨ ln.deferred.getD 0 ≤ s.pool.countOf ln.current
  · rw [State.growthEnd_rests hl h]
    exact judged _ (s.setLine_slotCore l _) rfl
  · obtain ⟨hs, hc⟩ := not_or.mp h
    cases hd : ln.deferred with
    | none => rw [hd] at hc; exact absurd (Nat.zero_le _) hc
    | some d =>
      rw [hd] at hc
      rw [State.growthEnd_acts hl hd hs (not_le.mp hc)]
      exact judged _ ((State.startGrowth_slotCore _ l d).trans (s.setLine_slotCore l _)) (by simp)

end

/-- Settles O60: the evaluation of a need and the end of a growth, by the slot's state, the promise and the line's growth. -/
theorem needIsEvaluated : Obligations.NeedIsEvaluated := by
  intro s n l ln a hl ha need promise u ended playing judged recordOnly
  have hneed : s.need n l = need := State.need_eq ha l
  have hpromise : s.pool.promise ln = promise := s.pool.promise_eq ln
  have evaluated : playing ∨ s.slots[n].state = .preparing →
      u = (if promise < need then s.needAbove n l ln need else s).updateClamped n := fun hs => by
    rw [← hneed, ← hpromise]; exact State.evalNeed_eq hl hs
  have flag : playing ∨ s.slots[n].state = .preparing → ¬ s.replacementFails n l → judged u := fun hs hok => by
    have core : u.slotCore n = s.slotCore n := s.evalNeed_of_not_replacementFails n l hok
    have rate : u.rate = s.rate := rate_of_surroundings (s.evalNeed_surroundings n l)
    have eval := evaluated hs
    generalize (if promise < need then s.needAbove n l ln need else s) = w at eval
    rw [eval] at core rate ⊢
    exact State.clampedSays_of_slotCore ha ((State.updateClamped_slotCore w).symm.trans core) rate
  refine ⟨State.evalNeed_of_idle, fun hs hle => ?within, fun hs hlt hg => ?growing, fun hs hlt hg => ?grows, fun hs hlt hg => ?replaced,
    fun r target hr hlive hext hcount hruns => ?inPlace, s.growthEnd_linesOnly n l, State.growthEnd_clampedSays hl ha,
    fun h => ?rests, fun d hd hs hc => ?acts⟩
  case within =>
    have hok := State.not_replacementFails_of_promise hl ha (hpromise ▸ hle)
    have eval : u = s.updateClamped n := (evaluated hs).trans (by rw [if_neg (not_lt.mpr hle)])
    exact ⟨by rw [eval]; rfl, by rw [eval]; exact s.updateClamped_lines n, State.evalNeed_linesOnly hok, flag hs hok⟩
  case growing =>
    have hok := State.not_replacementFails_of_growth hl hg
    have eval : u = (s.needAbove n l ln need).updateClamped n := (evaluated hs).trans (by rw [if_pos hlt])
    obtain ⟨hpool, hlines⟩ := State.needAbove_growing hl hg need
    exact ⟨by rw [eval]; exact hpool, State.evalNeed_linesOnly hok, flag hs hok,
      by rw [eval, State.updateClamped_lines]; exact hlines⟩
  case grows =>
    have hstate : s.slots[n].state ≠ .preparing := by rcases hs with h | h <;> rw [h] <;> decide
    have hok : ¬ s.replacementFails n l := State.not_replacementFails_of_state hstate
    have eval : u = (s.startGrowth n l need).updateClamped n := (evaluated (Or.inl hs)).trans (by
      rw [if_pos hlt, State.needAbove, if_pos hg, if_neg hstate])
    refine ⟨?_, State.evalNeed_linesOnly hok, flag (Or.inl hs) hok⟩
    rw [eval]; exact State.grownTo_updateClamped (State.startGrowth_grownTo hl ha need)
  case replaced =>
    have eval : u = (s.replaceRegion n l need).updateClamped n := (evaluated (Or.inr hs)).trans (by
      rw [if_pos hlt, State.needAbove, if_pos hg, if_pos hs])
    have hcount : s.pool.countOf ln.current < need := by
      rw [← hpromise, Pool.promise_eq, hg, if_neg nofun] at hlt; exact hlt
    refine ⟨fun q e hplace => ?_, fun f hplace => ?_⟩
    · have hok := State.not_replacementFails_of_placed hl ha hplace
      rw [State.replaceRegion_placed hl ha hplace] at eval
      exact ⟨by rw [eval]; rfl, State.evalNeed_linesOnly hok, flag (Or.inr hs) hok,
        by rw [eval, State.updateClamped_lines]; exact State.setLine_lines _ n l _⟩
    · have hfails : s.replacementFails n l := ⟨ln, a, f, hs, hl, ha, hg, hcount, hplace⟩
      exact ⟨s.evalNeed_of_replacementFails n l hfails, hfails⟩
  case inPlace =>
    refine ⟨by rw [Pool.extend_isSome hr hlive hext hcount, takeAt_isSome ((runsOk_iff _).mp hruns)], fun q hq => ?_⟩
    obtain ⟨r', _, hr', -, -, -, -, rfl⟩ := Pool.extend_spec hq
    obtain rfl : r = r' := Option.some.inj (hr.symm.trans hr')
    exact ⟨rfl, rfl⟩
  case rests =>
    rw [show ended = _ from State.growthEnd_rests hl h]
    exact ⟨rfl, (State.updateClamped_lines _ n).trans (s.setLine_lines n l _)⟩
  case acts =>
    have alg : (s.setLine n l ln.settled).slots[n].algorithm = some a := (s.setLine_algorithm n l _).trans ha
    rw [show ended = _ from State.growthEnd_acts hl hd hs hc]
    exact State.grownTo_updateClamped
      (State.grownTo_of_setLine ln.settled (State.startGrowth_grownTo (State.setLine_line hl ln.settled) alg d))

end Sys2Proof.Machine

namespace Sys2Proof.Machine

/-! ### The end of a crossfade (R48) -/

section
variable {s : State} {n : SlotId} {l : LineId} {ln : Line}

/-- R48: the retiring region goes back and the line's growth ends. -/
theorem State.crossfadeEnded_of_retiring {old : EntryId} (hl : s.slots[n].lines[l.val]? = some ln) (ho : ln.retiring = some old) :
    s.crossfadeEnded n l = ((s.setPool (s.pool.giveBack old)).setLine n l { ln with retiring := none }).growthEnd n l := by
  unfold State.crossfadeEnded; rw [hl]; dsimp only; rw [ho]

theorem exec_crossfadeEnd (h : s.crossfadeReports.contains (n, l) = true) : exec (.crossfadeEnd n l) s
    = .next ({ s with crossfadeReports := s.crossfadeReports.filter (· != (n, l)) }.crossfadeEnded n l).startClearing :=
  if_pos h

/-- R49: with no deferred requirement nothing but the line's growth and the clamped flag changes. -/
theorem State.growthEnd_slot_of_no_deferred (hl : s.slots[n].lines[l.val]? = some ln) (hd : ln.deferred = none) :
    (s.growthEnd n l).slots[n] = { s.slots[n] with
      lines := s.slots[n].lines.set l.val { ln with growth := .steady }, clamped := (s.growthEnd n l).slots[n].clamped } := by
  have rests := State.growthEnd_rests hl (Or.inr (by rw [hd]; exact Nat.zero_le _))
  have settled : ln.settled = { ln with growth := .steady } := by unfold Line.settled; rw [← hd]
  have lines : (s.growthEnd n l).slots[n].lines = s.slots[n].lines.set l.val { ln with growth := .steady } := by
    rw [rests, State.updateClamped_lines, State.setLine_lines, settled]
  rw [← lines]; exact State.slotCore_slot (s.growthEnd_slotCore n l)

/-- R49: with no deferred requirement the end of a growth asks nothing of the pool, raises no flag and takes no report. -/
theorem State.growthEnd_rest_of_no_deferred (hl : s.slots[n].lines[l.val]? = some ln) (hd : ln.deferred = none) :
    (s.growthEnd n l).pool = s.pool ∧ (s.growthEnd n l).crossfadeReports = s.crossfadeReports
    ∧ (s.growthEnd n l).flagsOf = s.flagsOf := by
  rw [State.growthEnd_rests hl (Or.inr (by rw [hd]; exact Nat.zero_le _))]
  exact ⟨rfl, rfl, rfl⟩

end

/-! ### The end of the quiet fade (R179) -/

section
variable (s : State) (n : SlotId)

/-- R12: a fade end prepares the slot or empties it. -/
theorem State.fadeEnded_state : (s.fadeEnded n).slots[n].state = .preparing ∨ (s.fadeEnded n).slots[n].state = .empty := by
  cases hnext : s.slots[n].next with
  | none => right; rw [(s.fadeEnded_of_none n hnext).1]; rfl
  | some a =>
    cases hplace : (s.faded n).pool.allocate n (allocationSizes s.rate a (s.nextBank n a)) with
    | ok x => left; rw [(s.fadeEnded_of_placed n hnext hplace).1]
    | error f => right; exact (s.fadeEnded_of_failed n hnext hplace).1

/-- R179: a forced fade end of one slot. -/
def State.forceFadeEnd (s : State) (n : SlotId) : State := if s.slots[n].state = .fading then s.fadeEnded n else s

theorem State.forceFadeEnd_slotView (m : SlotId) (h : m ≠ n) : (s.forceFadeEnd m).slotView n = s.slotView n := by
  unfold State.forceFadeEnd; split_ifs
  · exact s.fadeEnded_slotView h
  · rfl

/-- R179: what the forced fade ends leave of one slot is what its own leaves. -/
theorem State.forceFadeEnds_slotView : ∃ t : State, t.slotView n = s.slotView n
    ∧ s.forceFadeEnds.slotView n = (t.forceFadeEnd n).slotView n :=
  foldl_allSlots_at (fun t => t.slotView n) State.forceFadeEnd n (fun t m h => t.forceFadeEnd_slotView n m h) s

theorem State.slot_of_slotView {s t : State} {n : SlotId} (h : s.slotView n = t.slotView n) : s.slots[n] = t.slots[n] :=
  congrArg (·.1) h

theorem State.voice_of_slotView {s t : State} {n : SlotId} (h : s.slotView n = t.slotView n) : s.voices[n] = t.voices[n] :=
  congrArg (·.2.2.2) h

/-- R179: the forced fade ends leave no slot FADING. -/
theorem State.forceFadeEnds_state : s.forceFadeEnds.slots[n].state ≠ .fading := by
  obtain ⟨t, -, after⟩ := s.forceFadeEnds_slotView n
  rw [State.slot_of_slotView after]
  unfold State.forceFadeEnd; split_ifs with h
  · rcases t.fadeEnded_state n with hs | hs <;> rw [hs] <;> exact nofun
  · exact h

/-- R179: a slot that is not FADING is left as it is. -/
theorem State.forceFadeEnds_slotView_of_not_fading (h : s.slots[n].state ≠ .fading) : s.forceFadeEnds.slotView n = s.slotView n := by
  obtain ⟨t, before, after⟩ := s.forceFadeEnds_slotView n
  have rests : t.forceFadeEnd n = t := if_neg (by rw [State.slot_of_slotView before]; exact h)
  rw [after, rests, before]

/-- R7, R54: the slot is PREPARING or EMPTY, and its voice is not begun. -/
def State.atRest (s : State) (n : SlotId) : Prop :=
  (s.slots[n].state = .preparing ∨ s.slots[n].state = .empty) ∧ s.voices[n].begun = false

theorem State.atRest_of_slotView {s t : State} {n : SlotId} (h : s.slotView n = t.slotView n) (ht : t.atRest n) : s.atRest n := by
  unfold State.atRest; rw [State.slot_of_slotView h, State.voice_of_slotView h]; exact ht

/-- R179: a slot that was FADING is left at rest. -/
theorem State.forceFadeEnds_atRest_of_fading (h : s.slots[n].state = .fading) : s.forceFadeEnds.atRest n := by
  obtain ⟨t, before, after⟩ := s.forceFadeEnds_slotView n
  have ends : t.forceFadeEnd n = t.fadeEnded n := if_pos (by rw [State.slot_of_slotView before]; exact h)
  refine State.atRest_of_slotView after ?_
  rw [ends]; exact ⟨t.fadeEnded_state n, (t.fadeEnded_silent n).1⟩

end

/-- Settles O44: the reports of a crossfade's end and of the quiet fade's end. -/
theorem crossfadeAndQuietFadeEnd : Obligations.CrossfadeAndQuietFadeEnd := by
  refine fun s => ⟨fun n l ln old hreport hl ho hd => ?crossfade, fun n l ln old hreport hl ho => ?acts, fun hreport => ?quiet⟩
  case crossfade =>
    let t : State := { s with crossfadeReports := s.crossfadeReports.filter (· != (n, l)) }
    let w := (t.setPool (t.pool.giveBack old)).setLine n l { ln with retiring := none }
    have run := exec_crossfadeEnd hreport
    rw [State.crossfadeEnded_of_retiring (s := t) hl ho] at run
    have hline : w.slots[n].lines[l.val]? = some { ln with retiring := none } :=
      State.setLine_line (s := t.setPool (t.pool.giveBack old)) hl _
    obtain ⟨hpool, hreports, hflags⟩ := State.growthEnd_rest_of_no_deferred hline hd
    have hslot := State.growthEnd_slot_of_no_deferred hline hd
    have lines : w.slots[n].lines = s.slots[n].lines.set l.val { ln with retiring := none } := State.setLine_lines _ n l _
    have core : w.slots[n] = { s.slots[n] with lines := w.slots[n].lines, clamped := w.slots[n].clamped } :=
      State.slotCore_slot (State.setLine_slotCore (t.setPool (t.pool.giveBack old)) l _)
    rw [lines, List.set_set, core] at hslot
    refine ⟨_, run, congrArg Pool.startJob hpool, hslot, hreports, ?_, ?_, hflags⟩
    · exact (w.growthEnd_surroundings n l).trans rfl
    · exact State.sameSlotsBut_of_slotView fun m hm => (w.growthEnd_slotView l hm).trans (State.setLine_slotView _ l hm _)
  case acts =>
    exact (exec_crossfadeEnd hreport).trans
      (congrArg (fun u : State => Host.Outcome.next u.startClearing) (State.crossfadeEnded_of_retiring hl ho))
  case quiet =>
    let t : State := { s with quietReport := false, stopped := true }
    have kept : t.forceFadeEnds.surroundings = t.surroundings := State.forceFadeEnds_surroundings _
    refine ⟨_, if_pos hreport, (congrArg State.stopped kept :), (congrArg State.quietReport kept :),
      fun n => ⟨t.forceFadeEnds_state n, fun h => ?_⟩, (tempo_of_surroundings kept :), (congrArg State.holds kept :),
      (audio_of_surroundings kept :), (congrArg State.power kept :)⟩
    exact State.slot_of_slotView (t.forceFadeEnds_slotView_of_not_fading n h)

/-! ### The ends of clear jobs (R39, R40, R42) -/

/-- R29: a page just zeroed holds nothing. -/
theorem Memory.stamp_zeroPages {m : Memory} {first count page : Nat} (hlo : first ≤ page) (hhi : page < first + count) :
    (m.zeroPages first count).stamp page = none := by
  unfold Memory.stamp Memory.zeroPages
  rw [List.find?_eq_none.mpr, Option.map_none]
  intro c hc hpage
  have hkept := (List.mem_filter.mp hc).2
  simp only [Bool.or_eq_true, decide_eq_true_eq] at hkept
  have : c.1 = page := by simpa using hpage
  omega

@[simp] theorem Pool.startJob_jobs (p : Pool) : p.startJob.jobs = p.jobs := by unfold Pool.startJob; split <;> rfl

@[simp] theorem Pool.startJob_liveReports (p : Pool) : p.startJob.liveReports = p.liveReports := by
  unfold Pool.startJob; split <;> rfl

/-- R39: an idle engine is at work again just when a job is queued. -/
theorem Pool.startJob_progress {p : Pool} (h : p.progress = none) : p.startJob.progress.isSome = true ↔ p.jobs ≠ [] := by
  unfold Pool.startJob; rw [h]
  cases hj : p.jobs with
  | nil => simp [h]
  | cons j rest => simp

section
variable {p : Pool} {pr : Progress} {e : EntryId} {r : Region} {jobs : List Job}

/-- R39: the last page of a region job. -/
theorem Pool.regionJobDone_eq (hp : p.progress = some pr) (he : p.entries[e] = some r) (hj : p.jobs = ⟨.region, e, false⟩ :: jobs)
    (hr : r.state = .zeroing) : p.regionJobDone = Pool.startJob { p.setEntry e (some { r with state := .live }) with
      jobs := jobs, progress := none, written := p.written.zeroPages pr.first pr.pages, liveReports := p.liveReports ++ [e] } := by
  unfold Pool.regionJobDone; rw [hp, hj]; dsimp only; rw [he]; exact if_pos hr

/-- R40: the last page of an extension job: the pool it leaves, before the next job starts. -/
def Pool.extensionJoined (p : Pool) (pr : Progress) (e : EntryId) (r : Region) (jobs : List Job) : Pool :=
  { p.setEntry e (some { r with count := r.size, ext := none }) with
    jobs := jobs, progress := none, written := p.written.zeroPages pr.first pr.pages }

theorem Pool.extensionDone_eq (hp : p.progress = some pr) (he : p.entries[e] = some r) (hj : p.jobs = ⟨.extension, e, false⟩ :: jobs)
    (hr : r.state = .live) : p.extensionDone = some ((p.extensionJoined pr e r jobs).startJob, r.owner) := by
  unfold Pool.extensionDone; rw [hp, hj]; dsimp only; rw [he]; exact if_pos hr

/-- R42: the page in progress of a cancelled job of an ABANDONED entry. -/
theorem Pool.cancelledPageEnd_eq {k : JobKind} (hp : p.progress = some pr) (he : p.entries[e] = some r)
    (hj : p.jobs = ⟨k, e, true⟩ :: jobs) (hr : r.state = .abandoned) : p.cancelledPageEnd = (Pool.release
      { p with jobs := jobs, progress := none, written := p.written.zeroPages (pr.first + pr.zeroed) 1 } e r).startJob := by
  unfold Pool.cancelledPageEnd; rw [hp, hj]; dsimp only; rw [he]; exact if_pos hr

/-- R39: a page that is not the job's last. -/
theorem Pool.pageTick_eq {k : JobKind} (hp : p.progress = some pr) (hj : p.jobs = ⟨k, e, false⟩ :: jobs)
    (hlt : pr.zeroed + 1 < pr.pages) : p.pageTick = { p with
      progress := some { pr with zeroed := pr.zeroed + 1 }, written := p.written.zeroPages (pr.first + pr.zeroed) 1 } := by
  unfold Pool.pageTick; rw [hp, hj]; exact if_pos (by simpa using hlt)

@[simp] theorem Pool.free_jobs (p : Pool) (first count : Nat) : (p.free first count).jobs = p.jobs := by
  unfold Pool.free; split_ifs <;> rfl

/-- R31, R36: a region's pages go back as one run. -/
theorem Pool.release_runs (h : 0 < r.size) : (p.release e r).runs = insertRun { first := r.first, count := r.size } p.runs := by
  unfold Pool.release Pool.free; rw [if_neg (by omega)]; rfl

end

theorem exec_extensionComplete {s : State} {q : Pool} {o : Option (SlotId × LineId)} (h : s.pool.extensionDone = some (q, o)) :
    exec .extensionComplete s = .next ((s.setPool q).extensionEnded o).startClearing := by
  show execExtensionComplete s = _
  unfold execExtensionComplete; rw [h]

/-- With nothing waiting and no start-up sweep a step is a page time of the job in progress (log 3). -/
theorem step_of_idle {s : State} (hpend : s.pending = []) (hsweep : s.sweep = none) : step s = .next (s.setPool s.pool.pageTick) := by
  have page : s.pageTime = s.setPool s.pool.pageTick := by unfold State.pageTime; rw [hsweep]
  have idle : step s = .next s.pageTime := by unfold step; rw [hpend]
  rw [idle, page]

/-- R39: starting the oldest job twice starts it once. -/
theorem Pool.startJob_startJob (p : Pool) : p.startJob.startJob = p.startJob := by
  cases hp : p.progress with
  | some pr =>
    have busy : p.startJob = p := by unfold Pool.startJob; rw [hp]
    rw [busy, busy]
  | none =>
    cases hj : p.jobs with
    | nil =>
      have idle : p.startJob = p := by unfold Pool.startJob; rw [hp, hj]
      rw [idle, idle]
    | cons j rest => simp only [Pool.startJob, hp, hj]

/-- Settles O45: the ends of the three kinds of clear jobs, and a page that is not the last. -/
theorem clearJobsEnd : Obligations.ClearJobsEnd := by
  refine fun s pr e r jobs hp he => ⟨fun hj hr => ?region, fun hj hr hown => ?unowned, fun n l ln hj hr hown hl hd => ?owned,
    fun n l hj hr hown => ?acts, fun k hj hr => ?abandoned, fun k hpend hsweep hj hlt => ?page⟩
  case region =>
    have done := Pool.regionJobDone_eq hp he hj hr
    refine ⟨s.pool.regionJobDone, rfl, ?_, ?_, ?_, ?_, ?_, fun page hlo hhi => ?_⟩
    · rw [done, Pool.startJob_jobs]
    · rw [done, Pool.startJob_entries]; rfl
    · rw [done, Pool.startJob_liveReports]
    · rw [done, Pool.startJob_runs]; rfl
    · rw [done]; exact Pool.startJob_progress rfl
    · rw [done, Pool.startJob_written]; exact Memory.stamp_zeroPages hlo hhi
  case unowned =>
    have done := exec_extensionComplete (Pool.extensionDone_eq hp he hj hr)
    rw [hown] at done
    refine ⟨(s.pool.extensionJoined pr e r jobs).startJob, ?_, ?_, ?_, ?_, Pool.startJob_progress rfl⟩
    · rw [done]; exact congrArg (fun q => Host.Outcome.next { s with pool := q }) (Pool.startJob_startJob _)
    · exact Pool.startJob_jobs _
    · exact Pool.startJob_entries _
    · exact Pool.startJob_runs _
  case owned =>
    have done := exec_extensionComplete (Pool.extensionDone_eq hp he hj hr)
    rw [hown] at done
    let w := s.setPool (s.pool.extensionJoined pr e r jobs).startJob
    have hline : w.slots[n].lines[l.val]? = some ln := hl
    have hpool := (State.growthEnd_rest_of_no_deferred hline hd).1
    have hslot := State.growthEnd_slot_of_no_deferred hline hd
    refine ⟨_, done, ?_, ?_, congrArg Slot.lines hslot, ?_, w.growthEnd_surroundings n l⟩
    · exact (Pool.startJob_jobs _).trans ((congrArg Pool.jobs hpool).trans (Pool.startJob_jobs _))
    · exact (Pool.startJob_entries _).trans ((congrArg Pool.entries hpool).trans (Pool.startJob_entries _))
    · exact State.sameSlotsBut_of_slotView fun m hm => w.growthEnd_slotView l hm
  case acts =>
    have ends := Pool.extensionDone_eq hp he hj hr
    rw [hown] at ends
    exact ⟨_, ends, exec_extensionComplete ends⟩
  case abandoned =>
    have done := Pool.cancelledPageEnd_eq hp he hj hr
    refine ⟨s.pool.cancelledPageEnd, rfl, ?_, ?_, fun hsize => ?_⟩
    · rw [done, Pool.startJob_jobs]; exact Pool.free_jobs _ _ _
    · rw [done, Pool.startJob_entries]; exact Pool.free_entries _ _ _
    · rw [done, Pool.startJob_runs]; exact Pool.release_runs hsize
  case page =>
    have tick := Pool.pageTick_eq hp hj hlt
    exact (step_of_idle hpend hsweep).trans (congrArg (fun q => Host.Outcome.next (s.setPool q)) tick)

end Sys2Proof.Machine

namespace Sys2Proof.Machine

/-! ### The store sweep (R110) -/

/-- R110: what the sweep makes of one record. -/
def Scene.swept (k : Scene) : Scene := if k.mismatched = true then { k with state := .corrupt } else k

theorem Scene.swept_swept (k : Scene) : k.swept.swept = k.swept := by
  unfold Scene.swept
  split_ifs with h h'
  · exact absurd h' (by simp [Scene.mismatched])
  · rfl
  · rfl

theorem Scene.mismatched_iff (k : Scene) : k.mismatched = true ↔ k.state = .valid ∧ k.check ≠ k.freshCheck := by
  simp [Scene.mismatched]

/-- R110: the sweep of one record. -/
def State.sweepRecord (s : State) (k : SceneId) : State :=
  if s.scenes[k].mismatched then s.setScene k { s.scenes[k] with state := .corrupt } else s

theorem State.sweepRecord_scene (s : State) (j k : SceneId) :
    (s.sweepRecord j).scenes[k] = if j = k then s.scenes[k].swept else s.scenes[k] := by
  unfold State.sweepRecord Scene.swept
  by_cases h : j = k
  · subst h; rw [if_pos rfl]; split_ifs
    · exact table_get_set_self _ _ _
    · rfl
  · rw [if_neg h]; split_ifs
    · exact (table_get_set _ _ _ _).trans (if_neg h)
    · rfl

theorem State.sweepRecords_scene_of (ks : List SceneId) (k : SceneId) : ∀ s : State,
    (ks.foldl State.sweepRecord s).scenes[k] = if k ∈ ks then s.scenes[k].swept else s.scenes[k] := by
  induction ks with
  | nil => intro s; rw [if_neg (List.not_mem_nil)]; rfl
  | cons j ks ih =>
    intro s
    rw [List.foldl_cons, ih, s.sweepRecord_scene]
    by_cases h : j = k
    · subst h
      simp [Scene.swept_swept]
    · simp [h, Ne.symm h]

/-- R110: the sweep makes CORRUPT just the VALID records that do not match their check value. -/
theorem State.storeSweep_scene (s : State) (k : SceneId) : s.storeSweep.scenes[k] = s.scenes[k].swept := by
  unfold State.storeSweep; split_ifs with h
  · exact (State.sweepRecords_scene_of allScenes k s).trans (if_pos (mem_allScenes k))
  · have sound : s.scenes[k].mismatched ≠ true := fun hk => h (List.any_eq_true.mpr ⟨k, mem_allScenes k, hk⟩)
    exact (if_neg sound).symm

theorem State.slotView_of_outsideScenes {s t : State} (h : s.outsideScenes = t.outsideScenes) (n : SlotId) : s.slotView n = t.slotView n :=
  (congrArg (fun w => State.slotView w n) h : s.outsideScenes.slotView n = t.outsideScenes.slotView n)

/-! ### One line at WAKE (R54) -/

section
variable {s : State} {n : SlotId} {l : LineId} {ln : Line} {a : Alg}

/-- R54: the line with its retiring region released and no growth. -/
def Line.rested (ln : Line) : Line := { ln with retiring := none, growth := .steady }

/-- R54: the pool once a line's retiring region is back and its current region is queued for zeroing. -/
def Pool.rezeroed (p : Pool) (ln : Line) : Pool := (ln.retiring.toList.foldl Pool.giveBack p).rezero ln.current

/-- R54: what the first two steps at a line leave. -/
def State.lineRested (s : State) (n : SlotId) (l : LineId) (ln : Line) : State :=
  (s.setPool (s.pool.rezeroed ln)).setLine n l ln.rested

theorem State.rezeroLine_eq (hl : s.slots[n].lines[l.val]? = some ln) :
    s.rezeroLine n l = ((s.lineRested n l ln).settleDeferred n l).updateClamped n := by
  have inside : l.val < s.slots[n].lines.length := (List.getElem?_eq_some_iff.mp hl).1
  have growth : s.settleGrowth n l = (s.setPool (ln.retiring.toList.foldl Pool.giveBack s.pool)).setLine n l ln.rested := by
    unfold State.settleGrowth; rw [hl]; rfl
  have line : (s.settleGrowth n l).slots[n].lines[l.val]? = some ln.rested := by
    rw [growth]; exact State.setLine_line (s := s.setPool _) hl _
  have current : (s.settleGrowth n l).rezeroCurrent n l = s.lineRested n l ln := by
    unfold State.rezeroCurrent; rw [line, growth]; rfl
  unfold State.rezeroLine; rw [if_pos inside, current]

theorem State.rezeroLine_of_no_line (h : s.slots[n].lines.length ≤ l.val) : s.rezeroLine n l = s :=
  if_neg (not_lt.mpr h)

theorem State.lineRested_line (hl : s.slots[n].lines[l.val]? = some ln) :
    (s.lineRested n l ln).slots[n].lines[l.val]? = some ln.rested :=
  State.setLine_line (s := s.setPool _) hl _

theorem State.lineRested_lines (s : State) (n : SlotId) (l : LineId) (ln : Line) :
    (s.lineRested n l ln).slots[n].lines = s.slots[n].lines.set l.val ln.rested := State.setLine_lines _ n l _

theorem State.lineRested_slotCore (s : State) (n : SlotId) (l : LineId) (ln : Line) :
    (s.lineRested n l ln).slotCore n = s.slotCore n := (State.setLine_slotCore _ l _).trans (s.setPool_slotCore _)

/-- A line written with its own value. -/
theorem State.setLine_same (hl : s.slots[n].lines[l.val]? = some ln) : s.setLine n l ln = s := by
  unfold State.setLine; rw [set_of_getElem? hl]
  unfold State.setSlot; rw [table_set_self]

/-- R54: a deferred requirement that the line has already is removed, and nothing else changes. -/
theorem State.settleDeferred_rests (hl : s.slots[n].lines[l.val]? = some ln) (h : ln.deferred.getD 0 ≤ s.pool.countOf ln.current) :
    s.settleDeferred n l = s.setLine n l { ln with deferred := none } := by
  unfold State.settleDeferred; rw [hl]; dsimp only
  cases hd : ln.deferred with
  | none =>
    have same : ({ ln with deferred := none } : Line) = ln := by rw [← hd]
    rw [same, State.setLine_same hl]
  | some d =>
    rw [hd] at h
    exact if_neg (not_lt.mpr h)

/-- R52, R54: a larger one has the line's region replaced. -/
theorem State.settleDeferred_replaces (hl : s.slots[n].lines[l.val]? = some ln) {d : Nat} (hd : ln.deferred = some d)
    (h : s.pool.countOf ln.current < d) :
    s.settleDeferred n l = (s.setLine n l { ln with deferred := none }).replaceRegion n l d := by
  unfold State.settleDeferred; rw [hl]; dsimp only; rw [hd]; exact if_pos h

/-- R52: a replacement that cannot be placed empties the slot. -/
theorem State.replaceRegion_failed (hl : s.slots[n].lines[l.val]? = some ln) (ha : s.slots[n].algorithm = some a) {k : Nat} {f : PlaceFail}
    (h : (s.pool.giveBack ln.current).place (allocationSize a k) n l = .error f) : s.emptiedFrom (s.replaceRegion n l k) n := by
  unfold State.replaceRegion; rw [hl, ha]; dsimp only; rw [h]
  refine ⟨?_, State.emptySlot_flagged _ (State.recallFailed_flagged _ _ (State.flagged_raiseBoth _ _)), State.emptySlot_slotEmpty _⟩
  rw [State.emptySlot_slot, State.recallFailed_slots]; rfl

/-- A slot record, from its core and its lines. -/
theorem State.slot_of_lines {u : State} {xs : List Line} (core : u.slotCore n = s.slotCore n) (lines : u.slots[n].lines = xs) :
    u.slots[n] = { s.slots[n] with lines := xs, clamped := u.slots[n].clamped } := by
  rw [← lines]; exact State.slotCore_slot core

/-! ### A slot at WAKE (R54, R60) -/

theorem State.atRest_of_slotCore {t : State} (h : t.slotCore n = s.slotCore n) (hs : s.atRest n) : t.atRest n := by
  have voice : t.voices[n] = s.voices[n] := congrArg (fun x => x.2.2.2) h
  unfold State.atRest; rw [State.slotCore_state h, voice]; exact hs

theorem State.emptySlot_atRest (s : State) (n : SlotId) : (s.emptySlot n).atRest n :=
  ⟨Or.inr (by rw [State.emptySlot_slot]; rfl), (s.emptySlot_silent n).1⟩

theorem State.replaceRegion_atRest (hs : s.atRest n) (k : Nat) : (s.replaceRegion n l k).atRest n := by
  unfold State.replaceRegion; split
  · split
    · exact State.atRest_of_slotCore ((State.setLine_slotCore _ l _).trans (s.setPool_slotCore _)) hs
    · exact State.emptySlot_atRest _ n
  · exact hs

theorem State.settleDeferred_atRest (hs : s.atRest n) : (s.settleDeferred n l).atRest n := by
  unfold State.settleDeferred; split
  · split
    · dsimp only
      have written : ∀ x : Line, (s.setLine n l x).atRest n := fun x => State.atRest_of_slotCore (s.setLine_slotCore l x) hs
      split_ifs
      · exact State.replaceRegion_atRest (written _) _
      · exact written _
    · exact hs
  · exact hs

theorem State.rezeroLine_atRest (hs : s.atRest n) (l : LineId) : (s.rezeroLine n l).atRest n := by
  cases hl : s.slots[n].lines[l.val]? with
  | none => rw [State.rezeroLine_of_no_line (List.getElem?_eq_none_iff.mp hl)]; exact hs
  | some ln =>
    rw [State.rezeroLine_eq hl]
    exact State.atRest_of_slotCore (State.updateClamped_slotCore _)
      (State.settleDeferred_atRest (State.atRest_of_slotCore (s.lineRested_slotCore n l ln) hs))

/-- R54, R60: a slot that owns regions, before its lines are re-zeroed. -/
def State.backToPreparing (s : State) (n : SlotId) : State := (s.endVoice n).setSlot n { s.slots[n] with state := .preparing }

theorem State.backToPreparing_slot (s : State) (n : SlotId) : (s.backToPreparing n).slots[n] = { s.slots[n] with state := .preparing } :=
  table_get_set_self _ _ _

theorem State.backToPreparing_atRest (s : State) (n : SlotId) : (s.backToPreparing n).atRest n := by
  refine ⟨Or.inl (by rw [State.backToPreparing_slot]), ?_⟩
  have voice : (s.backToPreparing n).voices[n] = (s.endVoice n).voices[n] := rfl
  rw [voice, State.endVoice_voice]

theorem State.rezeroSlot_of_no_lines (h : s.slots[n].lines = []) : s.rezeroSlot n = s := by
  unfold State.rezeroSlot; rw [h]; rfl

theorem State.rezeroSlot_of_lines (h : s.slots[n].lines ≠ []) :
    s.rezeroSlot n = allLines.foldl (State.rezeroLine n) (s.backToPreparing n) := by
  unfold State.rezeroSlot; exact if_neg (by simpa using h)

theorem State.rezeroSlot_atRest (h : s.slots[n].lines ≠ []) : (s.rezeroSlot n).atRest n := by
  rw [State.rezeroSlot_of_lines h]
  exact foldl_holds (fun t : State => t.atRest n) _ (fun t k ht => State.rezeroLine_atRest ht k) _ _ (s.backToPreparing_atRest n)

/-- R54: with no deferred requirement a line is rested, and the rest of the slot stays. -/
theorem State.rezeroLine_of_no_deferred (h : ∀ x ∈ s.slots[n].lines, x.deferred = none) (l : LineId) :
    (s.rezeroLine n l).slotCore n = s.slotCore n
    ∧ (s.rezeroLine n l).slots[n].lines = s.slots[n].lines.modify l.val Line.rested := by
  rw [List.modify_eq_set_getElem?]
  cases hl : s.slots[n].lines[l.val]? with
  | none =>
    rw [State.rezeroLine_of_no_line (List.getElem?_eq_none_iff.mp hl)]
    exact ⟨rfl, rfl⟩
  | some ln =>
    have hd : ln.rested.deferred = none := h ln (List.mem_of_getElem? hl)
    have settled : (s.lineRested n l ln).settleDeferred n l = s.lineRested n l ln := by
      unfold State.settleDeferred; rw [State.lineRested_line hl]; dsimp only; rw [hd]
    rw [State.rezeroLine_eq hl, settled]
    refine ⟨(State.updateClamped_slotCore _).trans (s.lineRested_slotCore n l ln), ?_⟩
    rw [State.updateClamped_lines, State.lineRested_lines]; rfl

theorem State.rezeroLines_of_no_deferred (ls : List LineId) : ∀ s : State, (∀ x ∈ s.slots[n].lines, x.deferred = none) →
    (ls.foldl (State.rezeroLine n) s).slotCore n = s.slotCore n
    ∧ (ls.foldl (State.rezeroLine n) s).slots[n].lines = ls.foldl (fun xs k => xs.modify k.val Line.rested) s.slots[n].lines := by
  induction ls with
  | nil => intro s _; exact ⟨rfl, rfl⟩
  | cons k ls ih =>
    intro s h
    obtain ⟨core, lines⟩ := State.rezeroLine_of_no_deferred h k
    have kept : ∀ x ∈ (s.rezeroLine n k).slots[n].lines, x.deferred = none := by
      rw [lines]; intro x hx
      obtain ⟨i, hi⟩ := List.mem_iff_getElem?.mp hx
      rw [List.getElem?_modify] at hi
      obtain ⟨y, hy, rfl⟩ := Option.map_eq_some_iff.mp hi
      have hyd := h y (List.mem_of_getElem? hy)
      split_ifs <;> exact hyd
    obtain ⟨core', lines'⟩ := ih _ kept
    exact ⟨core'.trans core, lines'.trans (by rw [lines]; rfl)⟩

end

/-- R54: the four line numbers reach every line of a slot. -/
theorem modify_allLines {α : Type} (f : α → α) {xs : List α} (h : xs.length ≤ 4) :
    allLines.foldl (fun ys k => ys.modify k.val f) xs = xs.map f := by
  unfold allLines
  match xs, h with
  | [], _ => rfl
  | [_], _ => rfl
  | [_, _], _ => rfl
  | [_, _, _], _ => rfl
  | [_, _, _, _], _ => rfl

/-- R54: a slot without deferred requirements keeps its lines, rested. -/
theorem State.rezeroSlot_of_no_deferred {s : State} {n : SlotId} (hne : s.slots[n].lines ≠ []) (hlen : s.slots[n].lines.length ≤ 4)
    (hd : ∀ x ∈ s.slots[n].lines, x.deferred = none) :
    (s.rezeroSlot n).slots[n].state = .preparing ∧ (s.rezeroSlot n).slots[n].lines = s.slots[n].lines.map Line.rested := by
  have lines : (s.backToPreparing n).slots[n].lines = s.slots[n].lines := by rw [State.backToPreparing_slot]
  obtain ⟨core, hlines⟩ := State.rezeroLines_of_no_deferred allLines (s.backToPreparing n) (by rw [lines]; exact hd)
  rw [State.rezeroSlot_of_lines hne]
  refine ⟨?_, ?_⟩
  · rw [State.slotCore_state core, State.backToPreparing_slot]
  · rw [hlines, lines, modify_allLines _ hlen]

/-! ### The pool at a line (R54) -/

theorem Pool.giveBack_entry_other (p : Pool) {e k : EntryId} (h : e ≠ k) : (p.giveBack e).entries[k] = p.entries[k] := by
  obtain ⟨x, hx, -⟩ := p.giveBack_entries e
  rw [hx, table_get_set, if_neg h]

section
variable {p : Pool} {e : EntryId} {r : Region}

/-- R54: a region still ZEROING keeps its job. -/
theorem Pool.rezero_of_zeroing (he : p.entries[e] = some r) (hr : r.state = .zeroing) : p.rezero e = p := by
  unfold Pool.rezero; rw [he]; exact if_neg (by rw [hr]; exact nofun)

/-- R54: a LIVE region becomes ZEROING with its extension merged, and joins the queue's tail. -/
theorem Pool.rezero_of_live (he : p.entries[e] = some r) (hr : r.state = .live) :
    (p.rezero e).entries = p.entries.set e (some { r with state := .zeroing, count := r.size, ext := none })
    ∧ (p.rezero e).runs = p.runs
    ∧ (p.rezero e).jobs = (if p.inProgress .extension e then p.cancelHead.jobs
        else p.jobs.filter (· != ⟨.extension, e, false⟩)) ++ [⟨.region, e, false⟩] := by
  unfold Pool.rezero; rw [he]; dsimp only; rw [if_pos hr]
  by_cases h : p.inProgress .extension e = true
  · rw [if_pos h, if_pos h, ← p.cancelHead_entries]
    exact ⟨rfl, p.cancelHead_runs, rfl⟩
  · rw [if_neg h, if_neg h]
    exact ⟨rfl, rfl, rfl⟩

end

/-! ### The WAKE decision (R180) -/

section
variable (s : State)

/-- R180: the state in which the restart finds the part. -/
def State.beforeRestart (s : State) : State := s.storeSweep.endQuietPeriod.rezeroSlots

/-- R180: what the restart and the Clear Engine make of it. -/
theorem State.wakeUp_eq : s.wakeUp = { s.beforeRestart with
    voices := s.wakeUp.voices, pool := s.beforeRestart.pool.startJob, audio := { s.beforeRestart.audio with returns := [] },
    quietGain := GainFade.reset, stopped := false, power := .ready } := by
  have h := congrArg State.startClearing s.beforeRestart.restartSound_spec.1
  exact h

theorem State.wakeUp_voice (n : SlotId) : s.wakeUp.voices[n] = { s.beforeRestart.voices[n] with peak := false } :=
  s.beforeRestart.restartSound_spec.2 n

/-- R180: the fade ends and the re-zeroing leave the surroundings as the store sweep left them, but for the quiet report. -/
theorem State.beforeRestart_surroundings :
    s.beforeRestart.surroundings = ({ s.storeSweep with quietReport := false } : State).surroundings := by
  have rezero : s.beforeRestart.surroundings = s.storeSweep.endQuietPeriod.surroundings :=
    foldl_keeps State.surroundings State.rezeroSlot (fun t n => State.rezeroSlot_surroundings t n) _ _
  exact rezero.trans (State.forceFadeEnds_surroundings _)

theorem State.results_of_surroundings {s t : State} (h : s.surroundings = t.surroundings) (p : Port) :
    (s.port p).results = (t.port p).results := by
  cases p
  · exact (congrArg (fun w => w.portA.results) h : s.surroundings.portA.results = t.surroundings.portA.results)
  · exact (congrArg (fun w => w.portB.results) h : s.surroundings.portB.results = t.surroundings.portB.results)

theorem State.results_of_outsideScenes {s t : State} (h : s.outsideScenes = t.outsideScenes) (p : Port) :
    (s.port p).results = (t.port p).results := by
  cases p
  · exact (congrArg (fun w => w.portA.results) h : s.outsideScenes.portA.results = t.outsideScenes.portA.results)
  · exact (congrArg (fun w => w.portB.results) h : s.outsideScenes.portB.results = t.outsideScenes.portB.results)

/-- R179, R180: the slots as the forced fade ends leave them. -/
theorem State.endQuietPeriod_of_not_fading {n : SlotId} (h : s.slots[n].state ≠ .fading) :
    s.storeSweep.endQuietPeriod.slotView n = s.slotView n := by
  have swept : ({ s.storeSweep with quietReport := false } : State).slotView n = s.slotView n :=
    State.slotView_of_outsideScenes s.storeSweep_outsideScenes n
  refine (State.forceFadeEnds_slotView_of_not_fading _ n ?_).trans swept
  rw [State.slot_of_slotView swept]; exact h

theorem State.endQuietPeriod_of_fading {n : SlotId} (h : s.slots[n].state = .fading) : s.storeSweep.endQuietPeriod.atRest n := by
  have swept : ({ s.storeSweep with quietReport := false } : State).slotView n = s.slotView n :=
    State.slotView_of_outsideScenes s.storeSweep_outsideScenes n
  refine State.forceFadeEnds_atRest_of_fading _ n ?_
  rw [State.slot_of_slotView swept]; exact h

/-- R54: what the re-zeroing of all slots leaves of one slot is what its own leaves. -/
theorem State.beforeRestart_slotView (n : SlotId) : ∃ t : State, t.slotView n = s.storeSweep.endQuietPeriod.slotView n
    ∧ s.beforeRestart.slotView n = (t.rezeroSlot n).slotView n :=
  foldl_allSlots_at (fun t => t.slotView n) State.rezeroSlot n (fun t _ h => t.rezeroSlot_slotView h) _

/-- R54, R180: a slot with lines or FADING is found at rest. -/
theorem State.beforeRestart_atRest {n : SlotId} (h : s.slots[n].lines ≠ [] ∨ s.slots[n].state = .fading) :
    s.beforeRestart.atRest n := by
  obtain ⟨t, before, after⟩ := s.beforeRestart_slotView n
  refine State.atRest_of_slotView after ?_
  by_cases hlines : t.slots[n].lines = []
  · rw [State.rezeroSlot_of_no_lines hlines]
    by_cases hf : s.slots[n].state = .fading
    · exact State.atRest_of_slotView before (s.endQuietPeriod_of_fading hf)
    · have same := State.slot_of_slotView (before.trans (s.endQuietPeriod_of_not_fading hf))
      rw [same] at hlines
      exact (h.elim (absurd hlines) hf.elim)
  · exact State.rezeroSlot_atRest hlines

end

/-- R150, R160: WAKE taken in QUIET. -/
theorem wakeDecision_of_quiet {t : State} (h : t.power = .quiet) : wakeDecision [] t = t.wakeUp.answerDone := if_pos h

/-- R150: WAKE taken in READY. -/
theorem wakeDecision_of_ready {t : State} (h : t.power = .ready) : wakeDecision [] t = t.refuse .state :=
  if_neg (by rw [h]; exact nofun)

/-- R54, R180: the WAKE decision in QUIET. -/
theorem wakeUp_taken {s t : State} {p : Port} {tag : Byte} (htake : s.takeCommand p (ownCommand tag 0x61 []) = some t)
    (hq : t.power = .quiet) : exec (.wake p tag []) s = .next (t.wakeUp.placeResult p ⟨tag, 0x61, .done, []⟩) :=
  taken_ownCommand htake (wakeDecision_of_quiet hq)

section
variable {t : State} {n : SlotId}

theorem State.wakeUp_slots (t : State) : t.wakeUp.slots = t.beforeRestart.slots := (congrArg State.slots t.wakeUp_eq :)

/-- R180: what WAKE carries through, but for the return frames. -/
theorem State.wakeUp_frame (t : State) : t.wakeUp.holds = t.holds ∧ t.wakeUp.tempo = t.tempo ∧ t.wakeUp.modulation = t.modulation
    ∧ t.wakeUp.audio = { t.audio with returns := [] } ∧ t.wakeUp.quietReport = false
    ∧ ∀ p : Port, (t.wakeUp.port p).results = (t.port p).results := by
  have woken := t.wakeUp_eq
  have kept := t.beforeRestart_surroundings
  have swept := t.storeSweep_outsideScenes
  have audio : t.beforeRestart.audio = t.audio := (audio_of_surroundings kept).trans (congrArg State.audio swept :)
  refine ⟨?_, ?_, ?_, ?_, ?_, fun p => ?_⟩
  · exact (congrArg State.holds woken :).trans ((congrArg State.holds kept :).trans (congrArg State.holds swept :))
  · exact (congrArg State.tempo woken :).trans ((tempo_of_surroundings kept).trans (congrArg State.tempo swept :))
  · exact (congrArg State.modulation woken :).trans ((congrArg State.modulation kept :).trans (congrArg State.modulation swept :))
  · rw [← audio]; exact (congrArg State.audio woken :)
  · exact (congrArg State.quietReport woken :).trans (congrArg State.quietReport kept :)
  · have results : (t.wakeUp.port p).results = (t.beforeRestart.port p).results := by rw [woken]; cases p <;> rfl
    have before : (t.beforeRestart.port p).results = (t.storeSweep.port p).results :=
      (State.results_of_surroundings kept p).trans (by cases p <;> rfl)
    exact results.trans (before.trans (State.results_of_outsideScenes swept p))

/-- R110, R180: the records as the store sweep leaves them. -/
theorem State.wakeUp_scene (t : State) (k : SceneId) : t.wakeUp.scenes[k] = t.scenes[k].swept := by
  have woken : t.wakeUp.scenes = t.beforeRestart.scenes := (congrArg State.scenes t.wakeUp_eq :)
  have kept : t.beforeRestart.scenes = t.storeSweep.scenes := (congrArg State.scenes t.beforeRestart_surroundings :)
  rw [woken, kept, t.storeSweep_scene]

theorem State.wakeUp_atRest (h : t.slots[n].lines ≠ [] ∨ t.slots[n].state = .fading) : t.wakeUp.atRest n := by
  obtain ⟨hstate, hbegun⟩ := t.beforeRestart_atRest h
  unfold State.atRest
  rw [State.wakeUp_slots, State.wakeUp_voice]; exact ⟨hstate, hbegun⟩

/-- R54: a slot that was not FADING is left as its own re-zeroing leaves it. -/
theorem State.wakeUp_slot_of_not_fading (h : t.slots[n].state ≠ .fading) :
    ∃ v : State, v.slots[n] = t.slots[n] ∧ t.wakeUp.slots[n] = (v.rezeroSlot n).slots[n] := by
  obtain ⟨v, before, after⟩ := t.beforeRestart_slotView n
  refine ⟨v, State.slot_of_slotView (before.trans (t.endQuietPeriod_of_not_fading h)), ?_⟩
  rw [State.wakeUp_slots]; exact State.slot_of_slotView after

end

/-- R37: the retiring region of a line is not its current one, whose entry stays. -/
theorem Pool.retired_entry {p : Pool} {ln : Line} (h : ln.retiring ≠ some ln.current) :
    (ln.retiring.toList.foldl Pool.giveBack p).entries[ln.current] = p.entries[ln.current] := by
  cases ho : ln.retiring with
  | none => rfl
  | some o => exact p.giveBack_entry_other fun e => h (by rw [ho, e])

/-- Settles O48: WAKE in its order of steps, each slot, and each line of a slot. -/
theorem wakeDecisionHolds : Obligations.WakeDecision := by
  refine ⟨fun s t p tag htake => ⟨fun hq => ?woken, fun hr => taken_ownCommand htake (wakeDecision_of_ready hr)⟩,
    fun v n => ⟨State.rezeroSlot_of_no_lines, State.rezeroSlot_of_lines⟩, fun v n l ln r a hl ha he hretire => ?line⟩
  case woken =>
    have woken := t.wakeUp_eq
    obtain ⟨hholds, htempo, hmodulation, haudio, hreport, hresults⟩ := t.wakeUp_frame
    refine ⟨_, wakeUp_taken htake hq, ?_⟩
    simp only [State.placeResult_power, State.placeResult_quietGain, State.placeResult_stopped, State.placeResult_quietReport,
      State.placeResult_slots, State.placeResult_pool, State.placeResult_voices, State.placeResult_scenes, State.placeResult_holds,
      State.placeResult_tempo, State.placeResult_modulation, State.placeResult_audio]
    refine ⟨(congrArg State.power woken :), (congrArg State.quietGain woken :), (congrArg State.stopped woken :), hreport, t.wakeUp_slots,
      (congrArg State.pool woken :), t.wakeUp_voice, fun n h => State.wakeUp_atRest h, fun n hne hlen hf hd => ?_, fun n hnil hf => ?_,
      fun k => ?_, hholds, htempo, hmodulation, haudio, ?_⟩
    · obtain ⟨v, hv, hw⟩ := State.wakeUp_slot_of_not_fading hf
      rw [← hv] at hne hlen hd
      rw [hw, ← hv]; exact State.rezeroSlot_of_no_deferred hne hlen hd
    · obtain ⟨v, hv, hw⟩ := State.wakeUp_slot_of_not_fading hf
      rw [← hv] at hnil
      rw [hw, State.rezeroSlot_of_no_lines hnil, hv]
    · rw [t.wakeUp_scene, Scene.swept]; exact if_congr (Scene.mismatched_iff _) rfl rfl
    · rw [State.placeResult_port_same]; exact congrArg (· ++ _) (hresults p)
  case line =>
    intro u back pool kept
    let w := v.lineRested n l ln
    have current : back.entries[ln.current] = some r := (Pool.retired_entry hretire).trans he
    have line : w.slots[n].lines[l.val]? = some ln.rested := State.lineRested_line hl
    have rezeroed : u = (w.settleDeferred n l).updateClamped n := State.rezeroLine_eq hl
    have core : ∀ x : Line, (w.setLine n l x).slotCore n = v.slotCore n := fun x =>
      (State.setLine_slotCore w l x).trans (v.lineRested_slotCore n l ln)
    have lines : ∀ x : Line, (w.setLine n l x).slots[n].lines = v.slots[n].lines.set l.val x := fun x => by
      rw [State.setLine_lines, State.lineRested_lines, List.set_set]
    refine ⟨Pool.rezero_of_zeroing current, Pool.rezero_of_live current, fun hrests => ?_, fun d hd hlt => ?_⟩
    · have eval : u = (w.setLine n l kept).updateClamped n := rezeroed.trans (by rw [State.settleDeferred_rests line hrests]; rfl)
      refine ⟨by rw [eval]; rfl, State.slot_of_lines ?_ ?_⟩
      · rw [eval, State.updateClamped_slotCore]; exact core kept
      · rw [eval, State.updateClamped_lines]; exact lines kept
    · have eval : u = ((w.setLine n l kept).replaceRegion n l d).updateClamped n :=
        rezeroed.trans (by rw [State.settleDeferred_replaces line hd hlt]; rfl)
      have alg : (w.setLine n l kept).slots[n].algorithm = some a := by rw [State.slotCore_slot (core kept)]; exact ha
      have written : (w.setLine n l kept).slots[n].lines[l.val]? = some kept := State.setLine_line line kept
      refine ⟨fun q e hplace => ?_, fun f hplace => ?_⟩
      · rw [State.replaceRegion_placed written alg hplace] at eval
        refine ⟨by rw [eval]; rfl, State.slot_of_lines ?_ ?_⟩
        · rw [eval, State.updateClamped_slotCore, State.setLine_slotCore]; exact core kept
        · rw [eval, State.updateClamped_lines, State.setLine_lines, State.setPool_slots, lines, List.set_set]
      · rw [eval]
        exact State.updateClamped_emptiedFrom _ n
          (State.emptiedFrom_of_slotCore _ n (core kept) (State.replaceRegion_failed written alg hplace))

end Sys2Proof.Machine

namespace Sys2Proof.Machine

/-! ### The Recall Record and the flags through a slot operation (R117, R123) -/

/-- The Recall Record is as it was, and no flag is cleared. -/
structure State.KeepsRecall (s u : State) : Prop where
  record : u.recallRecord = s.recallRecord
  flagged : ∀ f, s.flagged f → u.flagged f

section
variable {s t u : State} {n : SlotId} {l : LineId}

theorem State.KeepsRecall.refl (s : State) : s.KeepsRecall s := ⟨rfl, fun _ h => h⟩

theorem State.KeepsRecall.trans (h : s.KeepsRecall t) (k : t.KeepsRecall u) : s.KeepsRecall u :=
  ⟨k.record.trans h.record, fun f hf => k.flagged f (h.flagged f hf)⟩

/-- The ports and the record untouched. -/
theorem State.KeepsRecall.of_ports (hr : u.recallRecord = s.recallRecord) (hA : u.portA = s.portA) (hB : u.portB = s.portB) :
    s.KeepsRecall u := ⟨hr, fun _ h => State.flagged_of_ports hA hB h⟩

theorem State.KeepsRecall.raiseBoth (s : State) (f : Flag) : s.KeepsRecall (s.raiseBoth f) :=
  ⟨rfl, fun _ h => State.flagged_raiseBoth_of _ f h⟩

theorem State.KeepsRecall.setPool (s : State) (q : Pool) : s.KeepsRecall (s.setPool q) := .of_ports rfl rfl rfl

theorem State.KeepsRecall.setMorph (s : State) (n : SlotId) (x : Option Morph) : s.KeepsRecall (s.setMorph n x) := .of_ports rfl rfl rfl

theorem State.KeepsRecall.setEntry (s : State) (n : SlotId) (x : Option SceneEntry) : s.KeepsRecall (s.setEntry n x) :=
  .of_ports rfl rfl rfl

theorem State.KeepsRecall.endVoice (s : State) (n : SlotId) : s.KeepsRecall (s.endVoice n) := .of_ports rfl rfl rfl

theorem State.KeepsRecall.setSlot (s : State) (n : SlotId) (v : Slot) : s.KeepsRecall (s.setSlot n v) := .of_ports rfl rfl rfl

theorem State.KeepsRecall.updateClamped (s : State) (n : SlotId) : s.KeepsRecall (s.updateClamped n) := .setSlot s n _

theorem State.KeepsRecall.setLine (s : State) (n : SlotId) (l : LineId) (v : Line) : s.KeepsRecall (s.setLine n l v) := .setSlot s n _

/-- R123: a slot that does not wait has nothing to leave. -/
theorem State.leaveWaiting_of_not_waiting (h : slotIn s.recallRecord.waiting n = false) : s.leaveWaiting n = s :=
  if_neg fun ⟨_, hw⟩ => by rw [h] at hw; cases hw

theorem State.recallFailed_of_not_waiting (h : slotIn s.recallRecord.waiting n = false) : s.recallFailed n = s :=
  if_neg fun ⟨_, hw⟩ => by rw [h] at hw; cases hw

theorem State.KeepsRecall.emptySlot (h : slotIn s.recallRecord.waiting n = false) : s.KeepsRecall (s.emptySlot n) := by
  have back : s.KeepsRecall (s.giveBackLines s.slots[n].lines) := .setPool s _
  have cleared : ∀ (w : State) (sl : Slot), w.KeepsRecall ((((w.endVoice n).setSlot n sl).setMorph n none).setEntry n none) :=
    fun w sl => (State.KeepsRecall.endVoice w n).trans ((State.KeepsRecall.setSlot _ n sl).trans
      ((State.KeepsRecall.setMorph _ n none).trans (.setEntry _ n none)))
  have left : ∀ w : State, s.KeepsRecall w → s.KeepsRecall ((w.leaveWaiting n).raiseBoth .slotEmpty) := fun w hw => by
    rw [State.leaveWaiting_of_not_waiting (by rw [hw.record]; exact h)]
    exact hw.trans (.raiseBoth w _)
  unfold State.emptySlot; dsimp only
  exact left _ (back.trans (cleared _ _))

theorem State.KeepsRecall.removeMorph (h : slotIn s.recallRecord.waiting n = false) : s.KeepsRecall (s.removeMorph n) := by
  unfold State.removeMorph; split
  · exact .refl s
  · rw [State.leaveWaiting_of_not_waiting (s := s.setMorph n none) h]
    exact .of_ports rfl rfl rfl

theorem State.KeepsRecall.startGrowth (s : State) (n : SlotId) (l : LineId) (k : Nat) : s.KeepsRecall (s.startGrowth n l k) := by
  unfold State.startGrowth; split
  · split
    · exact .of_ports rfl rfl rfl
    · split
      · exact .of_ports rfl rfl rfl
      · exact (State.KeepsRecall.raiseBoth s .poolShort).trans (.setLine _ n l _)
  · exact .refl s

theorem State.KeepsRecall.replaceRegion (h : slotIn s.recallRecord.waiting n = false) (k : Nat) :
    s.KeepsRecall (s.replaceRegion n l k) := by
  unfold State.replaceRegion; split
  · split
    · exact .of_ports rfl rfl rfl
    · rename_i ln _ _ _ _ _ _
      have short : s.KeepsRecall ((s.setPool (s.pool.giveBack ln.current)).raiseBoth .poolShort) :=
        State.KeepsRecall.trans (State.KeepsRecall.setPool s _) (.raiseBoth _ .poolShort)
      rw [State.recallFailed_of_not_waiting (by rw [short.record]; exact h)]
      exact short.trans (.emptySlot (by rw [short.record]; exact h))
  · exact .refl s

theorem State.KeepsRecall.evalNeed (h : slotIn s.recallRecord.waiting n = false) (l : LineId) : s.KeepsRecall (s.evalNeed n l) := by
  unfold State.evalNeed; split_ifs
  · split
    · split_ifs
      · refine State.KeepsRecall.trans ?_ (.updateClamped _ n)
        unfold State.needAbove; split_ifs
        · exact .replaceRegion h _
        · exact .startGrowth s n l _
        · exact .setLine s n l _
        · exact .refl s
      · exact .updateClamped s n
    · exact .refl s
  · exact .refl s

theorem State.KeepsRecall.evalWritten (h : slotIn s.recallRecord.waiting n = false) (ixs : List ParamIx) :
    s.KeepsRecall (s.evalWritten n ixs) := by
  unfold State.evalWritten; split
  · exact foldl_holds (fun t => s.KeepsRecall t) _ (fun t l ht => ht.trans (.evalNeed (by rw [ht.record]; exact h) l)) _ s (.refl s)
  · exact .refl s

theorem State.KeepsRecall.soundMute (s : State) (n : SlotId) (g : Rat) : s.KeepsRecall (s.soundMute n g) := by
  rw [State.soundMute_eq]; exact .of_ports rfl rfl rfl

theorem State.KeepsRecall.muteSlot (s : State) (n : SlotId) : s.KeepsRecall (s.muteSlot n) := by
  unfold State.muteSlot; split
  · exact (State.KeepsRecall.setSlot s n _).trans (.soundMute _ n 0)
  · exact .setSlot s n _
  · exact .refl s

theorem State.KeepsRecall.unmuteSlot (s : State) (n : SlotId) : s.KeepsRecall (s.unmuteSlot n) := by
  unfold State.unmuteSlot; split
  · exact (State.KeepsRecall.setSlot s n _).trans (.soundMute _ n 1)
  · exact .setSlot s n _
  · exact .refl s

theorem State.KeepsRecall.requestFade (s : State) (n : SlotId) (g : Rat) (k : Nat) : s.KeepsRecall (s.requestFade n g k) := by
  unfold State.requestFade; split_ifs
  · exact .of_ports rfl rfl rfl
  · exact .refl s

theorem State.KeepsRecall.beginFading (h : slotIn s.recallRecord.waiting n = false) (next : Option Alg) :
    s.KeepsRecall (s.beginFading n next) := by
  have removed := (State.KeepsRecall.setSlot s n { s.slots[n] with state := .fading, next := next }).trans (.removeMorph h)
  exact removed.trans ((State.KeepsRecall.requestFade _ n 0 16).trans (.of_ports rfl rfl rfl))

/-! ### The parts of an entry's outcome -/

/-- R119: a slot prepared for an entry. -/
theorem State.KeepsRecall.prepared (s : State) (n : SlotId) (e : SceneEntry) (bank : Bank) (es : List EntryId) :
    s.KeepsRecall ((s.prepare n e.algorithm bank es).takeRouting n e) := .of_ports rfl rfl rfl

theorem State.KeepsRecall.recallRouting (s : State) (n : SlotId) (e : SceneEntry) : s.KeepsRecall (s.recallRouting n e) := by
  have routed : s.KeepsRecall (s.routeSlot n e.sendSet e.returnPair) := .setSlot s n _
  unfold State.recallRouting; dsimp only; split_ifs
  · exact routed.trans (.muteSlot _ n)
  · exact routed.trans (.unmuteSlot _ n)

theorem State.KeepsRecall.makeMorph (h : slotIn s.recallRecord.waiting n = false) (a : Alg) (b : Bank) (k : Nat) :
    s.KeepsRecall (s.makeMorph n a b k) := by
  have written : ∀ m bank, s.KeepsRecall ((s.setMorph n m).writeShadow n bank) := fun _ _ => .of_ports rfl rfl rfl
  unfold State.makeMorph; dsimp only
  exact (written _ _).trans (.evalWritten (by rw [(written _ _).record]; exact h) _)

theorem State.KeepsRecall.cutParams (h : slotIn s.recallRecord.waiting n = false) (b : Bank) : s.KeepsRecall (s.cutParams n b) := by
  have removed := State.KeepsRecall.removeMorph h
  have written := removed.trans (State.KeepsRecall.setSlot _ n { (s.removeMorph n).slots[n] with shadow := b, swapPending := true })
  exact written.trans (.evalWritten (by rw [written.record]; exact h) _)

/-- An entry's outcome: the record and flags are kept, but that a slot applied may join the waiting set. -/
def State.EntryKeeps (s : State) (n : SlotId) (r : EntryOutcome) : Prop :=
  s.KeepsRecall r.1 ∨ r.2 = true ∧ ∃ w : State, s.KeepsRecall w ∧ r.1 = w.joinWaiting n

theorem State.EntryKeeps.joined {w : State} (h : s.KeepsRecall w) : s.EntryKeeps n (w.joinWaiting n, true) := Or.inr ⟨rfl, w, h, rfl⟩

theorem State.EntryKeeps.failed (s : State) (n : SlotId) : s.EntryKeeps n (s, false) := Or.inl (.refl s)

theorem State.EntryKeeps.recallSame (h : slotIn s.recallRecord.waiting n = false) (e : SceneEntry) (k : Nat) :
    s.EntryKeeps n (s.recallSame n e k) := by
  have routed := State.KeepsRecall.recallRouting s n e
  have waiting : slotIn (s.recallRouting n e).recallRecord.waiting n = false := by rw [routed.record]; exact h
  unfold State.recallSame; dsimp only; split_ifs
  · exact .joined (routed.trans (.makeMorph waiting _ _ _))
  · exact Or.inl (routed.trans (.cutParams waiting _))

theorem State.EntryKeeps.recallEmpty (s : State) (n : SlotId) (e : SceneEntry) : s.EntryKeeps n (s.recallEmpty n e) := by
  unfold State.recallEmpty; split_ifs
  · split
    · exact .joined ((State.KeepsRecall.setPool s _).trans (.prepared _ n e _ _))
    · exact .failed s n
  · exact .failed s n

theorem State.EntryKeeps.recallReplace (s : State) (n : SlotId) (e : SceneEntry) : s.EntryKeeps n (s.recallReplace n e) := by
  unfold State.recallReplace; split_ifs
  · split
    · rename_i q es _
      have back : (s.setPool q).KeepsRecall ((s.setPool q).giveBackLines s.slots[n].lines) := .setPool _ _
      exact .joined ((State.KeepsRecall.setPool s q).trans (back.trans (.prepared _ n e _ es)))
    · exact .failed s n
  · exact .failed s n

theorem State.EntryKeeps.recallPreparing (h : slotIn s.recallRecord.waiting n = false) (e : SceneEntry) :
    s.EntryKeeps n (s.recallPreparing n e) := by
  have written : s.KeepsRecall ((s.takeRouting n e).writeShadow n (s.entryBank e)) := .of_ports rfl rfl rfl
  have evaluated := written.trans (.evalWritten (by rw [written.record]; exact h) allParams)
  unfold State.recallPreparing; dsimp only; split_ifs
  · exact .joined evaluated
  · exact Or.inl evaluated

theorem State.EntryKeeps.recallFade (h : slotIn s.recallRecord.waiting n = false) (e : SceneEntry) (old : Alg) :
    s.EntryKeeps n (s.recallFade n e old) := by
  unfold State.recallFade; split_ifs
  · exact .joined ((State.KeepsRecall.beginFading h _).trans (.of_ports rfl rfl rfl))
  · exact .failed s n

theorem State.EntryKeeps.recallFading (s : State) (n : SlotId) (e : SceneEntry) (old : Alg) : s.EntryKeeps n (s.recallFading n e old) := by
  unfold State.recallFading; split_ifs
  · exact .joined (.of_ports rfl rfl rfl)
  · exact .failed s n

/-- R118 to R120: whatever the slot's state. -/
theorem State.EntryKeeps.recallByState {e : SceneEntry} (h : slotIn s.recallRecord.waiting e.slot = false) (k : Nat) :
    s.EntryKeeps e.slot (s.recallByState e k) := by
  unfold State.recallByState; dsimp only; split
  · split_ifs
    · exact .recallPreparing h e
    · exact .recallReplace s _ e
  · split_ifs
    · exact .recallSame h e k
    · exact .recallFade h e _
  · split_ifs
    · exact .recallSame h e k
    · exact .recallFade h e _
  · exact .recallFading s _ e _
  · exact .recallEmpty s _ e

end

/-! ### An entry skipped or taken (R117, R139) -/

section
variable {v t : State} {p : Port} {g : Bool} {steps : Nat} {e : SceneEntry}

/-- R117: the count of an entry that is not skipped. -/
def RecallRecord.counted (r : RecallRecord) (ok : Bool) : RecallRecord :=
  if ok then { r with applied := r.applied + 1 } else { r with failed := r.failed + 1 }

/-- R139: a recall at the port's own address renews its own hold. -/
def State.ownRenewed (t : State) (p : Port) (g : Bool) (n : SlotId) : State := if g then t else t.renew p n

theorem State.recallEntry_of_skips (h : v.skips p g e.slot = true) :
    State.recallEntry p g steps v e = { v with recallRecord := { v.recallRecord with skipped := v.recallRecord.skipped + 1 } } :=
  if_pos h

theorem State.recallEntry_of_not_skips (h : ¬ v.skips p g e.slot = true) : State.recallEntry p g steps v e =
    { (v.recallByState e steps).1.ownRenewed p g e.slot with
      recallRecord := ((v.recallByState e steps).1.ownRenewed p g e.slot).recallRecord.counted (v.recallByState e steps).2 } := by
  unfold State.recallEntry; rw [if_neg h]; dsimp only
  unfold State.ownRenewed
  cases (v.recallByState e steps).2 <;> rfl

/-- R139: the entries skipped. -/
theorem State.skips_iff (n : SlotId) :
    v.skips p g n = true ↔ v.holds[n].holder = some p.other ∨ g = true ∧ v.holds[n].holder = some p := by
  unfold State.skips State.heldByOther
  cases g with
  | false => simp
  | true =>
    cases hh : v.holds[n].holder with
    | none => simp
    | some q => cases p <;> cases q <;> simp [Port.other]

theorem State.ownRenewed_tables (t : State) (p : Port) (g : Bool) (n : SlotId) :
    (t.ownRenewed p g n).slots = t.slots ∧ (t.ownRenewed p g n).morphs = t.morphs ∧ (t.ownRenewed p g n).entries = t.entries
    ∧ (t.ownRenewed p g n).voices = t.voices ∧ (t.ownRenewed p g n).pool = t.pool ∧ (t.ownRenewed p g n).flagsOf = t.flagsOf
    ∧ (t.ownRenewed p g n).recallRecord = t.recallRecord := by
  unfold State.ownRenewed; split_ifs
  · exact ⟨rfl, rfl, rfl, rfl, rfl, rfl, rfl⟩
  · exact ⟨t.renew_slots n p, t.renew_morphs n p, t.renew_entries n p, t.renew_voices n p, t.renew_pool p n, t.renew_flagsOf p n,
      t.renew_recallRecord p n⟩

/-- What an entry taken leaves is its outcome, counted. -/
theorem State.recallEntry_taken {ok : Bool} (h : ¬ v.skips p g e.slot = true) (hr : v.recallByState e steps = (t, ok)) :
    (State.recallEntry p g steps v e).slots = t.slots ∧ (State.recallEntry p g steps v e).morphs = t.morphs
    ∧ (State.recallEntry p g steps v e).entries = t.entries ∧ (State.recallEntry p g steps v e).voices = t.voices
    ∧ (State.recallEntry p g steps v e).pool = t.pool ∧ (State.recallEntry p g steps v e).flagsOf = t.flagsOf
    ∧ (State.recallEntry p g steps v e).recallRecord = t.recallRecord.counted ok := by
  obtain ⟨hslots, hmorphs, hentries, hvoices, hpool, hflags, hrecord⟩ := t.ownRenewed_tables p g e.slot
  rw [State.recallEntry_of_not_skips h, hr]
  exact ⟨hslots, hmorphs, hentries, hvoices, hpool, hflags, congrArg (RecallRecord.counted · ok) hrecord⟩

/-- R117: an entry that fails leaves the rest as it was. -/
theorem State.recallEntry_failed (h : ¬ v.skips p g e.slot = true) (hr : v.recallByState e steps = (v, false)) :
    v.entryFailed (State.recallEntry p g steps v e) := by
  obtain ⟨-, -, -, -, -, -, hrecord⟩ := v.ownRenewed_tables p g e.slot
  rw [State.recallEntry_of_not_skips h, hr]
  refine ⟨congrArg (RecallRecord.counted · false) hrecord, ?_⟩
  unfold State.ownRenewed State.renew
  split_ifs <;> rfl

end

end Sys2Proof.Machine

namespace Sys2Proof.Machine

section
variable {v t w u : State} {n : SlotId} {p : Port} {g : Bool} {steps : Nat} {e : SceneEntry}

/-! ### The other slots -/

theorem State.recallRouting_slotView {m : SlotId} (h : n ≠ m) (v : State) (e : SceneEntry) :
    (v.recallRouting n e).slotView m = v.slotView m := by
  have routed : (v.routeSlot n e.sendSet e.returnPair).slotView m = v.slotView m := v.setSlot_slotView h _
  unfold State.recallRouting; dsimp only; split_ifs
  · rw [State.muteSlot_slotView _ h, routed]
  · rw [State.unmuteSlot_slotView _ h, routed]

theorem State.recallSame_slotView {m : SlotId} (h : n ≠ m) (v : State) (e : SceneEntry) (k : Nat) :
    (v.recallSame n e k).1.slotView m = v.slotView m := by
  have joined : ∀ t : State, (t.joinWaiting n).slotView m = t.slotView m := fun _ => rfl
  unfold State.recallSame; dsimp only; split_ifs
  · unfold State.makeMorph
    rw [joined, State.evalWritten_slotView _ h, State.writeShadow_slotView _ h, State.setMorph_slotView _ h, State.recallRouting_slotView h]
  · unfold State.cutParams
    rw [State.evalWritten_slotView _ h, State.writeShadow_slotView _ h, State.removeMorph_slotView _ h, State.recallRouting_slotView h]

theorem State.recallEmpty_slotView {m : SlotId} (h : n ≠ m) (v : State) (e : SceneEntry) :
    (v.recallEmpty n e).1.slotView m = v.slotView m := by
  have joined : ∀ t : State, (t.joinWaiting n).slotView m = t.slotView m := fun _ => rfl
  unfold State.recallEmpty; split_ifs
  · split
    · rw [joined, State.takeRouting_slotView _ h, State.prepare_slotView _ h, State.setPool_slotView]
    · rfl
  · rfl

theorem State.recallReplace_slotView {m : SlotId} (h : n ≠ m) (v : State) (e : SceneEntry) :
    (v.recallReplace n e).1.slotView m = v.slotView m := by
  have joined : ∀ t : State, (t.joinWaiting n).slotView m = t.slotView m := fun _ => rfl
  unfold State.recallReplace; split_ifs
  · split
    · rw [joined, State.takeRouting_slotView _ h, State.prepare_slotView _ h, State.giveBackLines_slotView, State.setPool_slotView]
    · rfl
  · rfl

theorem State.recallPreparing_slotView {m : SlotId} (h : n ≠ m) (v : State) (e : SceneEntry) :
    (v.recallPreparing n e).1.slotView m = v.slotView m := by
  have joined : ∀ t : State, (t.joinWaiting n).slotView m = t.slotView m := fun _ => rfl
  have evaluated : (((v.takeRouting n e).writeShadow n (v.entryBank e)).evalWritten n allParams).slotView m = v.slotView m := by
    rw [State.evalWritten_slotView _ h, State.writeShadow_slotView _ h, State.takeRouting_slotView _ h]
  unfold State.recallPreparing; dsimp only; split_ifs
  · rw [joined]; exact evaluated
  · exact evaluated

theorem State.recallFade_slotView {m : SlotId} (h : n ≠ m) (v : State) (e : SceneEntry) (old : Alg) :
    (v.recallFade n e old).1.slotView m = v.slotView m := by
  have joined : ∀ t : State, (t.joinWaiting n).slotView m = t.slotView m := fun _ => rfl
  unfold State.recallFade; split_ifs
  · rw [joined, State.setEntry_slotView _ h, State.beginFading_slotView _ h]
  · rfl

theorem State.recallFading_slotView {m : SlotId} (h : n ≠ m) (v : State) (e : SceneEntry) (old : Alg) :
    (v.recallFading n e old).1.slotView m = v.slotView m := by
  have joined : ∀ t : State, (t.joinWaiting n).slotView m = t.slotView m := fun _ => rfl
  unfold State.recallFading; split_ifs
  · rw [joined, State.setEntry_slotView _ h, State.setSlot_slotView _ h]
  · rfl

theorem State.recallByState_slotView {m : SlotId} (h : e.slot ≠ m) (v : State) (k : Nat) :
    (v.recallByState e k).1.slotView m = v.slotView m := by
  unfold State.recallByState; dsimp only; split
  · split_ifs
    · exact v.recallPreparing_slotView h e
    · exact v.recallReplace_slotView h e
  · split_ifs
    · exact v.recallSame_slotView h e k
    · exact v.recallFade_slotView h e _
  · split_ifs
    · exact v.recallSame_slotView h e k
    · exact v.recallFade_slotView h e _
  · exact v.recallFading_slotView h e _
  · exact v.recallEmpty_slotView h e

theorem State.slotView_of_tables {m : SlotId} (hs : u.slots = t.slots) (hm : u.morphs = t.morphs) (he : u.entries = t.entries)
    (hv : u.voices = t.voices) : u.slotView m = t.slotView m := by
  unfold State.slotView; rw [hs, hm, he, hv]

/-- R117: an entry changes no other slot. -/
theorem State.recallEntry_slotView {m : SlotId} (h : e.slot ≠ m) (v : State) :
    (State.recallEntry p g steps v e).slotView m = v.slotView m := by
  by_cases hskip : v.skips p g e.slot = true
  · rw [State.recallEntry_of_skips hskip]; rfl
  · obtain ⟨hslots, hmorphs, hentries, hvoices, -⟩ :=
      State.recallEntry_taken (t := (v.recallByState e steps).1) (steps := steps) hskip rfl
    exact (State.slotView_of_tables hslots hmorphs hentries hvoices).trans (v.recallByState_slotView h steps)

/-! ### An entry by the slot's state (R118 to R120) -/

theorem State.recallByState_empty (h : v.slots[e.slot].state = .empty) : v.recallByState e steps = v.recallEmpty e.slot e := by
  unfold State.recallByState; dsimp only; rw [h]

theorem State.recallByState_own (h : v.slots[e.slot].state = .preparing) (ha : v.slots[e.slot].algorithm = some e.algorithm) :
    v.recallByState e steps = v.recallPreparing e.slot e := by
  unfold State.recallByState; dsimp only; rw [h]; exact if_pos ha

theorem State.recallByState_other (h : v.slots[e.slot].state = .preparing) (ha : v.slots[e.slot].algorithm ≠ some e.algorithm) :
    v.recallByState e steps = v.recallReplace e.slot e := by
  unfold State.recallByState; dsimp only; rw [h]; exact if_neg ha

theorem State.recallByState_sounding {old : Alg} (h : v.slots[e.slot].state = .running ∨ v.slots[e.slot].state = .muted)
    (ha : v.slots[e.slot].algorithm = some old) : v.recallByState e steps
      = if old = e.algorithm then v.recallSame e.slot e steps else v.recallFade e.slot e old := by
  unfold State.recallByState; dsimp only; rw [ha]
  rcases h with h | h <;> rw [h]

theorem State.recallByState_fading {old : Alg} (h : v.slots[e.slot].state = .fading) (ha : v.slots[e.slot].algorithm = some old) :
    v.recallByState e steps = v.recallFading e.slot e old := by
  unfold State.recallByState; dsimp only; rw [h, ha]

/-- R24: whether a slot may come to count so many units. -/
theorem State.loadFits_iff (units : Nat) : v.loadFits n units = true ↔ v.loadTally - v.slots[n].load + units ≤ v.rate.budget :=
  decide_eq_true_iff

/-- R107, R117: an entry's values: those its algorithm lists, the time of a locked entry derived. -/
theorem State.entryBank_eq (v : State) (e : SceneEntry) : v.entryBank e = (let b := e.algorithm.listedOnly e.params
    if (e.algorithm = .tape ∨ e.algorithm = .pingpong) ∧ b[2].toNat ≠ 0 then
      b.set 0 (derivedTime e.algorithm v.tempo.applied b[2].toNat) else b) :=
  if_congr (Alg.locked_iff _ _) rfl rfl

/-! ### An entry whose slot waits (R117) -/

/-- R117: an entry applied, its slot waiting. -/
theorem State.recallEntry_joined (h : ¬ v.skips p g e.slot = true) (hr : v.recallByState e steps = (w.joinWaiting e.slot, true))
    (hk : w.recallRecord = v.recallRecord) :
    (State.recallEntry p g steps v e).slots = w.slots ∧ (State.recallEntry p g steps v e).morphs = w.morphs
    ∧ (State.recallEntry p g steps v e).entries = w.entries ∧ (State.recallEntry p g steps v e).voices = w.voices
    ∧ (State.recallEntry p g steps v e).pool = w.pool
    ∧ (State.recallEntry p g steps v e).recallRecord = v.recallRecord.appliedWaiting e.slot := by
  obtain ⟨hslots, hmorphs, hentries, hvoices, hpool, -, hrecord⟩ := State.recallEntry_taken h hr
  refine ⟨hslots, hmorphs, hentries, hvoices, hpool, hrecord.trans ?_⟩
  rw [← hk]; rfl

/-! ### An entry that prepares the slot (R119) -/

theorem State.recallEmpty_placed {q : Pool} {es : List EntryId} (hfit : v.loadFits n e.algorithm.load = true)
    (hq : v.allocateEntry n e = .ok (q, es)) : v.recallEmpty n e =
      ((((v.setPool q).prepare n e.algorithm (v.entryBank e) es).takeRouting n e).joinWaiting n, true) := by
  unfold State.recallEmpty; rw [if_pos hfit, hq]

theorem State.recallReplace_placed {q : Pool} {es : List EntryId} (hfit : v.loadFits n e.algorithm.load = true)
    (hq : v.allocateEntry n e = .ok (q, es)) : v.recallReplace n e =
      (((((v.setPool q).giveBackLines v.slots[n].lines).prepare n e.algorithm (v.entryBank e) es).takeRouting n e).joinWaiting n,
        true) := by
  unfold State.recallReplace; rw [if_pos hfit, hq]

theorem State.recallEmpty_failed (h : (∃ f, v.allocateEntry n e = .error f) ∨ ¬ v.loadFits n e.algorithm.load = true) :
    v.recallEmpty n e = (v, false) := by
  unfold State.recallEmpty; split_ifs with hfit
  · obtain ⟨f, hf⟩ := h.resolve_right (not_not_intro hfit)
    rw [hf]
  · rfl

theorem State.recallReplace_failed (h : (∃ f, v.allocateEntry n e = .error f) ∨ ¬ v.loadFits n e.algorithm.load = true) :
    v.recallReplace n e = (v, false) := by
  unfold State.recallReplace; split_ifs with hfit
  · obtain ⟨f, hf⟩ := h.resolve_right (not_not_intro hfit)
    rw [hf]
  · rfl

/-- R119: the record of a slot prepared for an entry. -/
theorem State.prepared_slot (w : State) (n : SlotId) (e : SceneEntry) (bank : Bank) (es : List EntryId) :
    ((w.prepare n e.algorithm bank es).takeRouting n e).slots[n] = { w.slots[n] with
      state := .preparing, algorithm := some e.algorithm, next := none, sendSet := e.sendSet, returnPair := e.returnPair,
      active := e.algorithm.defaults, shadow := bank, swapPending := true, lines := newLines es, clamped := false,
      muteWanted := e.mute } := by
  unfold State.takeRouting
  rw [State.setSlot_slots, table_get_set_self, State.prepare_slot]

theorem State.takeRouting_slot (v : State) (n : SlotId) (e : SceneEntry) : (v.takeRouting n e).slots[n] =
    { v.slots[n] with sendSet := e.sendSet, returnPair := e.returnPair, muteWanted := e.mute } := table_get_set_self _ _ _

/-! ### An entry on a PREPARING slot of its own algorithm (R52, R119) -/

/-- R3: an emptied slot has no algorithm's work left. -/
def State.cleared (v : State) (n : SlotId) : Prop := v.slots[n].state = .empty ∧ v.morphs[n] = none ∧ v.entries[n] = none

theorem State.emptySlot_cleared (v : State) (n : SlotId) : (v.emptySlot n).cleared n :=
  ⟨State.emptySlot_state v, v.emptySlot_morph n, v.emptySlot_entry n⟩

theorem State.replaceRegion_cleared (v : State) (n : SlotId) (l : LineId) (k : Nat) :
    (v.replaceRegion n l k).slotCore n = v.slotCore n ∨ (v.replaceRegion n l k).cleared n := by
  unfold State.replaceRegion; split
  · split
    · exact Or.inl ((State.setLine_slotCore _ l _).trans (State.setPool_slotCore _ _))
    · exact Or.inr (State.emptySlot_cleared _ n)
  · exact Or.inl rfl

theorem State.needAbove_cleared (v : State) (n : SlotId) (l : LineId) (ln : Line) (k : Nat) :
    (v.needAbove n l ln k).slotCore n = v.slotCore n ∨ (v.needAbove n l ln k).cleared n := by
  unfold State.needAbove; split_ifs
  · exact v.replaceRegion_cleared n l k
  · exact Or.inl (v.startGrowth_slotCore l k)
  · exact Or.inl (v.setLine_slotCore l _)
  · exact Or.inl rfl

/-- The clamped flag is no part of what is cleared. -/
theorem State.updateClamped_cleared (h : v.cleared n) : (v.updateClamped n).cleared n := by
  obtain ⟨hstate, hmorph, hentry⟩ := h
  exact ⟨(State.slotCore_state (State.updateClamped_slotCore v)).trans hstate, hmorph, hentry⟩

theorem State.evalNeed_cleared (v : State) (n : SlotId) (l : LineId) :
    (v.evalNeed n l).slotCore n = v.slotCore n ∨ (v.evalNeed n l).cleared n := by
  unfold State.evalNeed; split_ifs
  · split
    · split_ifs
      · rcases v.needAbove_cleared n l _ (v.need n l) with h | h
        · exact Or.inl ((State.updateClamped_slotCore _).trans h)
        · exact Or.inr (State.updateClamped_cleared h)
      · exact Or.inl (State.updateClamped_slotCore v)
    · exact Or.inl rfl
  · exact Or.inl rfl

theorem State.evalWritten_cleared (v : State) (n : SlotId) (ixs : List ParamIx) :
    (v.evalWritten n ixs).slotCore n = v.slotCore n ∨ (v.evalWritten n ixs).cleared n := by
  unfold State.evalWritten; split
  · refine foldl_holds (fun t => t.slotCore n = v.slotCore n ∨ t.cleared n) _ (fun t l ht => ?_) _ v (Or.inl rfl)
    rcases ht with ht | ht
    · exact (t.evalNeed_cleared n l).imp_left fun h => h.trans ht
    · exact Or.inr (by rw [t.evalNeed_of_empty l ht.1]; exact ht)
  · exact Or.inl rfl

/-- R52: a replacement that fails clears the slot. -/
theorem State.evalWritten_cleared_of_fails {ixs : List ParamIx} (hs : v.slots[n].state ≠ .empty) (h : v.evaluationFails n ixs) :
    (v.evalWritten n ixs).cleared n := by
  have emptied : (v.evalWritten n ixs).slots[n].state = .empty := by rw [(v.evalWritten_of_fails n h).1]; rfl
  refine (v.evalWritten_cleared n ixs).resolve_left fun core => hs ?_
  rw [← State.slotCore_state core, emptied]

/-- R119: the slot's record with an entry's routing and values. -/
theorem State.written_slot (v : State) (n : SlotId) (e : SceneEntry) (bank : Bank) :
    ((v.takeRouting n e).writeShadow n bank).slots[n] = { v.slots[n] with
      sendSet := e.sendSet, returnPair := e.returnPair, muteWanted := e.mute, shadow := bank, swapPending := true } := by
  rw [State.writeShadow_slot, State.takeRouting_slot]

theorem State.recallPreparing_applied
    (h : (((v.takeRouting n e).writeShadow n (v.entryBank e)).evalWritten n allParams).slots[n].state = .preparing) :
    v.recallPreparing n e = ((((v.takeRouting n e).writeShadow n (v.entryBank e)).evalWritten n allParams).joinWaiting n, true) := if_pos h

theorem State.recallPreparing_failed
    (h : (((v.takeRouting n e).writeShadow n (v.entryBank e)).evalWritten n allParams).slots[n].state ≠ .preparing) :
    v.recallPreparing n e = (((v.takeRouting n e).writeShadow n (v.entryBank e)).evalWritten n allParams, false) := if_neg h

/-! ### An entry on a RUNNING or MUTED slot of its own algorithm (R118, R124) -/

theorem State.muteSlot_slot (h : v.slots[n].state = .running ∨ v.slots[n].state = .muted) : (v.muteSlot n).slots[n] =
    { v.slots[n] with state := .muted, muteWanted := (v.muteSlot n).slots[n].muteWanted } := by
  rcases h with h | h
  · rw [State.muteSlot_running h, table_get_set_self]
  · have same : v.muteSlot n = v := by unfold State.muteSlot; rw [h]
    rw [same, ← h]

theorem State.unmuteSlot_slot (h : v.slots[n].state = .running ∨ v.slots[n].state = .muted) : (v.unmuteSlot n).slots[n] =
    { v.slots[n] with state := .running, muteWanted := (v.unmuteSlot n).slots[n].muteWanted } := by
  rcases h with h | h
  · have same : v.unmuteSlot n = v := by unfold State.unmuteSlot; rw [h]
    rw [same, ← h]
  · rw [State.unmuteSlot_muted h, table_get_set_self]

/-- R118: the slot's record once an entry's routing and mute wanted are applied. -/
theorem State.recallRouting_slot (h : v.slots[n].state = .running ∨ v.slots[n].state = .muted) (e : SceneEntry) :
    (v.recallRouting n e).slots[n] = { v.slots[n] with
      sendSet := e.sendSet, returnPair := e.returnPair, state := if e.mute then .muted else .running,
      muteWanted := (v.recallRouting n e).slots[n].muteWanted } := by
  have routed : (v.routeSlot n e.sendSet e.returnPair).slots[n] = { v.slots[n] with sendSet := e.sendSet, returnPair := e.returnPair } :=
    table_get_set_self _ _ _
  have sounding : (v.routeSlot n e.sendSet e.returnPair).slots[n].state = .running
      ∨ (v.routeSlot n e.sendSet e.returnPair).slots[n].state = .muted := by rw [routed]; exact h
  cases hm : e.mute with
  | true =>
    have muted : v.recallRouting n e = (v.routeSlot n e.sendSet e.returnPair).muteSlot n := if_pos hm
    rw [muted, State.muteSlot_slot sounding, routed]; rfl
  | false =>
    have unmuted : v.recallRouting n e = (v.routeSlot n e.sendSet e.returnPair).unmuteSlot n := if_neg (by rw [hm]; nofun)
    rw [unmuted, State.unmuteSlot_slot sounding, routed]; rfl

theorem State.recallRouting_not_preparing (h : v.slots[n].state = .running ∨ v.slots[n].state = .muted) (e : SceneEntry) :
    (v.recallRouting n e).slots[n].state ≠ .preparing := by
  rw [State.recallRouting_slot h]; dsimp only; split_ifs <;> nofun

/-- R124: a copied position takes its source. -/
theorem Bank.copy_get (b source : Bank) (ixs : List ParamIx) (ix : ParamIx) :
    (b.copy source ixs)[ix] = if ix ∈ ixs then source[ix] else b[ix] := foldl_set_get (fun i => source[i]) ixs ix b

/-- R124: the indices a morph leaves still. -/
theorem mem_stillSet {a : Alg} {moves : List ParamIx} (ix : ParamIx) :
    ix ∈ allParams.filter (fun k => a.lists k && !moves.contains k) ↔ a.lists ix = true ∧ ix ∉ moves := by
  simp [List.mem_filter, mem_allParams]

/-- R124: what making a morph leaves of the slot and of its morph entry. -/
theorem State.makeMorph_spec (h : v.slots[n].state ≠ .preparing) (a : Alg) (bank : Bank) (k : Nat) :
    (v.makeMorph n a bank k).slots[n] = { v.slots[n] with
      shadow := (v.makeMorph n a bank k).slots[n].shadow, swapPending := true, lines := (v.makeMorph n a bank k).slots[n].lines,
      clamped := (v.makeMorph n a bank k).slots[n].clamped }
    ∧ (v.makeMorph n a bank k).morphs[n] = some
        { start := v.slots[n].active, target := bank, total := k, done := 0, morphing := paramSet (a.morphingSet v.slots[n].active bank) }
    ∧ ∀ ix : ParamIx, (v.makeMorph n a bank k).slots[n].shadow[ix] =
        if a.lists ix = true ∧ ix ∉ a.morphingSet v.slots[n].active bank then bank[ix] else v.slots[n].shadow[ix] := by
  unfold State.makeMorph; dsimp only
  generalize hmoves : a.morphingSet v.slots[n].active bank = moves
  generalize hstill : allParams.filter (fun k => a.lists k && !moves.contains k) = still
  generalize hw : (v.setMorph n (some
      { start := v.slots[n].active, target := bank, total := k, done := 0, morphing := paramSet moves })).writeShadow n
        (v.slots[n].shadow.copy bank still) = w
  have slot : w.slots[n] = { v.slots[n] with shadow := v.slots[n].shadow.copy bank still, swapPending := true } := by
    rw [← hw, State.writeShadow_slot]; rfl
  have morph : w.morphs[n] = some { start := v.slots[n].active, target := bank, total := k, done := 0, morphing := paramSet moves } := by
    rw [← hw]; exact table_get_set_self _ _ _
  have core := w.evalWritten_slotCore (n := n) (by rw [slot]; exact h) still
  have evaluated := State.slotCore_slot core
  rw [slot] at evaluated
  have shadow : (w.evalWritten n still).slots[n].shadow = v.slots[n].shadow.copy bank still := by rw [evaluated]
  refine ⟨by rw [shadow]; exact evaluated, (congrArg (·.2.1) core).trans morph, fun ix => ?_⟩
  rw [shadow, Bank.copy_get, ← hstill]
  exact if_congr (mem_stillSet ix) rfl rfl

/-- R118: what a cut leaves of the slot and of its morph entry. -/
theorem State.cutParams_spec (h : v.slots[n].state ≠ .preparing) (bank : Bank) :
    (v.cutParams n bank).slots[n] = { v.slots[n] with
      shadow := bank, swapPending := true, lines := (v.cutParams n bank).slots[n].lines,
      clamped := (v.cutParams n bank).slots[n].clamped }
    ∧ (v.cutParams n bank).morphs[n] = none := by
  have written := State.ShadowWritten.removed v n bank
  have safe : ¬ ((v.removeMorph n).writeShadow n bank).evaluationFails n allParams :=
    State.not_evaluationFails (by rw [written.slot]; exact h)
  obtain ⟨hslot, hmorph, -⟩ := written.evaluated safe
  exact ⟨hslot, hmorph.trans (v.removeMorph_morph n)⟩

theorem State.recallSame_morphs (h : 1 ≤ steps ∧ e.algorithm.morphingSet (v.recallRouting n e).slots[n].active (v.entryBank e) ≠ []) :
    v.recallSame n e steps = (((v.recallRouting n e).makeMorph n e.algorithm (v.entryBank e) steps).joinWaiting n, true) := if_pos h

theorem State.recallSame_cuts
    (h : ¬ (1 ≤ steps ∧ e.algorithm.morphingSet (v.recallRouting n e).slots[n].active (v.entryBank e) ≠ [])) :
    v.recallSame n e steps = ((v.recallRouting n e).cutParams n (v.entryBank e), true) := if_neg h

/-! ### An entry that waits for a fade (R120) -/

/-- R9: what starting an end fade leaves of the slot. -/
theorem State.beginFading_fades (v : State) (n : SlotId) (next : Option Alg) : v.endFadeFrom (v.beginFading n next) n next := by
  have h := State.beginFading_endFadeFrom (s := v) (p := .a) n next ⟨0, 0, .done, []⟩
  unfold State.endFadeFrom State.sameSlotsBut at h ⊢
  simpa only [State.answered, State.placeResult_slots, State.placeResult_morphs, State.placeResult_entries, State.placeResult_voices,
    State.placeResult_pool, State.renew_slots, State.renew_morphs, State.renew_entries, State.renew_voices, State.renew_pool] using h

theorem State.recallFade_taken {old : Alg} (h : v.loadFits n (max old.load e.algorithm.load) = true) :
    v.recallFade n e old = (((v.beginFading n (some e.algorithm)).setEntry n (some e)).joinWaiting n, true) := if_pos h

theorem State.recallFade_failed {old : Alg} (h : ¬ v.loadFits n (max old.load e.algorithm.load) = true) :
    v.recallFade n e old = (v, false) := if_neg h

theorem State.recallFading_taken {old : Alg} (h : v.loadFits n (max old.load e.algorithm.load) = true) : v.recallFading n e old =
    (((v.setSlot n { v.slots[n] with next := some e.algorithm }).setEntry n (some e)).joinWaiting n, true) := if_pos h

theorem State.recallFading_failed {old : Alg} (h : ¬ v.loadFits n (max old.load e.algorithm.load) = true) :
    v.recallFading n e old = (v, false) := if_neg h

end

end Sys2Proof.Machine

namespace Sys2Proof.Machine

/-! ### What an entry leaves of its slot (R117 to R120) -/

section
variable {v : State} {p : Port} {g : Bool} {steps : Nat} {e : SceneEntry} (hskip : ¬ v.skips p g e.slot = true)
include hskip

/-- R119: an EMPTY slot is prepared at the entry's sizes. -/
theorem State.recallEntry_empty_placed {q : Pool} {es : List EntryId} (hs : v.slots[e.slot].state = .empty)
    (hfit : v.loadFits e.slot e.algorithm.load = true) (hq : v.allocateEntry e.slot e = .ok (q, es)) :
    (State.recallEntry p g steps v e).slots[e.slot] = { v.slots[e.slot] with
      state := .preparing, algorithm := some e.algorithm, next := none, sendSet := e.sendSet, returnPair := e.returnPair,
      active := e.algorithm.defaults, shadow := v.entryBank e, swapPending := true, lines := newLines es, clamped := false,
      muteWanted := e.mute }
    ∧ (State.recallEntry p g steps v e).pool = q
    ∧ (State.recallEntry p g steps v e).recallRecord = v.recallRecord.appliedWaiting e.slot := by
  have outcome := (State.recallByState_empty (steps := steps) hs).trans (State.recallEmpty_placed hfit hq)
  obtain ⟨hslots, -, -, -, hpool, hrecord⟩ :=
    State.recallEntry_joined hskip outcome (State.KeepsRecall.prepared (v.setPool q) e.slot e (v.entryBank e) es).record
  rw [hslots]
  exact ⟨State.prepared_slot _ _ e _ es, hpool, hrecord⟩

/-- R119: a PREPARING slot of another algorithm is prepared anew, its old regions back. -/
theorem State.recallEntry_other_placed {q : Pool} {es : List EntryId} (hs : v.slots[e.slot].state = .preparing)
    (ha : v.slots[e.slot].algorithm ≠ some e.algorithm) (hfit : v.loadFits e.slot e.algorithm.load = true)
    (hq : v.allocateEntry e.slot e = .ok (q, es)) :
    (State.recallEntry p g steps v e).slots[e.slot] = { v.slots[e.slot] with
      state := .preparing, algorithm := some e.algorithm, next := none, sendSet := e.sendSet, returnPair := e.returnPair,
      active := e.algorithm.defaults, shadow := v.entryBank e, swapPending := true, lines := newLines es, clamped := false,
      muteWanted := e.mute }
    ∧ (State.recallEntry p g steps v e).pool = (v.slots[e.slot].lines.flatMap Line.regions).foldl Pool.giveBack q
    ∧ (State.recallEntry p g steps v e).recallRecord = v.recallRecord.appliedWaiting e.slot := by
  have outcome := (State.recallByState_other (steps := steps) hs ha).trans (State.recallReplace_placed hfit hq)
  obtain ⟨hslots, -, -, -, hpool, hrecord⟩ := State.recallEntry_joined hskip outcome
    (State.KeepsRecall.prepared ((v.setPool q).giveBackLines v.slots[e.slot].lines) e.slot e (v.entryBank e) es).record
  rw [hslots]
  exact ⟨State.prepared_slot _ _ e _ es, hpool, hrecord⟩

/-- R119: an entry that cannot be placed, or whose load does not fit, fails. -/
theorem State.recallEntry_not_placed (hs : v.slots[e.slot].state = .empty
      ∨ v.slots[e.slot].state = .preparing ∧ v.slots[e.slot].algorithm ≠ some e.algorithm)
    (h : (∃ f, v.allocateEntry e.slot e = .error f) ∨ ¬ v.loadFits e.slot e.algorithm.load = true) :
    v.entryFailed (State.recallEntry p g steps v e) := by
  refine State.recallEntry_failed hskip ?_
  rcases hs with hs | ⟨hs, ha⟩
  · rw [State.recallByState_empty hs, State.recallEmpty_failed h]
  · rw [State.recallByState_other hs ha, State.recallReplace_failed h]

/-- R52, R119: a PREPARING slot of the entry's algorithm takes its values and replaces its regions. -/
theorem State.recallEntry_own_applied (hwait : slotIn v.recallRecord.waiting e.slot = false) (hs : v.slots[e.slot].state = .preparing)
    (ha : v.slots[e.slot].algorithm = some e.algorithm)
    (hf : ¬ ((v.takeRouting e.slot e).writeShadow e.slot (v.entryBank e)).evaluationFails e.slot allParams) :
    let w := (v.takeRouting e.slot e).writeShadow e.slot (v.entryBank e)
    (State.recallEntry p g steps v e).slots[e.slot] = { v.slots[e.slot] with
      sendSet := e.sendSet, returnPair := e.returnPair, muteWanted := e.mute, shadow := v.entryBank e, swapPending := true,
      lines := (w.evalWritten e.slot allParams).slots[e.slot].lines, clamped := (w.evalWritten e.slot allParams).slots[e.slot].clamped }
    ∧ (State.recallEntry p g steps v e).pool = (w.evalWritten e.slot allParams).pool
    ∧ (State.recallEntry p g steps v e).recallRecord = v.recallRecord.appliedWaiting e.slot := by
  intro w
  have wslot := v.written_slot e.slot e (v.entryBank e)
  have slot := State.slotCore_slot (w.evalWritten_of_not_fails e.slot hf)
  rw [wslot] at slot
  have outcome := (State.recallByState_own (steps := steps) hs ha).trans (State.recallPreparing_applied (by rw [slot]; exact hs))
  have kept : v.KeepsRecall w := .of_ports rfl rfl rfl
  have record : (w.evalWritten e.slot allParams).recallRecord = v.recallRecord :=
    (kept.trans (.evalWritten (by rw [kept.record]; exact hwait) allParams)).record
  obtain ⟨hslots, -, -, -, hpool, hrecord⟩ := State.recallEntry_joined hskip outcome record
  rw [hslots]
  exact ⟨slot, hpool, hrecord⟩

/-- R52, R119: where a replacement cannot be placed the slot is emptied and the entry counted failed. -/
theorem State.recallEntry_own_failed (hwait : slotIn v.recallRecord.waiting e.slot = false) (hs : v.slots[e.slot].state = .preparing)
    (ha : v.slots[e.slot].algorithm = some e.algorithm)
    (hf : ((v.takeRouting e.slot e).writeShadow e.slot (v.entryBank e)).evaluationFails e.slot allParams) :
    let w := (v.takeRouting e.slot e).writeShadow e.slot (v.entryBank e)
    w.emptiedFrom (State.recallEntry p g steps v e) e.slot ∧ (State.recallEntry p g steps v e).morphs[e.slot] = none
    ∧ (State.recallEntry p g steps v e).entries[e.slot] = none
    ∧ (State.recallEntry p g steps v e).pool = (w.evalWritten e.slot allParams).pool
    ∧ (State.recallEntry p g steps v e).recallRecord = { v.recallRecord with failed := v.recallRecord.failed + 1 } := by
  intro w
  obtain ⟨hslot, hshort, hempty⟩ := w.evalWritten_of_fails e.slot hf
  have wslot := v.written_slot e.slot e (v.entryBank e)
  have present : w.slots[e.slot].state ≠ .empty := by rw [wslot, hs]; nofun
  obtain ⟨hstate, hmorph, hentry⟩ := State.evalWritten_cleared_of_fails present hf
  have outcome := (State.recallByState_own (steps := steps) hs ha).trans (State.recallPreparing_failed (by rw [hstate]; nofun))
  have kept : v.KeepsRecall w := .of_ports rfl rfl rfl
  have record : (w.evalWritten e.slot allParams).recallRecord = v.recallRecord :=
    (kept.trans (.evalWritten (by rw [kept.record]; exact hwait) allParams)).record
  obtain ⟨hslots, hmorphs, hentries, -, hpool, hflags, hrecord⟩ := State.recallEntry_taken hskip outcome
  refine ⟨⟨by rw [hslots]; exact hslot, State.flagged_of_flagsOf hflags hshort, State.flagged_of_flagsOf hflags hempty⟩,
    by rw [hmorphs]; exact hmorph, by rw [hentries]; exact hentry, hpool, ?_⟩
  rw [hrecord, record]; rfl

/-- R118, R124: a RUNNING or MUTED slot of the entry's algorithm is given a morph. -/
theorem State.recallEntry_morphs (hwait : slotIn v.recallRecord.waiting e.slot = false)
    (hs : v.slots[e.slot].state = .running ∨ v.slots[e.slot].state = .muted) (ha : v.slots[e.slot].algorithm = some e.algorithm)
    (hsteps : 1 ≤ steps) (hmoves : e.algorithm.morphingSet v.slots[e.slot].active (v.entryBank e) ≠ []) :
    let t := v.recallRouting e.slot e
    let u := State.recallEntry p g steps v e
    let moves := e.algorithm.morphingSet v.slots[e.slot].active (v.entryBank e)
    u.slots[e.slot] = { t.slots[e.slot] with
      shadow := u.slots[e.slot].shadow, swapPending := true, lines := u.slots[e.slot].lines, clamped := u.slots[e.slot].clamped }
    ∧ u.morphs[e.slot] = some
        { start := v.slots[e.slot].active, target := v.entryBank e, total := steps, done := 0, morphing := paramSet moves }
    ∧ (∀ ix : ParamIx, u.slots[e.slot].shadow[ix] =
        if e.algorithm.lists ix = true ∧ ix ∉ moves then (v.entryBank e)[ix] else v.slots[e.slot].shadow[ix])
    ∧ u.recallRecord = v.recallRecord.appliedWaiting e.slot := by
  intro t u moves
  have routed := State.recallRouting_slot hs e
  have active : t.slots[e.slot].active = v.slots[e.slot].active := (congrArg Slot.active routed :)
  have shadow : t.slots[e.slot].shadow = v.slots[e.slot].shadow := (congrArg Slot.shadow routed :)
  have outcome : v.recallByState e steps = ((t.makeMorph e.slot e.algorithm (v.entryBank e) steps).joinWaiting e.slot, true) := by
    rw [State.recallByState_sounding hs ha, if_pos rfl]
    exact State.recallSame_morphs ⟨hsteps, by rw [active]; exact hmoves⟩
  have kept := State.KeepsRecall.recallRouting v e.slot e
  have record := (kept.trans (.makeMorph (by rw [kept.record]; exact hwait) e.algorithm (v.entryBank e) steps)).record
  obtain ⟨hslots, hmorphs, -, -, -, hrecord⟩ := State.recallEntry_joined hskip outcome record
  obtain ⟨hslot, hmorph, hshadow⟩ := State.makeMorph_spec (State.recallRouting_not_preparing hs e) e.algorithm (v.entryBank e) steps
  rw [active] at hmorph hshadow
  rw [shadow] at hshadow
  refine ⟨?_, by rw [hmorphs]; exact hmorph, fun ix => ?_, hrecord⟩
  · rw [hslots]; exact hslot
  · rw [hslots]; exact hshadow ix

/-- R118: with no step to make or nothing to move, the values are cut in. -/
theorem State.recallEntry_cuts (hwait : slotIn v.recallRecord.waiting e.slot = false)
    (hs : v.slots[e.slot].state = .running ∨ v.slots[e.slot].state = .muted) (ha : v.slots[e.slot].algorithm = some e.algorithm)
    (h : steps = 0 ∨ e.algorithm.morphingSet v.slots[e.slot].active (v.entryBank e) = []) :
    let t := v.recallRouting e.slot e
    let u := State.recallEntry p g steps v e
    u.slots[e.slot] = { t.slots[e.slot] with
      shadow := v.entryBank e, swapPending := true, lines := u.slots[e.slot].lines, clamped := u.slots[e.slot].clamped }
    ∧ u.morphs[e.slot] = none ∧ u.recallRecord = { v.recallRecord with applied := v.recallRecord.applied + 1 } := by
  intro t u
  have active : t.slots[e.slot].active = v.slots[e.slot].active := (congrArg Slot.active (State.recallRouting_slot hs e) :)
  have outcome : v.recallByState e steps = (t.cutParams e.slot (v.entryBank e), true) := by
    rw [State.recallByState_sounding hs ha, if_pos rfl]
    refine State.recallSame_cuts fun ⟨hsteps, hmoves⟩ => ?_
    rw [active] at hmoves
    exact h.elim (fun h0 => by omega) hmoves
  have kept := State.KeepsRecall.recallRouting v e.slot e
  have record := (kept.trans (.cutParams (by rw [kept.record]; exact hwait) (v.entryBank e))).record
  obtain ⟨hslots, hmorphs, -, -, -, -, hrecord⟩ := State.recallEntry_taken hskip outcome
  obtain ⟨hslot, hmorph⟩ := State.cutParams_spec (State.recallRouting_not_preparing hs e) (v.entryBank e)
  refine ⟨?_, by rw [hmorphs]; exact hmorph, ?_⟩
  · rw [hslots]; exact hslot
  · rw [hrecord, record]; rfl

/-- R120: a RUNNING or MUTED slot of another algorithm fades, the entry pending. -/
theorem State.recallEntry_fades {old : Alg} (hwait : slotIn v.recallRecord.waiting e.slot = false)
    (hs : v.slots[e.slot].state = .running ∨ v.slots[e.slot].state = .muted) (ha : v.slots[e.slot].algorithm = some old)
    (hne : old ≠ e.algorithm) (hfit : v.loadFits e.slot (max old.load e.algorithm.load) = true) :
    let u := State.recallEntry p g steps v e
    u.slots[e.slot] = { v.slots[e.slot] with state := .fading, next := some e.algorithm } ∧ u.entries[e.slot] = some e
    ∧ u.morphs[e.slot] = none ∧ u.pool = v.pool ∧ u.recallRecord = v.recallRecord.appliedWaiting e.slot
    ∧ u.voices[e.slot] = { v.voices[e.slot] with
        inputOpen := false,
        fade := if v.voices[e.slot].begun then some { start := v.voices[e.slot].gain, target := 0, length := 16, left := 16 }
                else v.voices[e.slot].fade } := by
  intro u
  have outcome : v.recallByState e steps =
      (((v.beginFading e.slot (some e.algorithm)).setEntry e.slot (some e)).joinWaiting e.slot, true) := by
    rw [State.recallByState_sounding hs ha, if_neg hne, State.recallFade_taken hfit]
  have kept := State.KeepsRecall.beginFading hwait (some e.algorithm)
  have record := (kept.trans (.setEntry _ e.slot (some e))).record
  obtain ⟨hslots, hmorphs, hentries, hvoices, hpool, hrecord⟩ := State.recallEntry_joined hskip outcome record
  obtain ⟨hslot, hmorph, -, hvoice, hpool', -⟩ := v.beginFading_fades e.slot (some e.algorithm)
  refine ⟨by rw [hslots]; exact hslot, ?_, by rw [hmorphs]; exact hmorph, hpool.trans hpool', hrecord, by rw [hvoices]; exact hvoice⟩
  rw [hentries]; exact table_get_set_self _ _ _

/-- R120: on a FADING slot the entry replaces what follows. -/
theorem State.recallEntry_fading {old : Alg} (hs : v.slots[e.slot].state = .fading) (ha : v.slots[e.slot].algorithm = some old)
    (hfit : v.loadFits e.slot (max old.load e.algorithm.load) = true) :
    let u := State.recallEntry p g steps v e
    u.slots[e.slot] = { v.slots[e.slot] with next := some e.algorithm } ∧ u.entries[e.slot] = some e ∧ u.morphs = v.morphs
    ∧ u.pool = v.pool ∧ u.voices = v.voices ∧ u.recallRecord = v.recallRecord.appliedWaiting e.slot := by
  intro u
  have outcome := (State.recallByState_fading (steps := steps) hs ha).trans (State.recallFading_taken hfit)
  have record := ((State.KeepsRecall.setSlot v e.slot { v.slots[e.slot] with next := some e.algorithm }).trans
    (.setEntry _ e.slot (some e))).record
  obtain ⟨hslots, hmorphs, hentries, hvoices, hpool, hrecord⟩ := State.recallEntry_joined hskip outcome record
  refine ⟨?_, ?_, hmorphs, hpool, hvoices, hrecord⟩
  · rw [hslots]; exact table_get_set_self _ _ _
  · rw [hentries]; exact table_get_set_self _ _ _

/-- R24, R120: an entry that would need a fade fails where the larger load does not fit. -/
theorem State.recallEntry_no_fade {old : Alg}
    (hs : ((v.slots[e.slot].state = .running ∨ v.slots[e.slot].state = .muted) ∧ old ≠ e.algorithm)
      ∨ v.slots[e.slot].state = .fading) (ha : v.slots[e.slot].algorithm = some old)
    (hfit : ¬ v.loadFits e.slot (max old.load e.algorithm.load) = true) : v.entryFailed (State.recallEntry p g steps v e) := by
  refine State.recallEntry_failed hskip ?_
  rcases hs with ⟨hs, hne⟩ | hs
  · rw [State.recallByState_sounding hs ha, if_neg hne, State.recallFade_failed hfit]
  · rw [State.recallByState_fading hs ha, State.recallFading_failed hfit]

end

end Sys2Proof.Machine

namespace Sys2Proof.Machine

/-! ### The entries of a scene, one after the other (R117, R122, R123) -/

section
variable {v w : State} {p : Port} {g : Bool} {steps : Nat} {e : SceneEntry}

/-- What no entry changes: the surroundings but for the holds. -/
def State.recallFrame (s : State) : State := s.surroundings.outsideHolds

theorem State.ownRenewed_recallFrame (t : State) (p : Port) (g : Bool) (n : SlotId) : (t.ownRenewed p g n).recallFrame = t.recallFrame := by
  unfold State.ownRenewed State.recallFrame; split_ifs
  · rfl
  · rw [State.renew_surroundings, State.renew_outsideHolds]

theorem State.recallEntry_recallFrame (v : State) (e : SceneEntry) : (State.recallEntry p g steps v e).recallFrame = v.recallFrame := by
  by_cases h : v.skips p g e.slot = true
  · rw [State.recallEntry_of_skips h]; rfl
  · rw [State.recallEntry_of_not_skips h]
    refine Eq.trans (State.ownRenewed_recallFrame (v.recallByState e steps).1 p g e.slot) ?_
    exact congrArg State.outsideHolds (v.recallByState_surroundings e steps)

/-- R137: a hold renewed keeps its holder. -/
theorem State.renew_holder (t : State) (p : Port) (n m : SlotId) : (t.renew p n).holds[m].holder = t.holds[m].holder := by
  unfold State.renew; split_ifs with h
  · refine (congrArg Hold.holder (table_get_set t.holds n m { holder := some p, count := (t.port p).lease })).trans ?_
    split_ifs with hm
    · subst hm; exact h.symm
    · rfl
  · rfl

theorem State.recallEntry_holder (v : State) (e : SceneEntry) (m : SlotId) :
    (State.recallEntry p g steps v e).holds[m].holder = v.holds[m].holder := by
  by_cases h : v.skips p g e.slot = true
  · rw [State.recallEntry_of_skips h]
  · have outcome : (v.recallByState e steps).1.holds = v.holds := (congrArg State.holds (v.recallByState_surroundings e steps) :)
    have renewed : ((v.recallByState e steps).1.ownRenewed p g e.slot).holds[m].holder = (v.recallByState e steps).1.holds[m].holder := by
      unfold State.ownRenewed; split_ifs
      · rfl
      · exact State.renew_holder _ p e.slot m
    rw [State.recallEntry_of_not_skips h]
    exact renewed.trans (by rw [outcome])

/-- R117, R122: the record after one entry: skipped, failed or applied, its slot waiting or not. -/
def RecallRecord.entered (r r' : RecallRecord) (skip : Bool) (n : SlotId) : Prop :=
  if skip then r' = { r with skipped := r.skipped + 1 }
  else r' = { r with applied := r.applied + 1 } ∨ r' = { r with failed := r.failed + 1 } ∨ r' = r.appliedWaiting n

/-- R117: an entry whose slot does not wait yet is counted once, and clears no flag. -/
theorem State.recallEntry_entered (h : slotIn v.recallRecord.waiting e.slot = false) :
    v.recallRecord.entered (State.recallEntry p g steps v e).recallRecord (v.skips p g e.slot) e.slot
    ∧ ∀ f, v.flagged f → (State.recallEntry p g steps v e).flagged f := by
  unfold RecallRecord.entered
  by_cases hskip : v.skips p g e.slot = true
  · rw [if_pos hskip, State.recallEntry_of_skips hskip]
    exact ⟨rfl, fun _ hf => hf⟩
  · obtain ⟨-, -, -, -, -, hflags, hrecord⟩ :=
      State.recallEntry_taken (t := (v.recallByState e steps).1) (ok := (v.recallByState e steps).2) hskip rfl
    rw [if_neg hskip, hrecord]
    rcases State.EntryKeeps.recallByState h steps with kept | ⟨hok, w, kept, hw⟩
    · refine ⟨?_, fun f hf => State.flagged_of_flagsOf hflags (kept.flagged f hf)⟩
      rw [kept.record]
      cases (v.recallByState e steps).2
      · exact Or.inr (Or.inl rfl)
      · exact Or.inl rfl
    · refine ⟨Or.inr (Or.inr ?_), fun f hf => State.flagged_of_flagsOf hflags ?_⟩
      · rw [hw, hok, ← kept.record]; rfl
      · rw [hw]; exact State.flagged_of_ports rfl rfl (kept.flagged f hf)

/-- The bit of a slot is no other slot's. -/
theorem slotIn_bit_other : ∀ n m : SlotId, n ≠ m → slotIn (1#16 <<< n.val) m = false := by unfold slotIn; decide +kernel

/-- R123: a slot that joins the waiting set is the only one to do so. -/
theorem slotIn_join {waiting : SlotSet} {n m : SlotId} (hne : n ≠ m) (h : slotIn waiting m = false) :
    slotIn (waiting ||| (1#16 <<< n.val)) m = false := by
  have bit := slotIn_bit_other n m hne
  unfold slotIn at h bit ⊢
  rw [BitVec.getLsbD_or, h, bit]; rfl

theorem RecallRecord.entered_waiting {r r' : RecallRecord} {skip : Bool} {n m : SlotId} (h : r.entered r' skip n) (hne : n ≠ m)
    (hw : slotIn r.waiting m = false) : slotIn r'.waiting m = false := by
  unfold RecallRecord.entered at h
  split_ifs at h
  · rw [h]; exact hw
  · rcases h with h | h | h
    · rw [h]; exact hw
    · rw [h]; exact hw
    · rw [h]; exact slotIn_join hne hw

/-- R122: what an entry leaves of the record, and the one it counts. -/
theorem RecallRecord.entered_frame {r r' : RecallRecord} {skip : Bool} {n : SlotId} (h : r.entered r' skip n) :
    (r'.state = r.state ∧ r'.scene = r.scene ∧ r'.origin = r.origin ∧ r'.lastAborted = r.lastAborted)
    ∧ r'.applied + r'.skipped + r'.failed = r.applied + r.skipped + r.failed + 1
    ∧ r'.skipped = r.skipped + if skip then 1 else 0 := by
  unfold RecallRecord.entered at h
  split_ifs at h with hskip
  · rw [h, if_pos hskip]; exact ⟨⟨rfl, rfl, rfl, rfl⟩, by dsimp only; omega, rfl⟩
  · rw [if_neg hskip]
    rcases h with h | h | h
    · rw [h]; exact ⟨⟨rfl, rfl, rfl, rfl⟩, by dsimp only; omega, rfl⟩
    · rw [h]; exact ⟨⟨rfl, rfl, rfl, rfl⟩, by dsimp only; omega, rfl⟩
    · rw [h]; exact ⟨⟨rfl, rfl, rfl, rfl⟩, by simp only [RecallRecord.appliedWaiting]; omega, rfl⟩

/-- R117, R122: what deciding a scene's entries leaves: each counted once, those skipped by the holders before, no flag cleared. -/
structure State.EntriesDecided (p : Port) (g : Bool) (es : List SceneEntry) (s w : State) : Prop where
  frame : w.recallFrame = s.recallFrame
  holder : ∀ n : SlotId, w.holds[n].holder = s.holds[n].holder
  record : w.recallRecord.state = s.recallRecord.state ∧ w.recallRecord.scene = s.recallRecord.scene
    ∧ w.recallRecord.origin = s.recallRecord.origin ∧ w.recallRecord.lastAborted = s.recallRecord.lastAborted
  counted : w.recallRecord.applied + w.recallRecord.skipped + w.recallRecord.failed
    = s.recallRecord.applied + s.recallRecord.skipped + s.recallRecord.failed + es.length
  skipped : w.recallRecord.skipped = s.recallRecord.skipped + (es.filter fun e => s.skips p g e.slot).length
  flagged : ∀ f, s.flagged f → w.flagged f

theorem State.skips_of_holder {s t : State} (h : ∀ n : SlotId, t.holds[n].holder = s.holds[n].holder) (n : SlotId) :
    t.skips p g n = s.skips p g n := by
  unfold State.skips State.heldByOther; rw [h n]

theorem State.entriesDecided (p : Port) (g : Bool) (steps : Nat) (es : List SceneEntry) : ∀ s : State,
    (es.Pairwise fun a b => a.slot < b.slot) → (∀ e ∈ es, slotIn s.recallRecord.waiting e.slot = false) →
    s.EntriesDecided p g es (es.foldl (State.recallEntry p g steps) s) := by
  induction es with
  | nil => exact fun s _ _ => ⟨rfl, fun _ => rfl, ⟨rfl, rfl, rfl, rfl⟩, rfl, rfl, fun _ h => h⟩
  | cons e es ih =>
    intro s hsorted hwait
    obtain ⟨hlater, hrest⟩ := List.pairwise_cons.mp hsorted
    let t := State.recallEntry p g steps s e
    obtain ⟨entered, flags⟩ := State.recallEntry_entered (p := p) (g := g) (steps := steps) (hwait e List.mem_cons_self)
    obtain ⟨⟨hstate, hscene, horigin, haborted⟩, hcounted, hskipped⟩ := RecallRecord.entered_frame entered
    have holder : ∀ n : SlotId, t.holds[n].holder = s.holds[n].holder := s.recallEntry_holder e
    have after := ih t hrest fun x hx =>
      RecallRecord.entered_waiting entered (ne_of_lt (hlater x hx)) (hwait x (List.mem_cons_of_mem e hx))
    obtain ⟨hstate', hscene', horigin', haborted'⟩ := after.record
    have skips : (es.filter fun x => t.skips p g x.slot) = es.filter fun x => s.skips p g x.slot :=
      List.filter_congr fun x _ => State.skips_of_holder holder x.slot
    refine ⟨after.frame.trans (s.recallEntry_recallFrame e), fun n => (after.holder n).trans (holder n),
      ⟨hstate'.trans hstate, hscene'.trans hscene, horigin'.trans horigin, haborted'.trans haborted⟩, ?_, ?_,
      fun f hf => after.flagged f (flags f hf)⟩
    · rw [List.foldl_cons, after.counted, hcounted, List.length_cons]; omega
    · rw [List.foldl_cons, after.skipped, hskipped, skips, List.filter_cons]
      split_ifs
      · rw [List.length_cons]; omega
      · omega

end

/-! ### The tempo a scene offers (R91, R116) -/

section
variable {s : State} {v : Nat}

/-- R76, R91: the control tempo written while CONTROL is the source mode. -/
theorem State.writeControl_of_control (h : s.tempo.mode = .control) (v : Nat) :
    (s.writeControl v).tempo.control = v ∧ (s.writeControl v).tempo.source = .control ∧ (s.writeControl v).tempo.applied = v
    ∧ (s.writeControl v).tempo.lastPropagated =
        (if v ≠ s.tempo.applied ∧ 5 ≤ (v - s.tempo.lastPropagated) + (s.tempo.lastPropagated - v) then v
          else s.tempo.lastPropagated) := by
  let u : TempoUnit := { s.tempo with control := v }
  have choice : u.choice = .control := by unfold TempoUnit.choice; rw [show u.mode = .control from h]
  have written : (s.writeControl v).tempo = ({ u with source := .control } : TempoUnit).withApplied v := by
    have evaluated : (s.writeControl v).tempo = u.reevaluated := State.reevaluate_tempo _
    rw [evaluated]; unfold TempoUnit.reevaluated; rw [choice]; rfl
  rw [written]; unfold TempoUnit.withApplied tempoDistance
  split_ifs with h1 h2 h2
  · exact absurd h1 (not_or.mpr ⟨h2.1, not_lt.mpr h2.2⟩)
  · exact ⟨rfl, rfl, rfl, rfl⟩
  · exact ⟨rfl, rfl, rfl, rfl⟩
  · obtain ⟨hne, hfar⟩ := not_or.mp h1
    exact absurd ⟨hne, not_lt.mp hfar⟩ h2

theorem State.offerTempo_outsideTempo (s : State) (tempo : Option Nat) : (s.offerTempo tempo).1.outsideTempo = s.outsideTempo := by
  unfold State.offerTempo; split
  · rfl
  · split_ifs
    · exact State.writeControl_outsideTempo _ _
    · rfl

theorem State.offerTempo_flagged {f : Flag} (h : s.flagged f) (tempo : Option Nat) : (s.offerTempo tempo).1.flagged f := by
  unfold State.offerTempo; split
  · exact h
  · split_ifs
    · exact State.reevaluate_flagged _ (State.flagged_of_ports rfl rfl h)
    · exact h

theorem State.offerTempo_none (s : State) : s.offerTempo none = (s, .none) := rfl

theorem State.offerTempo_ignored (h : s.tempo.mode ≠ .control) (v : Nat) : s.offerTempo (some v) = (s, .ignored) := if_neg h

theorem State.offerTempo_taken (h : s.tempo.mode = .control) (v : Nat) : s.offerTempo (some v) = (s.writeControl v, .taken) := if_pos h

end

end Sys2Proof.Machine

namespace Sys2Proof.Machine

/-! ### The recall decision (R115, R116, R122, R128) -/

section
variable {t : State} {p : Port} {g : Bool} {k : SceneId} {time : Option Nat}

/-- R115, R116: the recall opened and the scene's tempo offered, with the tempo mark. -/
def State.recallOffered (t : State) (p : Port) (g : Bool) (k : SceneId) : State × TempoMark :=
  (t.abortRecall.openRecall k (recallOrigin p g)).offerTempo t.scenes[k].tempo

/-- R117: every entry decided. -/
def State.recallSettled (t : State) (p : Port) (g : Bool) (k : SceneId) (time : Option Nat) : State :=
  t.scenes[k].entries.foldl (State.recallEntry p g (t.rate.blocks (time.getD t.scenes[k].morphTime))) (t.recallOffered p g k).1

/-- R122: a record with no slot waiting is DONE at once, and the Clear Engine takes up the jobs. -/
def State.recallFinished (w : State) : State := (if w.recallRecord.waiting = 0 then w.recallDone else w).startClearing

theorem State.carryOutRecall_eq (t : State) (p : Port) (g : Bool) (k : SceneId) (time : Option Nat) : t.carryOutRecall p g k time =
    let u := (t.recallSettled p g k time).recallFinished
    ⟨u, .accepted, [BitVec.ofNat 8 u.recallRecord.applied, BitVec.ofNat 8 u.recallRecord.skipped,
      BitVec.ofNat 8 u.recallRecord.failed, (t.recallOffered p g k).2.code]⟩ := rfl

theorem recallDecision_of_empty {b0 b1 b2 : Byte} (hq : t.power ≠ .quiet) (hk : sceneField b0 = some k)
    (ht : recallMorphField b1 b2 = some time) (hs : t.scenes[k].state = .empty) :
    recallDecision p g [b0, b1, b2] t = t.refuse .empty := by
  unfold recallDecision; dsimp only
  rw [if_neg hq, hk, ht]; dsimp only; rw [hs]

theorem recallDecision_of_valid {b0 b1 b2 : Byte} (hq : t.power ≠ .quiet) (hk : sceneField b0 = some k)
    (ht : recallMorphField b1 b2 = some time) (hs : t.scenes[k].state = .valid) (hc : t.scenes[k].check = t.scenes[k].freshCheck) :
    recallDecision p g [b0, b1, b2] t = t.carryOutRecall p g k time := by
  have sound : ¬ t.scenes[k].mismatched = true := fun h => ((Scene.mismatched_iff _).mp h).2 hc
  unfold recallDecision; dsimp only
  rw [if_neg hq, hk, ht]; dsimp only; rw [hs]; exact if_neg sound

/-- R122, R128: the record a recall opens. -/
theorem State.openRecall_record (t : State) (k : SceneId) (o : Origin) : (t.abortRecall.openRecall k o).recallRecord =
    { state := .running, scene := some k, origin := o, applied := 0, skipped := 0, failed := 0, waiting := 0,
      lastAborted := if t.recallRecord.state = .running then t.recallRecord.scene else t.recallRecord.lastAborted } := by
  unfold State.abortRecall
  by_cases h : t.recallRecord.state = .running
  · rw [if_pos h, if_pos h]; rfl
  · rw [if_neg h, if_neg h]; rfl

/-- R128: a RUNNING recall is reported when it is aborted. -/
theorem State.abortRecall_flagged (h : t.recallRecord.state = .running) : t.abortRecall.flagged .recallDone := by
  unfold State.abortRecall; rw [if_pos h]; exact State.flagged_raiseBoth _ _

theorem State.recallOffered_outsideTempo (t : State) (p : Port) (g : Bool) (k : SceneId) :
    (t.recallOffered p g k).1.outsideTempo = (t.abortRecall.openRecall k (recallOrigin p g)).outsideTempo :=
  State.offerTempo_outsideTempo _ _

theorem State.recallOffered_record (t : State) (p : Port) (g : Bool) (k : SceneId) :
    (t.recallOffered p g k).1.recallRecord = (t.abortRecall.openRecall k (recallOrigin p g)).recallRecord :=
  (congrArg State.recallRecord (t.recallOffered_outsideTempo p g k) :)

/-- R115: what a recall leaves alone before its entries. -/
theorem State.recallOffered_frame (t : State) (p : Port) (g : Bool) (k : SceneId) :
    (t.recallOffered p g k).1.scenes = t.scenes ∧ (t.recallOffered p g k).1.audio = t.audio
    ∧ (t.recallOffered p g k).1.modulation = t.modulation ∧ (t.recallOffered p g k).1.power = t.power
    ∧ (t.recallOffered p g k).1.holds = t.holds ∧ ∀ q : Port, ((t.recallOffered p g k).1.port q).results = (t.port q).results := by
  have offered := t.recallOffered_outsideTempo p g k
  have opened : (t.abortRecall.openRecall k (recallOrigin p g)).surroundings = t.surroundings := by
    rw [State.openRecall_surroundings, State.abortRecall_surroundings]
  refine ⟨?_, ?_, ?_, ?_, ?_, fun q => ?_⟩
  · exact (congrArg State.scenes offered :).trans (congrArg State.scenes opened :)
  · exact (congrArg State.audio offered :).trans (congrArg State.audio opened :)
  · exact (congrArg State.modulation offered :).trans (congrArg State.modulation opened :)
  · exact (congrArg State.power offered :).trans (congrArg State.power opened :)
  · exact (congrArg State.holds offered :).trans (congrArg State.holds opened :)
  · refine Eq.trans ?_ (State.results_of_surroundings opened q)
    cases q
    · exact (congrArg (fun w => w.portA.results) offered :)
    · exact (congrArg (fun w => w.portB.results) offered :)

/-- R117: the entries of the scene, decided on the opened recall. -/
theorem State.recallSettled_decided (hsorted : t.scenes[k].entries.Pairwise fun a b => a.slot < b.slot) :
    (t.recallOffered p g k).1.EntriesDecided p g t.scenes[k].entries (t.recallSettled p g k time) := by
  refine State.entriesDecided p g _ _ _ hsorted fun e _ => ?_
  rw [State.recallOffered_record, State.openRecall_record]
  exact BitVec.getLsbD_zero

/-- R122: what the end of the decision leaves alone. -/
theorem State.recallFinished_frame (w : State) :
    w.recallFinished.slots = w.slots ∧ w.recallFinished.morphs = w.morphs ∧ w.recallFinished.entries = w.entries
    ∧ w.recallFinished.voices = w.voices ∧ w.recallFinished.pool = w.pool.startJob ∧ w.recallFinished.holds = w.holds
    ∧ w.recallFinished.recallFrame = w.recallFrame := by
  unfold State.recallFinished; split_ifs <;> exact ⟨rfl, rfl, rfl, rfl, rfl, rfl, rfl⟩

theorem State.recallFinished_record (w : State) : w.recallFinished.recallRecord =
    { w.recallRecord with state := if w.recallRecord.waiting = 0 then .done else w.recallRecord.state } := by
  unfold State.recallFinished; split_ifs <;> rfl

/-- R122: RECALL_DONE is raised with nothing waiting, and no flag is cleared. -/
theorem State.recallFinished_flagged {w : State} {f : Flag} (h : w.flagged f) : w.recallFinished.flagged f := by
  unfold State.recallFinished; split_ifs
  · exact State.flagged_of_ports rfl rfl (State.flagged_raiseBoth_of w .recallDone h)
  · exact State.flagged_of_ports rfl rfl h

theorem State.recallFinished_recallDone {w : State} (h : w.recallRecord.waiting = 0) : w.recallFinished.flagged .recallDone := by
  unfold State.recallFinished; rw [if_pos h]
  exact State.flagged_of_ports rfl rfl (State.flagged_raiseBoth w .recallDone)

/-- What the entries and the end of the decision leave alone. -/
theorem State.fields_of_recallFrame {s u : State} (h : u.recallFrame = s.recallFrame) :
    u.tempo = s.tempo ∧ u.scenes = s.scenes ∧ u.audio = s.audio ∧ u.modulation = s.modulation ∧ u.power = s.power
    ∧ ∀ q : Port, (u.port q).results = (s.port q).results := by
  refine ⟨(congrArg State.tempo h :), (congrArg State.scenes h :), (congrArg State.audio h :), (congrArg State.modulation h :),
    (congrArg State.power h :), fun q => ?_⟩
  cases q
  · exact (congrArg (fun w => w.portA.results) h :)
  · exact (congrArg (fun w => w.portB.results) h :)

/-- R116: the tempo unit of the opened recall is the one before it. -/
theorem State.openRecall_tempo (t : State) (k : SceneId) (o : Origin) : (t.abortRecall.openRecall k o).tempo = t.tempo := by
  unfold State.abortRecall; split_ifs <;> rfl

/-- R115, R116: a scene without a tempo, or a source mode that is not CONTROL, leaves the Tempo Unit. -/
theorem State.recallOffered_none (h : t.scenes[k].tempo = none) :
    (t.recallOffered p g k).2.code = 0 ∧ (t.recallOffered p g k).1.tempo = t.tempo := by
  unfold State.recallOffered; rw [h]
  exact ⟨rfl, t.openRecall_tempo k _⟩

theorem State.recallOffered_ignored {v : Nat} (h : t.scenes[k].tempo = some v) (hm : t.tempo.mode ≠ .control) :
    (t.recallOffered p g k).2.code = 2 ∧ (t.recallOffered p g k).1.tempo = t.tempo := by
  unfold State.recallOffered
  rw [h, State.offerTempo_ignored (by rw [State.openRecall_tempo]; exact hm)]
  exact ⟨rfl, t.openRecall_tempo k _⟩

theorem State.recallOffered_taken {v : Nat} (h : t.scenes[k].tempo = some v) (hm : t.tempo.mode = .control) :
    (t.recallOffered p g k).2.code = 1 ∧ (t.recallOffered p g k).1.tempo.control = v
    ∧ (t.recallOffered p g k).1.tempo.source = .control ∧ (t.recallOffered p g k).1.tempo.applied = v
    ∧ (t.recallOffered p g k).1.tempo.lastPropagated =
        (if v ≠ t.tempo.applied ∧ 5 ≤ (v - t.tempo.lastPropagated) + (t.tempo.lastPropagated - v) then v
          else t.tempo.lastPropagated) := by
  have mode : (t.abortRecall.openRecall k (recallOrigin p g)).tempo.mode = .control := by rw [State.openRecall_tempo]; exact hm
  have written := State.writeControl_of_control mode v
  rw [State.openRecall_tempo] at written
  unfold State.recallOffered
  rw [h, State.offerTempo_taken mode]
  exact ⟨rfl, written⟩

/-- R139: the entries that a recall skips are those whose slot is held. -/
theorem State.skips_eq (s : State) (p : Port) (g : Bool) (n : SlotId) :
    s.skips p g n = (s.holds[n].holder == some p.other || g && s.holds[n].holder == some p) := by
  rw [Bool.eq_iff_iff, State.skips_iff]; simp

/-- R122: the record a recall leaves. -/
theorem State.recalled_record (hsorted : t.scenes[k].entries.Pairwise fun a b => a.slot < b.slot) :
    let r := (t.recallSettled p g k time).recallFinished.recallRecord
    r.scene = some k ∧ r.origin = recallOrigin p g ∧ r.applied + r.skipped + r.failed = t.scenes[k].entries.length
    ∧ r.skipped = (t.scenes[k].entries.filter fun e =>
        t.holds[e.slot].holder == some p.other || g && t.holds[e.slot].holder == some p).length
    ∧ r.state = (if r.waiting = 0 then .done else .running)
    ∧ r.lastAborted = (if t.recallRecord.state = .running then t.recallRecord.scene else t.recallRecord.lastAborted) := by
  intro r
  have decided := State.recallSettled_decided (p := p) (g := g) (time := time) hsorted
  have before := (t.recallOffered_record p g k).trans (t.openRecall_record k _)
  obtain ⟨hstate, hscene, horigin, haborted⟩ := decided.record
  have hcounted := decided.counted
  have hskipped := decided.skipped
  rw [before] at hstate hscene horigin haborted hcounted hskipped
  obtain ⟨-, -, -, -, holds, -⟩ := t.recallOffered_frame p g k
  simp only [State.skips_eq, holds] at hskipped
  have record : r = _ := State.recallFinished_record _
  rw [record]
  refine ⟨hscene, horigin, hcounted.trans (Nat.zero_add _), hskipped.trans (Nat.zero_add _), ?_, haborted⟩
  dsimp only; rw [hstate]

/-- R115: what a recall leaves of the rest, but for the slots. -/
theorem State.recalled_frame (hsorted : t.scenes[k].entries.Pairwise fun a b => a.slot < b.slot) :
    let u := (t.recallSettled p g k time).recallFinished
    u.tempo = (t.recallOffered p g k).1.tempo ∧ u.scenes = t.scenes ∧ u.audio = t.audio ∧ u.modulation = t.modulation
    ∧ u.power = t.power ∧ (∀ n : SlotId, u.holds[n].holder = t.holds[n].holder)
    ∧ ∀ q : Port, (u.port q).results = (t.port q).results := by
  intro u
  have decided := State.recallSettled_decided (p := p) (g := g) (time := time) hsorted
  obtain ⟨-, -, -, -, -, hholds, hframe⟩ := (t.recallSettled p g k time).recallFinished_frame
  obtain ⟨htempo, hscenes, haudio, hmodulation, hpower, hresults⟩ := State.fields_of_recallFrame (hframe.trans decided.frame)
  obtain ⟨hscenes', haudio', hmodulation', hpower', hholds', hresults'⟩ := t.recallOffered_frame p g k
  have holder : ∀ n : SlotId, u.holds[n].holder = t.holds[n].holder := fun n => by rw [hholds, decided.holder n, hholds']
  exact ⟨htempo, hscenes.trans hscenes', haudio.trans haudio', hmodulation.trans hmodulation', hpower.trans hpower', holder,
    fun q => (hresults q).trans (hresults' q)⟩

/-- R122, R128: a recall aborted before it, or one DONE at once, is reported. -/
theorem State.recalled_flagged (hsorted : t.scenes[k].entries.Pairwise fun a b => a.slot < b.slot)
    (h : (t.recallSettled p g k time).recallFinished.recallRecord.waiting = 0 ∨ t.recallRecord.state = .running) :
    (t.recallSettled p g k time).recallFinished.flagged .recallDone := by
  rcases h with h | h
  · rw [State.recallFinished_record] at h
    exact State.recallFinished_recallDone h
  · have opened : (t.abortRecall.openRecall k (recallOrigin p g)).flagged .recallDone :=
      State.flagged_of_ports rfl rfl (State.abortRecall_flagged h)
    exact State.recallFinished_flagged
      ((State.recallSettled_decided hsorted).flagged _ (State.offerTempo_flagged opened t.scenes[k].tempo))

end

/-- Settles O22: a RECALL counts every entry of its scene once, and each entry is decided by the state of its slot. -/
theorem recallCountsEveryEntry : Obligations.RecallCountsEveryEntry := by
  refine ⟨fun s t p tag b0 b1 b2 g k time htake hq hk ht => ⟨fun hs => ?empty, fun hs hc hsorted => ?decision⟩,
    fun v p g steps e => ?entry⟩
  case empty => exact taken_as htake (recallDecision_of_empty hq hk ht hs)
  case decision =>
    intro origin opened steps settled
    have horigin : recallOrigin p g = origin := by cases p <;> cases g <;> rfl
    have hsettled : t.recallSettled p g k time = settled := by
      unfold State.recallSettled State.recallOffered; rw [horigin]; rfl
    have run := taken_as htake ((recallDecision_of_valid hq hk ht hs hc).trans (t.carryOutRecall_eq p g k time))
    have record := State.recalled_record (p := p) (g := g) (time := time) hsorted
    have frame := State.recalled_frame (p := p) (g := g) (time := time) hsorted
    have done := State.recalled_flagged (p := p) (g := g) (time := time) hsorted
    rw [hsettled] at run record frame done
    rw [horigin] at record
    obtain ⟨hslots, hmorphs, hentries, hvoices, hpool, -⟩ := settled.recallFinished_frame
    generalize settled.recallFinished = w at *
    obtain ⟨hscene, horigin', hcounted, hskipped, hstate, haborted⟩ := record
    obtain ⟨htempo, hscenes, haudio, hmodulation, hpower, hholder, hresults⟩ := frame
    refine ⟨_, (t.recallOffered p g k).2.code, run, ?_⟩
    simp only [State.placeResult_slots, State.placeResult_morphs, State.placeResult_entries, State.placeResult_voices,
      State.placeResult_pool, State.placeResult_recallRecord, State.placeResult_tempo, State.placeResult_scenes,
      State.placeResult_audio, State.placeResult_modulation, State.placeResult_power, State.placeResult_port_same]
    refine ⟨hslots, hmorphs, hentries, hvoices, hpool, hscene, horigin', hcounted, hskipped, hstate, haborted,
      fun h => State.flagged_of_flagsOf (State.placeResult_flagsOf w p _) (done h), fun hn => ?_, fun x hx hm => ?_, fun x hx hm => ?_,
      hscenes, haudio, hmodulation, hpower, fun n => ?_, by rw [hresults p]⟩
    · exact (State.recallOffered_none hn).imp_right htempo.trans
    · exact (State.recallOffered_ignored hx hm).imp_right htempo.trans
    · rw [htempo]; exact State.recallOffered_taken hx hm
    · exact (congrArg (fun held : Vector Hold 16 => held[n].holder) (State.placeResult_holds w p _)).trans (hholder n)
  case entry =>
    intro n u skip bank fits request waits prepared
    refine ⟨State.sameSlotsBut_of_slotView fun m hm => v.recallEntry_slotView hm, v.entryBank_eq e,
      fun h => State.recallEntry_of_skips ((State.skips_iff n).mpr h), fun hskip hwait => ?_⟩
    have taken : ¬ v.skips p g e.slot = true := mt (State.skips_iff n).mp hskip
    have loads : ∀ units, fits units → v.loadFits n units = true := fun units h => (State.loadFits_iff units).mpr h
    have unfit : ∀ units, ¬ fits units → ¬ v.loadFits n units = true := fun units h => mt (State.loadFits_iff units).mp h
    refine ⟨fun hs => ⟨fun q es hfit hq => ?_, fun h => ?_⟩, fun hs ha => ⟨fun hf => ?_, fun hf => ?_⟩,
      fun hs ha => ⟨fun q es hfit hq => ?_, fun h => ?_⟩, fun hs ha => ?_, fun old hs ha hne => ⟨fun hfit => ?_, fun hfit => ?_⟩,
      fun old hs ha => ⟨fun hfit => ?_, fun hfit => ?_⟩⟩
    · exact State.recallEntry_empty_placed taken hs (loads _ hfit) hq
    · exact State.recallEntry_not_placed taken (Or.inl hs) (h.imp_right (unfit _))
    · exact State.recallEntry_own_applied taken hwait hs ha hf
    · exact State.recallEntry_own_failed taken hwait hs ha hf
    · exact State.recallEntry_other_placed taken hs ha (loads _ hfit) hq
    · exact State.recallEntry_not_placed taken (Or.inr ⟨hs, ha⟩) (h.imp_right (unfit _))
    · intro moves
      have routed := State.recallRouting_slot hs e
      have shared : ∀ x : Slot, u.slots[n] = { (v.recallRouting n e).slots[n] with
            shadow := x.shadow, swapPending := true, lines := x.lines, clamped := x.clamped } →
          u.slots[n].sendSet = e.sendSet ∧ u.slots[n].returnPair = e.returnPair
          ∧ u.slots[n].state = (if e.mute then .muted else .running) ∧ u.slots[n].active = v.slots[n].active
          ∧ u.slots[n].swapPending = true := fun x hx => by
        rw [hx, routed]; exact ⟨rfl, rfl, rfl, rfl, rfl⟩
      by_cases h : 1 ≤ steps ∧ moves ≠ []
      · obtain ⟨hslot, hmorph, hshadow, hrecord⟩ := State.recallEntry_morphs taken hwait hs ha h.1 h.2
        obtain ⟨hsend, hpair, hstate, hactive, hswap⟩ := shared u.slots[n] hslot
        exact ⟨hsend, hpair, hstate, hactive, hswap, fun _ _ => ⟨hmorph, hshadow, hrecord⟩,
          fun hcut => absurd hcut (not_or.mpr ⟨Nat.one_le_iff_ne_zero.mp h.1, h.2⟩)⟩
      · have hcut : steps = 0 ∨ moves = [] := by
          rcases not_and_or.mp h with h | h
          · exact Or.inl (Nat.lt_one_iff.mp (not_le.mp h))
          · exact Or.inr (not_not.mp h)
        obtain ⟨hslot, hmorph, hrecord⟩ := State.recallEntry_cuts taken hwait hs ha hcut
        obtain ⟨hsend, hpair, hstate, hactive, hswap⟩ := shared { u.slots[n] with shadow := v.entryBank e } hslot
        exact ⟨hsend, hpair, hstate, hactive, hswap, fun hsteps hmoves => absurd ⟨hsteps, hmoves⟩ h,
          fun _ => ⟨hmorph, congrArg Slot.shadow hslot, hrecord⟩⟩
    · exact State.recallEntry_fades taken hwait hs ha hne (loads _ hfit)
    · exact State.recallEntry_no_fade taken (Or.inl ⟨hs, hne⟩) ha (unfit _ hfit)
    · exact State.recallEntry_fading taken hs ha (loads _ hfit)
    · exact State.recallEntry_no_fade taken (Or.inr hs) ha (unfit _ hfit)

end Sys2Proof.Machine

namespace Sys2Proof.Machine

/-! ### Gains and fades within 0 to 1 (R60, R63, R68) -/

theorem gainOk_zero : gainOk 0 := ⟨le_rfl, zero_le_one⟩
theorem gainOk_one : gainOk 1 := ⟨zero_le_one, le_rfl⟩

/-- A voice whose gain and fade stay within 0 to 1. -/
def Voice.gainsOk (v : Voice) : Prop := gainOk v.gain ∧ ∀ f ∈ v.fade, f.ok

/-- A return gain that stays within 0 to 1 with its fade. -/
def GainFade.gainsOk (g : GainFade) : Prop := gainOk g.value ∧ ∀ f ∈ g.fade, f.ok

theorem State.gainsOk_iff (s : State) :
    s.gainsOk ↔ (∀ n : SlotId, (s.voices[n]).gainsOk) ∧ s.supplyGain.gainsOk ∧ s.quietGain.gainsOk := Iff.rfl

/-- The point a part `t` of the way from one gain to another is a gain. -/
theorem gainOk_between {a b t : Rat} (ha : gainOk a) (hb : gainOk b) (h0 : 0 ≤ t) (h1 : t ≤ 1) : gainOk (a + (b - a) * t) := by
  obtain ⟨ha0, ha1⟩ := ha
  obtain ⟨hb0, hb1⟩ := hb
  constructor <;> nlinarith

theorem newFade_ok {a b : Rat} {k : Nat} (ha : gainOk a) (hb : gainOk b) (hk : 0 < k) : (newFade a b k).ok := ⟨ha, hb, le_rfl, hk⟩

theorem Fade.ok.step {f : Fade} (h : f.ok) : f.step.ok := by
  obtain ⟨hstart, htarget, hleft, hlength⟩ := h
  exact ⟨hstart, htarget, (Nat.sub_le _ _).trans hleft, hlength⟩

/-- R61: a fade stands within 0 to 1 wherever it is read. -/
theorem Fade.ok.valueAt {f : Fade} (h : f.ok) (left : Nat) : gainOk (f.valueAt left) := by
  obtain ⟨hstart, htarget, _, hlength⟩ := h
  have hpos : (0 : Rat) < f.length := by exact_mod_cast hlength
  have hle : ((f.length - left : Nat) : Rat) ≤ f.length := by exact_mod_cast Nat.sub_le _ _
  have e : f.valueAt left = f.start + (f.target - f.start) * (((f.length - left : Nat) : Rat) / f.length) := by
    rw [Fade.valueAt, mul_div_assoc]
  rw [e]
  exact gainOk_between hstart htarget (by positivity) ((div_le_one hpos).mpr hle)

theorem Fade.ok.next {f : Fade} (h : f.ok) : gainOk f.next := h.valueAt _

/-- A gain with no fade. -/
theorem GainFade.gainsOk_settledAt {g : Rat} (h : gainOk g) : GainFade.gainsOk { value := g, fade := none } := ⟨h, nofun⟩

theorem GainFade.gainsOk.settled {g : GainFade} (h : g.gainsOk) : g.settled.gainsOk := by
  unfold GainFade.settled; split
  · rename_i f hf
    exact gainsOk_settledAt (h.2 f hf).2.1
  · exact h

theorem GainFade.gainsOk.finished {g : GainFade} (h : g.gainsOk) : g.finished.gainsOk := by
  unfold GainFade.finished; split
  · rename_i f hf
    split_ifs
    · exact gainsOk_settledAt (h.2 f hf).2.1
    · exact h
  · exact h

theorem ok_of_mem_step {o : Option Fade} (h : ∀ f ∈ o, f.ok) : ∀ f ∈ o.map Fade.step, f.ok := by
  intro f hf
  obtain ⟨e, he, rfl⟩ := Option.map_eq_some_iff.mp hf
  exact (h e he).step

theorem GainFade.gainsOk.step {g : GainFade} (h : g.gainsOk) : g.step.gainsOk := by
  refine ⟨?_, ok_of_mem_step h.2⟩
  show gainOk g.next
  unfold GainFade.next; split
  · rename_i f hf; exact (h.2 f hf).next
  · exact h.1

/-- A fade requested from the present gain. -/
theorem GainFade.gainsOk.faded {g : GainFade} {target : Rat} {k : Nat} (h : g.gainsOk) (ht : gainOk target) (hk : 0 < k) :
    GainFade.gainsOk { g with fade := some (newFade g.value target k) } :=
  ⟨h.1, fun _ hf => Option.some.inj hf ▸ newFade_ok h.1 ht hk⟩

section
variable {v : Voice} (h : v.gainsOk)
include h

theorem Voice.gainsOk.nextGain : gainOk v.nextGain := by
  unfold Voice.nextGain; split
  · rename_i f hf; exact (h.2 f hf).next
  · exact h.1

theorem Voice.gainsOk.fadeFinished : v.fadeFinished.gainsOk := by
  unfold Voice.fadeFinished; split
  · rename_i f hf
    split_ifs
    · exact ⟨(h.2 f hf).2.1, nofun⟩
    · exact h
  · exact h

theorem Voice.gainsOk.crossfadesFinished : v.crossfadesFinished.gainsOk := by
  unfold Voice.crossfadesFinished; split_ifs <;> exact h

/-- R60: a begin starts from 0, towards 1 or staying at 0. -/
theorem Voice.gainsOk.takenUp (st : SlotState) : (v.takenUp st).gainsOk := by
  unfold Voice.takenUp; split_ifs
  · refine ⟨gainOk_zero, ?_⟩
    cases st
    case running => exact fun _ hf => Option.some.inj hf ▸ newFade_ok gainOk_zero gainOk_one (by decide)
    case fading => exact fun _ hf => Option.some.inj hf ▸ newFade_ok gainOk_zero gainOk_zero (by decide)
    all_goals exact nofun
  · exact h

/-- R59: the gains of a returned clock. -/
theorem Voice.gainsOk.returned (st : SlotState) : (v.returned st).gainsOk := by
  cases st
  case running => exact ⟨gainOk_zero, fun _ hf => Option.some.inj hf ▸ newFade_ok gainOk_zero gainOk_one (by decide)⟩
  case muted => exact ⟨gainOk_zero, nofun⟩
  case fading =>
    refine ⟨gainOk_zero, fun f hf => ?_⟩
    obtain ⟨e, he, rfl⟩ := Option.map_eq_some_iff.mp hf
    obtain ⟨_, rest⟩ := h.2 e he
    exact ⟨gainOk_zero, rest⟩
  all_goals exact h

theorem Voice.gainsOk.afterReturn (due : Bool) (st : SlotState) : (v.afterReturn due st).gainsOk := by
  unfold Voice.afterReturn; split_ifs
  · exact h.returned st
  · exact h

end

/-! ### What a step keeps of the sound (R56, R58, R60, R68) -/

/-- What the invariants of the audio and of the gains are made of. -/
def State.soundView (s : State) : Vector Voice 16 × GainFade × GainFade × Audio := (s.voices, s.supplyGain, s.quietGain, s.audio)

/-- From the first state to the second the audio and every gain stay as R56, R58, R60 and R68 ask. -/
structure State.KeepsSound (s t : State) : Prop where
  audio : s.audioOk → t.audioOk
  gains : s.gainsOk → t.gainsOk

theorem State.audioOk_of_audio {s t : State} (h : t.audio = s.audio) (hs : s.audioOk) : t.audioOk := by
  unfold State.audioOk; rw [h]; exact hs

theorem State.KeepsSound.of_soundView {s t : State} (h : t.soundView = s.soundView) : s.KeepsSound t := by
  simp only [State.soundView, Prod.mk.injEq] at h
  obtain ⟨hvoices, hsupply, hquiet, haudio⟩ := h
  refine ⟨State.audioOk_of_audio haudio, fun h => ?_⟩
  rw [State.gainsOk_iff, hvoices, hsupply, hquiet]; exact h

theorem State.KeepsSound.refl (s : State) : s.KeepsSound s := .of_soundView rfl

theorem State.KeepsSound.trans {s t u : State} (h : s.KeepsSound t) (k : t.KeepsSound u) : s.KeepsSound u :=
  ⟨k.audio ∘ h.audio, k.gains ∘ h.gains⟩

/-- A change outside the sound before an operation. -/
theorem State.KeepsSound.after {s t u : State} (k : t.KeepsSound u) (h : t.soundView = s.soundView) : s.KeepsSound u :=
  (of_soundView h).trans k

/-- A change outside the sound after an operation. -/
theorem State.KeepsSound.before {s t u : State} (h : s.KeepsSound t) (k : u.soundView = t.soundView) : s.KeepsSound u :=
  h.trans (of_soundView k)

/-- A fold of steps that each keep the sound keeps it. -/
theorem State.KeepsSound.foldl {α : Type} {f : State → α → State} (h : ∀ (t : State) (a : α), t.KeepsSound (f t a))
    (ls : List α) (s : State) : s.KeepsSound (ls.foldl f s) :=
  foldl_holds (fun t => s.KeepsSound t) f (fun t a ht => ht.trans (h t a)) ls s (.refl s)

/-- Of the surroundings of the slots, the audio and the return gains. -/
theorem State.KeepsSound.of_surroundings {s t : State} (hs : t.surroundings = s.surroundings)
    (hv : ∀ n : SlotId, (s.voices[n]).gainsOk → (t.voices[n]).gainsOk) : s.KeepsSound t := by
  have supply : t.supplyGain = s.supplyGain :=
    (congrArg State.supplyGain hs : t.surroundings.supplyGain = s.surroundings.supplyGain)
  refine ⟨State.audioOk_of_audio (audio_of_surroundings hs), fun ⟨hvoices, hreturns⟩ => ⟨fun n => hv n (hvoices n), ?_⟩⟩
  rw [supply, quietGain_of_surroundings hs]; exact hreturns

/-- An operation on one slot keeps the sound if it keeps that slot's gain. -/
theorem State.KeepsSound.of_slot {s t : State} (n : SlotId) (hs : t.surroundings = s.surroundings)
    (ho : ∀ m : SlotId, n ≠ m → t.slotView m = s.slotView m) (hn : (s.voices[n]).gainsOk → (t.voices[n]).gainsOk) :
    s.KeepsSound t := by
  refine .of_surroundings hs fun m hm => ?_
  by_cases h : n = m
  · subst h; exact hn hm
  · have same : t.voices[m] = s.voices[m] := congrArg (·.2.2.2) (ho m h)
    rw [same]; exact hm

/-- A voice replaced by one whose gain and fade are as good. -/
theorem State.KeepsSound.setVoice {s : State} {n : SlotId} {v : Voice} (h : (s.voices[n]).gainsOk → v.gainsOk) :
    s.KeepsSound (s.setVoice n v) := by
  refine .of_surroundings rfl fun m hm => ?_
  rw [State.setVoice_voices, table_get_set]
  split_ifs with e
  · subst e; exact h hm
  · exact hm

section
variable (s : State) (n : SlotId)

/-! #### What leaves the sound alone -/

theorem soundView_of_outsideTempo {s t : State} (h : t.outsideTempo = s.outsideTempo) : t.soundView = s.soundView :=
  (congrArg State.soundView h : t.outsideTempo.soundView = s.outsideTempo.soundView)
theorem soundView_of_outsideHolds {s t : State} (h : t.outsideHolds = s.outsideHolds) : t.soundView = s.soundView :=
  (congrArg State.soundView h : t.outsideHolds.soundView = s.outsideHolds.soundView)
theorem soundView_of_outsideScenes {s t : State} (h : t.outsideScenes = s.outsideScenes) : t.soundView = s.soundView :=
  (congrArg State.soundView h : t.outsideScenes.soundView = s.outsideScenes.soundView)

@[simp] theorem State.setPort_soundView (p : Port) (v : PortState) : (s.setPort p v).soundView = s.soundView := by cases p <;> rfl
@[simp] theorem State.placeResult_soundView (p : Port) (r : Result) : (s.placeResult p r).soundView = s.soundView :=
  s.setPort_soundView p _
@[simp] theorem State.raise_soundView (p : Port) (f : Flag) : (s.raise p f).soundView = s.soundView := s.setPort_soundView p _
@[simp] theorem State.raiseBoth_soundView (f : Flag) : (s.raiseBoth f).soundView = s.soundView := rfl
@[simp] theorem State.setPool_soundView (q : Pool) : (s.setPool q).soundView = s.soundView := rfl
@[simp] theorem State.startClearing_soundView : s.startClearing.soundView = s.soundView := rfl
@[simp] theorem State.setSlot_soundView (v : Slot) : (s.setSlot n v).soundView = s.soundView := rfl
@[simp] theorem State.setTempo_soundView (u : TempoUnit) : (s.setTempo u).soundView = s.soundView := rfl
@[simp] theorem State.setModulation_soundView (m : ModulationUnit) : (s.setModulation m).soundView = s.soundView := rfl
@[simp] theorem State.setScene_soundView (k : SceneId) (v : Scene) : (s.setScene k v).soundView = s.soundView := rfl
@[simp] theorem State.handResync_soundView : s.handResync.soundView = s.soundView := rfl
@[simp] theorem State.renew_soundView (p : Port) : (s.renew p n).soundView = s.soundView :=
  soundView_of_outsideHolds (s.renew_outsideHolds n p)
@[simp] theorem State.releaseHolds_soundView (p : Port) (ls : List SlotId) : (s.releaseHolds p ls).soundView = s.soundView :=
  soundView_of_outsideHolds (s.releaseHolds_outsideHolds p ls)
@[simp] theorem State.takeHolds_soundView (p : Port) (ls : List SlotId) : (s.takeHolds p ls).soundView = s.soundView :=
  soundView_of_outsideHolds (s.takeHolds_outsideHolds p ls)
@[simp] theorem State.renewAll_soundView (p : Port) (ls : List SlotId) : (s.renewAll p ls).soundView = s.soundView :=
  soundView_of_outsideHolds (s.renewAll_outsideHolds p ls)
@[simp] theorem State.expireHold_soundView : (s.expireHold n).soundView = s.soundView :=
  soundView_of_outsideHolds (s.expireHold_outsideHolds n)
@[simp] theorem State.tickHold_soundView : (s.tickHold n).soundView = s.soundView :=
  soundView_of_outsideHolds (s.tickHold_outsideHolds n)
@[simp] theorem State.verifyScene_soundView (k : SceneId) : (s.verifyScene k).soundView = s.soundView :=
  soundView_of_outsideScenes (s.verifyScene_outsideScenes k)
@[simp] theorem State.storeSweep_soundView : s.storeSweep.soundView = s.soundView :=
  soundView_of_outsideScenes s.storeSweep_outsideScenes
@[simp] theorem State.reevaluate_soundView : s.reevaluate.soundView = s.soundView :=
  soundView_of_outsideTempo s.reevaluate_outsideTempo
@[simp] theorem State.writeControl_soundView (v : Nat) : (s.writeControl v).soundView = s.soundView :=
  soundView_of_outsideTempo (s.writeControl_outsideTempo v)
@[simp] theorem State.enterTap_soundView (v : Nat) : (s.enterTap v).soundView = s.soundView :=
  soundView_of_outsideTempo (s.enterTap_outsideTempo v)
@[simp] theorem State.linkLost_soundView : s.linkLost.soundView = s.soundView := soundView_of_outsideTempo s.linkLost_outsideTempo
@[simp] theorem State.linkBytes_soundView (b : List LinkByte) (v : Nat) : (s.linkBytes b v).soundView = s.soundView :=
  soundView_of_outsideTempo (s.linkBytes_outsideTempo b v)

theorem State.soundView_of_surroundings {s t : State} (hs : t.surroundings = s.surroundings) (hv : t.voices = s.voices) :
    t.soundView = s.soundView := by
  have supply : t.supplyGain = s.supplyGain :=
    (congrArg State.supplyGain hs : t.surroundings.supplyGain = s.surroundings.supplyGain)
  unfold State.soundView
  rw [hv, supply, quietGain_of_surroundings hs, audio_of_surroundings hs]

end

end Sys2Proof.Machine

namespace Sys2Proof.Machine

/-! ### The slot operations keep the sound (R3, R8, R9, R12, R44) -/

section
variable (s : State) (n : SlotId) (l : LineId)

@[simp] theorem State.leaveWaiting_soundView : (s.leaveWaiting n).soundView = s.soundView :=
  State.soundView_of_surroundings (s.leaveWaiting_surroundings n) (s.leaveWaiting_voices n)
@[simp] theorem State.recallFailed_soundView : (s.recallFailed n).soundView = s.soundView :=
  State.soundView_of_surroundings (s.recallFailed_surroundings n) (s.recallFailed_voices n)
@[simp] theorem State.removeMorph_soundView : (s.removeMorph n).soundView = s.soundView :=
  State.soundView_of_surroundings (s.removeMorph_surroundings n) (s.removeMorph_voices n)
@[simp] theorem State.endMorphing_soundView (ixs : List ParamIx) : (s.endMorphing n ixs).soundView = s.soundView :=
  State.soundView_of_surroundings (s.endMorphing_surroundings n ixs) (s.endMorphing_voices n ixs)
@[simp] theorem State.removeEntry_soundView : (s.removeEntry n).soundView = s.soundView :=
  State.soundView_of_surroundings (s.removeEntry_surroundings n) (s.removeEntry_voices n)
@[simp] theorem State.takePending_soundView : (s.takePending n).soundView = s.soundView :=
  State.soundView_of_surroundings (s.takePending_surroundings n) (s.takePending_voices n)
@[simp] theorem State.abortRecall_soundView : s.abortRecall.soundView = s.soundView := by
  unfold State.abortRecall; split_ifs <;> rfl
@[simp] theorem State.updateClamped_soundView : (s.updateClamped n).soundView = s.soundView := rfl
@[simp] theorem State.setLine_soundView (v : Line) : (s.setLine n l v).soundView = s.soundView := rfl
@[simp] theorem State.writeShadow_soundView (b : Bank) : (s.writeShadow n b).soundView = s.soundView := rfl

@[simp] theorem State.setEntry_soundView (v : Option SceneEntry) : (s.setEntry n v).soundView = s.soundView := rfl
@[simp] theorem State.joinWaiting_soundView : (s.joinWaiting n).soundView = s.soundView := rfl

@[simp] theorem State.startGrowth_soundView (k : Nat) : (s.startGrowth n l k).soundView = s.soundView := by
  unfold State.startGrowth; split
  · split
    · rfl
    · split <;> rfl
  · rfl

@[simp] theorem State.growthEnd_soundView : (s.growthEnd n l).soundView = s.soundView := by
  unfold State.growthEnd; split
  · dsimp only
    split
    · split_ifs <;> simp
    · rfl
  · rfl

theorem State.endVoice_keepsSound : s.KeepsSound (s.endVoice n) :=
  .of_slot n rfl (fun _ h => s.endVoice_slotView h) fun _ => by rw [s.endVoice_voice n]; exact ⟨gainOk_zero, nofun⟩

theorem State.followInput_keepsSound : s.KeepsSound (s.followInput n) := .setVoice id

/-- R63: a fade requested towards a gain of 0 to 1. -/
theorem State.requestFade_keepsSound {g : Rat} {k : Nat} (hg : gainOk g) (hk : 0 < k) : s.KeepsSound (s.requestFade n g k) := by
  unfold State.requestFade; split_ifs
  · exact .setVoice fun h => ⟨h.1, fun _ hf => Option.some.inj hf ▸ newFade_ok h.1 hg hk⟩
  · exact .refl s

theorem State.emptySlot_keepsSound : s.KeepsSound (s.emptySlot n) :=
  .of_slot n (s.emptySlot_surroundings n) (fun _ h => s.emptySlot_slotView h) fun _ => by
    rw [s.emptySlot_voices n, s.endVoice_voice n]; exact ⟨gainOk_zero, nofun⟩

theorem State.replaceRegion_keepsSound (k : Nat) : s.KeepsSound (s.replaceRegion n l k) := by
  unfold State.replaceRegion; split
  · split
    · exact .of_soundView rfl
    · exact .after (State.emptySlot_keepsSound _ n) (by simp)
  · exact .refl s

theorem State.evalNeed_keepsSound : s.KeepsSound (s.evalNeed n l) := by
  have above : ∀ ln k, s.KeepsSound (s.needAbove n l ln k) := fun ln k => by
    unfold State.needAbove; split_ifs
    · exact s.replaceRegion_keepsSound n l k
    · exact .of_soundView (s.startGrowth_soundView n l k)
    · exact .of_soundView rfl
    · exact .refl s
  unfold State.evalNeed; split_ifs
  · split
    · split_ifs
      · exact .before (above _ _) rfl
      · exact .of_soundView rfl
    · exact .refl s
  · exact .refl s

theorem State.evalWritten_keepsSound (ixs : List ParamIx) : s.KeepsSound (s.evalWritten n ixs) := by
  unfold State.evalWritten; split
  · exact .foldl (fun t k => t.evalNeed_keepsSound n k) _ _
  · exact .refl s

theorem State.prepare_keepsSound (a : Alg) (b : Bank) (es : List EntryId) : s.KeepsSound (s.prepare n a b es) :=
  .before (s.endVoice_keepsSound n) rfl

theorem State.beginFading_keepsSound (next : Option Alg) : s.KeepsSound (s.beginFading n next) := by
  unfold State.beginFading
  exact .trans (.after (State.requestFade_keepsSound _ n gainOk_zero (by decide)) (by simp)) (State.followInput_keepsSound _ n)

theorem State.fadeEnded_keepsSound : s.KeepsSound (s.fadeEnded n) := by
  have start : s.KeepsSound ((s.giveBackLines s.slots[n].lines).endVoice n) := .after (State.endVoice_keepsSound _ n) rfl
  unfold State.fadeEnded; dsimp only; split
  · exact start.trans (State.emptySlot_keepsSound _ n)
  · split
    · refine .before ?_ (State.takePending_soundView _ n)
      exact start.trans (.after (State.prepare_keepsSound _ n _ _ _) rfl)
    · exact start.trans (.after (State.emptySlot_keepsSound _ n) (by simp))

theorem State.forceFadeEnds_keepsSound : s.KeepsSound s.forceFadeEnds := by
  refine .foldl (fun t k => ?_) _ _
  split_ifs
  · exact t.fadeEnded_keepsSound k
  · exact .refl t

theorem State.crossfadeEnded_soundView : (s.crossfadeEnded n l).soundView = s.soundView := by
  unfold State.crossfadeEnded; split
  · split
    · rw [State.growthEnd_soundView]; rfl
    · rfl
  · rfl

theorem State.endPreparation_keepsSound : s.KeepsSound (s.endPreparation n) :=
  .of_slot n (s.endPreparation_surroundings n) (fun _ h => s.endPreparation_slotView h) fun hn => by
    rw [s.endPreparation_voice n]; exact hn

theorem State.takeLiveReport_keepsSound (ln : Line) : s.KeepsSound (s.takeLiveReport n l ln) := by
  have crossfade : s.KeepsSound (s.addCrossfade n l) := by
    unfold State.addCrossfade; split_ifs
    · exact .refl s
    · exact .setVoice id
  unfold State.takeLiveReport; split_ifs
  · exact s.endPreparation_keepsSound n
  · exact .refl s
  · exact .before crossfade rfl
  · exact .refl s

theorem State.propagateTo_keepsSound (tempo : Nat) : s.KeepsSound (s.propagateTo tempo n) := by
  unfold State.propagateTo; split_ifs
  · split
    · exact .after (State.evalWritten_keepsSound _ n _) (by simp)
    · exact .refl s
  · exact .refl s

theorem State.morphStep_keepsSound : s.KeepsSound (s.morphStep n) := by
  have written : ∀ v b ixs, s.KeepsSound (((s.setMorph n v).writeShadow n b).evalWritten n ixs) := fun v b ixs =>
    .after (State.evalWritten_keepsSound _ n ixs) rfl
  unfold State.morphStep; split
  · dsimp only; split_ifs
    · exact .before (written _ _ _) (State.removeMorph_soundView _ n)
    · exact written _ _ _
  · exact .refl s

theorem State.writeParams_keepsSound (a : Alg) (prs : List (ParamIx × Int)) : s.KeepsSound (s.writeParams n a prs) := by
  unfold State.writeParams
  exact .before (.after (State.evalWritten_keepsSound _ n _) (by simp)) rfl

/-! #### MUTE and UNMUTE (R8) -/

theorem State.soundMute_keepsSound {g : Rat} (hg : gainOk g) : s.KeepsSound (s.soundMute n g) := by
  unfold State.soundMute; split_ifs
  · exact .refl s
  · exact .trans (s.requestFade_keepsSound n hg (by decide)) (State.followInput_keepsSound _ n)

theorem State.muteSlot_keepsSound : s.KeepsSound (s.muteSlot n) := by
  unfold State.muteSlot; split
  · exact .after (State.soundMute_keepsSound _ n gainOk_zero) rfl
  · exact .of_soundView rfl
  · exact .refl s

theorem State.unmuteSlot_keepsSound : s.KeepsSound (s.unmuteSlot n) := by
  unfold State.unmuteSlot; split
  · exact .after (State.soundMute_keepsSound _ n gainOk_one) rfl
  · exact .of_soundView rfl
  · exact .refl s

/-! #### An entry of a recall (R117 to R120) -/

theorem State.recallSame_keepsSound (e : SceneEntry) (k : Nat) : s.KeepsSound (s.recallSame n e k).1 := by
  have routed : s.KeepsSound (s.recallRouting n e) := by
    unfold State.recallRouting; dsimp only; split_ifs
    · exact .after (State.muteSlot_keepsSound _ n) rfl
    · exact .after (State.unmuteSlot_keepsSound _ n) rfl
  have morph : ∀ (t : State) a b, t.KeepsSound (t.makeMorph n a b k) := fun t a b => by
    unfold State.makeMorph
    exact .after (State.evalWritten_keepsSound _ n _) rfl
  unfold State.recallSame; dsimp only; split_ifs
  · exact routed.trans (.before (morph _ _ _) rfl)
  · unfold State.cutParams
    exact routed.trans (.after (State.evalWritten_keepsSound _ n _) (by simp))

/-- R119: an entry that prepares its slot. -/
theorem State.preparedEntry_keepsSound (a : Alg) (b : Bank) (es : List EntryId) (e : SceneEntry) :
    s.KeepsSound (((s.prepare n a b es).takeRouting n e).joinWaiting n) := .before (s.prepare_keepsSound n a b es) rfl

theorem State.recallEmpty_keepsSound (e : SceneEntry) : s.KeepsSound (s.recallEmpty n e).1 := by
  unfold State.recallEmpty; split_ifs
  · split
    · exact .after (State.preparedEntry_keepsSound _ n _ _ _ e) rfl
    · exact .refl s
  · exact .refl s

theorem State.recallReplace_keepsSound (e : SceneEntry) : s.KeepsSound (s.recallReplace n e).1 := by
  unfold State.recallReplace; split_ifs
  · split
    · exact .after (State.preparedEntry_keepsSound _ n _ _ _ e) rfl
    · exact .refl s
  · exact .refl s

theorem State.recallPreparing_keepsSound (e : SceneEntry) : s.KeepsSound (s.recallPreparing n e).1 := by
  have written := State.KeepsSound.after (s := s) (t := (s.takeRouting n e).writeShadow n (s.entryBank e))
    (State.evalWritten_keepsSound _ n allParams) rfl
  unfold State.recallPreparing; dsimp only; split_ifs
  · exact written.before rfl
  · exact written

theorem State.recallFade_keepsSound (e : SceneEntry) (old : Alg) : s.KeepsSound (s.recallFade n e old).1 := by
  unfold State.recallFade; split_ifs
  · exact .before (s.beginFading_keepsSound n (some e.algorithm)) (by simp)
  · exact .refl s

theorem State.recallFading_soundView (e : SceneEntry) (old : Alg) : (s.recallFading n e old).1.soundView = s.soundView := by
  unfold State.recallFading; split_ifs <;> rfl

theorem State.recallByState_keepsSound (e : SceneEntry) (k : Nat) : s.KeepsSound (s.recallByState e k).1 := by
  unfold State.recallByState; dsimp only; split
  · split_ifs
    · exact s.recallPreparing_keepsSound _ e
    · exact s.recallReplace_keepsSound _ e
  · split_ifs
    · exact s.recallSame_keepsSound _ e k
    · exact s.recallFade_keepsSound _ e _
  · split_ifs
    · exact s.recallSame_keepsSound _ e k
    · exact s.recallFade_keepsSound _ e _
  · exact .of_soundView (s.recallFading_soundView _ e _)
  · exact s.recallEmpty_keepsSound _ e

theorem State.recallEntry_keepsSound (p : Port) (g : Bool) (k : Nat) (e : SceneEntry) :
    s.KeepsSound (State.recallEntry p g k s e) := by
  have entry := s.recallByState_keepsSound e k
  have renewed : s.KeepsSound ((s.recallByState e k).1.renew p e.slot) := entry.before (State.renew_soundView _ _ p)
  unfold State.recallEntry; dsimp only; split_ifs
  · exact .of_soundView rfl
  · exact entry.before rfl
  · exact renewed.before rfl
  · exact entry.before rfl
  · exact renewed.before rfl

end

/-! ### Decisions keep the sound -/

theorem setTempoDecision_soundView (b : List Byte) (s : State) : (setTempoDecision b s).state.soundView = s.soundView := by
  unfold setTempoDecision; repeat' split
  all_goals simp
theorem setTempoSourceDecision_soundView (b : List Byte) (s : State) :
    (setTempoSourceDecision b s).state.soundView = s.soundView := by
  unfold setTempoSourceDecision; repeat' split
  all_goals simp
theorem tapDecision_soundView (b : List Byte) (v : Nat) (s : State) : (tapDecision b v s).state.soundView = s.soundView := by
  unfold tapDecision; split <;> simp
theorem readTempoDecision_soundView (b : List Byte) (s : State) : (readTempoDecision b s).state.soundView = s.soundView := by
  unfold readTempoDecision; split <;> simp
theorem setTapOptionsDecision_soundView (b : List Byte) (s : State) :
    (setTapOptionsDecision b s).state.soundView = s.soundView := by
  unfold setTapOptionsDecision; repeat' split
  all_goals simp
theorem setLfoDecision_soundView (p : Port) (b : List Byte) (s : State) : (setLfoDecision p b s).state.soundView = s.soundView := by
  unfold setLfoDecision; repeat' split
  all_goals simp
theorem seedRandomDecision_soundView (b : List Byte) (s : State) : (seedRandomDecision b s).state.soundView = s.soundView := by
  unfold seedRandomDecision; repeat' split
  all_goals simp
theorem setRandomModeDecision_soundView (b : List Byte) (s : State) :
    (setRandomModeDecision b s).state.soundView = s.soundView := by
  unfold setRandomModeDecision; repeat' split
  all_goals simp
theorem Verdict.renewed_soundView (v : Verdict) (p : Port) (n : SlotId) : (v.renewed p n).state.soundView = v.state.soundView := by
  unfold Verdict.renewed; split_ifs <;> simp
theorem routeDecision_soundView (p : Port) (b : List Byte) (s : State) : (routeDecision p b s).state.soundView = s.soundView := by
  unfold routeDecision State.routeSlot; repeat' split
  all_goals simp [Verdict.renewed_soundView]
theorem readSlotDecision_soundView (p : Port) (b : List Byte) (s : State) :
    (readSlotDecision p b s).state.soundView = s.soundView := by
  unfold readSlotDecision State.clearClip; repeat' split
  all_goals simp
theorem readPoolDecision_soundView (b : List Byte) (s : State) : (readPoolDecision b s).state.soundView = s.soundView := by
  unfold readPoolDecision; split <;> simp
theorem takeHoldDecision_soundView (p : Port) (b : List Byte) (s : State) :
    (takeHoldDecision p b s).state.soundView = s.soundView := by
  unfold takeHoldDecision; dsimp only; repeat' split
  all_goals simp
theorem releaseHoldDecision_soundView (p : Port) (b : List Byte) (s : State) :
    (releaseHoldDecision p b s).state.soundView = s.soundView := by
  unfold releaseHoldDecision; dsimp only; split <;> simp
theorem setLeaseDecision_soundView (p : Port) (b : List Byte) (s : State) :
    (setLeaseDecision p b s).state.soundView = s.soundView := by
  unfold setLeaseDecision; dsimp only; repeat' split
  all_goals simp
theorem storeSceneDecision_soundView (b : List Byte) (s : State) : (storeSceneDecision b s).state.soundView = s.soundView := by
  unfold storeSceneDecision; dsimp only; repeat' split
  all_goals simp
theorem writeSceneEntryDecision_soundView (b : List Byte) (s : State) :
    (writeSceneEntryDecision b s).state.soundView = s.soundView := by
  unfold writeSceneEntryDecision State.writeEntry; dsimp only; repeat' split
  all_goals simp
theorem eraseSceneDecision_soundView (b : List Byte) (s : State) : (eraseSceneDecision b s).state.soundView = s.soundView := by
  unfold eraseSceneDecision; repeat' split
  all_goals simp
theorem readSceneDecision_soundView (b : List Byte) (s : State) : (readSceneDecision b s).state.soundView = s.soundView := by
  unfold readSceneDecision; repeat' split
  all_goals simp
theorem abortMorphDecision_soundView (p : Port) (b : List Byte) (s : State) :
    (abortMorphDecision p b s).state.soundView = s.soundView := by
  unfold abortMorphDecision State.abortMorphs; dsimp only; repeat' split
  all_goals simp [foldl_keeps State.soundView State.removeMorph State.removeMorph_soundView]
theorem readRecallDecision_soundView (b : List Byte) (s : State) : (readRecallDecision b s).state.soundView = s.soundView := by
  unfold readRecallDecision; split <;> rfl
theorem readEventsDecision_soundView (p : Port) (b : List Byte) (s : State) :
    (readEventsDecision p b s).state.soundView = s.soundView := by
  unfold readEventsDecision; split <;> simp
theorem setEventMaskDecision_soundView (p : Port) (b : List Byte) (s : State) :
    (setEventMaskDecision p b s).state.soundView = s.soundView := by
  unfold setEventMaskDecision; repeat' split
  all_goals simp
theorem portResetDecision_soundView (p : Port) (b : List Byte) (s : State) :
    (portResetDecision p b s).state.soundView = s.soundView := by
  unfold portResetDecision; split <;> simp

theorem State.KeepsSound.renewed {s : State} {v : Verdict} (h : s.KeepsSound v.state) (p : Port) (n : SlotId) :
    s.KeepsSound (v.renewed p n).state := h.before (v.renewed_soundView p n)

section
variable (s : State) (n : SlotId)

theorem State.allocateFor_keepsSound (a : Alg) {take : State → List EntryId → State}
    (ht : ∀ (t : State) es, t.KeepsSound (take t es)) : s.KeepsSound (s.allocateFor n a take).state := by
  unfold State.allocateFor; split
  · exact .refl s
  · rename_i q es _
    exact (State.KeepsSound.after (s := s) (ht (s.setPool q) es) rfl).before rfl

theorem State.assignByState_keepsSound (a : Alg) : s.KeepsSound (s.assignByState n a).state := by
  have same : s.KeepsSound (s.assignSame n a).state := by
    unfold State.assignSame
    exact .before (.after (State.evalWritten_keepsSound _ n _) (by simp)) rfl
  have fade : ∀ o, s.KeepsSound (s.assignFade n o a).state := fun o => by
    unfold State.assignFade; split_ifs
    · exact s.beginFading_keepsSound n _
    · exact .refl s
  have next : ∀ o, s.KeepsSound (s.assignNext n o a).state := fun o => by
    unfold State.assignNext; split_ifs
    · exact .of_soundView (State.removeEntry_soundView _ n)
    · exact .refl s
  have empty : s.KeepsSound (s.assignEmpty n a).state := by
    unfold State.assignEmpty; split_ifs
    · exact s.allocateFor_keepsSound n a fun t es => .before (t.prepare_keepsSound n a a.defaults es) rfl
    · exact .refl s
  have replace : s.KeepsSound (s.assignReplace n a).state := by
    unfold State.assignReplace; split_ifs
    · exact s.allocateFor_keepsSound n a fun t es => .after (State.prepare_keepsSound _ n a _ es) rfl
    · exact .refl s
  unfold State.assignByState; split
  · split_ifs
    · exact same
    · exact replace
  · split_ifs
    · exact same
    · exact fade _
  · split_ifs
    · exact same
    · exact fade _
  · exact next _
  · exact empty

theorem State.clearByState_keepsSound : s.KeepsSound (s.clearByState n).state := by
  unfold State.clearByState; split
  · exact .refl s
  · exact s.emptySlot_keepsSound n
  · exact s.beginFading_keepsSound n none
  · exact s.beginFading_keepsSound n none
  · exact .of_soundView (State.removeEntry_soundView _ n)

theorem State.paramsByState_keepsSound (prs : List (ParamIx × Int)) : s.KeepsSound (s.paramsByState n prs).state := by
  unfold State.paramsByState; split
  · exact .refl s
  · exact .refl s
  · exact .refl s
  · split_ifs
    · exact s.writeParams_keepsSound n _ prs
    · exact .refl s

end

section
variable (p : Port) (b : List Byte) (s : State)

theorem assignDecision_keepsSound : s.KeepsSound (assignDecision p b s).state := by
  unfold assignDecision; split
  · split_ifs
    · exact .refl s
    · split
      · split_ifs
        · exact .refl s
        · exact (s.assignByState_keepsSound _ _).renewed p _
      · exact .refl s
  · exact .refl s

theorem clearDecision_keepsSound : s.KeepsSound (clearDecision p b s).state := by
  unfold clearDecision; split
  · split_ifs
    · exact .refl s
    · split
      · split_ifs
        · exact .refl s
        · exact (s.clearByState_keepsSound _).renewed p _
      · exact .refl s
  · exact .refl s

theorem paramsDecision_keepsSound : s.KeepsSound (paramsDecision p b s).state := by
  unfold paramsDecision; split
  · split
    · split_ifs
      · exact .refl s
      · exact (s.paramsByState_keepsSound _ _).renewed p _
    · exact .refl s
  · exact .refl s

theorem muteChecks_keepsSound {f : State → SlotId → State} (hf : ∀ (t : State) n, t.KeepsSound (f t n)) :
    s.KeepsSound (muteChecks p b f s).state := by
  unfold muteChecks; split
  · split
    · split_ifs
      · exact .refl s
      · exact State.KeepsSound.renewed (hf s _) p _
      · exact .refl s
    · exact .refl s
  · exact .refl s

theorem State.carryOutRecall_keepsSound (g : Bool) (k : SceneId) (time : Option Nat) :
    s.KeepsSound (s.carryOutRecall p g k time).state := by
  have opened : (s.abortRecall.openRecall k (recallOrigin p g)).soundView = s.soundView := s.abortRecall_soundView
  have offered : ((s.abortRecall.openRecall k (recallOrigin p g)).offerTempo s.scenes[k].tempo).1.soundView = s.soundView :=
    (soundView_of_outsideTempo (State.offerTempo_outsideTempo _ _)).trans opened
  have entry : ∀ (t : State) e, t.KeepsSound (State.recallEntry p g (s.rate.blocks (time.getD s.scenes[k].morphTime)) t e) :=
    fun t e => t.recallEntry_keepsSound p g _ e
  have settled := State.KeepsSound.after (.foldl entry s.scenes[k].entries _) offered
   
  unfold State.carryOutRecall; dsimp only; split_ifs
  · exact settled.before rfl
  · exact settled.before rfl

theorem recallDecision_keepsSound (g : Bool) : s.KeepsSound (recallDecision p g b s).state := by
  unfold recallDecision; split
  · split_ifs
    · exact .refl s
    · split
      · split
        · exact .refl s
        · split_ifs
          · exact .of_soundView (s.verifyScene_soundView _)
          · exact s.carryOutRecall_keepsSound p g _ _
        · exact .refl s
      · exact .refl s
  · exact .refl s

end

end Sys2Proof.Machine

namespace Sys2Proof.Machine

/-! ### QUIET and WAKE keep the sound (R54, R69, R72, R180) -/

section
variable (s : State)

/-- R69: a return gain at 0 with no fade. -/
theorem State.endQuietFade_keepsSound : s.KeepsSound s.endQuietFade :=
  ⟨id, fun ⟨voices, supply, _⟩ => ⟨voices, supply, GainFade.gainsOk_settledAt gainOk_zero⟩⟩

theorem State.startQuietFade_keepsSound : s.KeepsSound s.startQuietFade := by
  unfold State.startQuietFade; split_ifs
  · exact s.endQuietFade_keepsSound
  · exact ⟨id, fun ⟨voices, supply, quiet⟩ => ⟨voices, supply, GainFade.gainsOk.faded quiet gainOk_zero (by decide)⟩⟩

/-- R68, R72: a fade of the supply gain. -/
theorem State.fadeSupply_keepsSound {target : Rat} {k : Nat} (ht : gainOk target) (hk : 0 < k) :
    s.KeepsSound (s.fadeSupply target k) := by
  unfold State.fadeSupply; split_ifs
  · exact ⟨id, fun ⟨voices, _, quiet⟩ => ⟨voices, GainFade.gainsOk_settledAt ht, quiet⟩⟩
  · exact ⟨id, fun ⟨voices, supply, quiet⟩ => ⟨voices, GainFade.gainsOk.faded supply ht hk, quiet⟩⟩

theorem quietDecision_keepsSound (b : List Byte) : s.KeepsSound (quietDecision b s).state := by
  have removed : s.abortRecall.removeMorphs.soundView = s.soundView :=
    (foldl_keeps State.soundView State.removeMorph State.removeMorph_soundView allSlots s.abortRecall).trans s.abortRecall_soundView
  unfold quietDecision; repeat' split
  · exact .refl s
  · exact .after (State.startQuietFade_keepsSound _) removed
  · exact .refl s

theorem State.rezeroLine_keepsSound (n : SlotId) (l : LineId) : s.KeepsSound (State.rezeroLine n s l) := by
  have settle : (s.settleGrowth n l).soundView = s.soundView := by
    unfold State.settleGrowth; split <;> rfl
  have current : ((s.settleGrowth n l).rezeroCurrent n l).soundView = (s.settleGrowth n l).soundView := by
    unfold State.rezeroCurrent; split <;> rfl
  have deferred : ∀ t : State, t.KeepsSound (t.settleDeferred n l) := fun t => by
    unfold State.settleDeferred; split
    · split
      · dsimp only; split_ifs
        · exact .after (State.replaceRegion_keepsSound _ n l _) rfl
        · exact .of_soundView rfl
      · exact .refl t
    · exact .refl t
  unfold State.rezeroLine; split_ifs
  · exact .before (.after (deferred _) (current.trans settle)) (State.updateClamped_soundView _ n)
  · exact .refl s

theorem State.rezeroSlot_keepsSound (n : SlotId) : s.KeepsSound (s.rezeroSlot n) := by
  unfold State.rezeroSlot; split_ifs
  · exact .refl s
  · have ended := (s.endVoice_keepsSound n).before (State.setSlot_soundView _ n { s.slots[n] with state := .preparing })
    exact ended.trans (.foldl (fun t l => t.rezeroLine_keepsSound n l) _ _)

/-- R180: the restart leaves every gain, puts the quiet gain at 1 and drops the returns. -/
theorem State.restartSound_keepsSound : s.KeepsSound s.restartSound := by
  obtain ⟨frame, voices⟩ := s.restartSound_spec
  have audio : s.restartSound.audio = { s.audio with returns := [] } := (congrArg State.audio frame).trans rfl
  have supply : s.restartSound.supplyGain = s.supplyGain := (congrArg State.supplyGain frame).trans rfl
  have quiet : s.restartSound.quietGain = GainFade.reset := (congrArg State.quietGain frame).trans rfl
  refine ⟨fun ⟨hsends, hlost⟩ => ?_, fun ⟨hvoices, hsupply, _⟩ => ⟨fun n => ?_, ?_, ?_⟩⟩
  · unfold State.audioOk; rw [audio]
    refine ⟨hsends, fun e => ?_⟩
    obtain ⟨hnone, _, hzero⟩ := hlost e
    exact ⟨hnone, rfl, hzero⟩
  · rw [voices n]; exact hvoices n
  · rw [supply]; exact hsupply
  · rw [quiet]; exact GainFade.gainsOk_settledAt gainOk_one

theorem wakeDecision_keepsSound (b : List Byte) : s.KeepsSound (wakeDecision b s).state := by
  have ended : s.KeepsSound s.storeSweep.endQuietPeriod := .after (State.forceFadeEnds_keepsSound _) s.storeSweep_soundView
  have rezeroed : s.KeepsSound s.storeSweep.endQuietPeriod.rezeroSlots := ended.trans (.foldl State.rezeroSlot_keepsSound _ _)
  unfold wakeDecision; repeat' split
  · exact .before (rezeroed.trans (State.restartSound_keepsSound _)) (State.startClearing_soundView _)
  · exact .refl s
  · exact .refl s

/-- R57, R60, R68, R177: at the entry to STARTING the clock is LOST and silent, and every gain has its reset value. -/
theorem State.enterStarting_keepsSound (k : StartKind) (v : Vector Scene 32) : s.KeepsSound (s.enterStarting k v) := by
  have reset : ∀ n : SlotId, (s.enterStarting k v).voices[n] = Voice.reset := fun _ => Vector.getElem_replicate ..
  refine ⟨fun _ => ⟨Nat.zero_lt_succ _, fun _ => ⟨rfl, rfl, rfl⟩⟩, fun _ => ⟨fun n => ?_, ?_, ?_⟩⟩
  · rw [reset]; exact ⟨gainOk_zero, nofun⟩
  · exact GainFade.gainsOk_settledAt gainOk_one
  · exact GainFade.gainsOk_settledAt gainOk_one

/-- R178, R181: the start-up, whatever the pins and the supply. -/
theorem State.startUp_keepsSound (pins : StartPins) (mv : Nat) : s.KeepsSound ((s.sweptUp.pinsSampled pins).firstJudgement mv) := by
  have swept : (s.sweptUp.pinsSampled pins).soundView = s.soundView := by
    show s.sweptUp.soundView = s.soundView
    unfold State.sweptUp; dsimp only; split_ifs
    · exact State.storeSweep_soundView _
    · rfl
  refine .after ?_ swept
  unfold State.firstJudgement; split_ifs
  · exact State.enterStarting_keepsSound _ _ _
  · exact .after (State.fadeSupply_keepsSound _ gainOk_zero (by decide)) rfl
  · exact .refl _

end

/-! ### The block end keeps the sound (R56, R59 to R63, R68, R69) -/

section
variable (s : State) (sends : List (Vector Sample 8))

/-- What the block is processed from: the state after hand-offs, begins, swaps and ended fades. -/
def State.sounding (s : State) : State := s.handOff.takeUp.finishFades.finishSupply

/-- R61, R69: the block is processed, or the quiet fade found over and the Voice Engine stopped. -/
theorem State.soundingBlockEnd_eq : s.soundingBlockEnd sends =
    (if s.sounding.quietFadeOver then s.sounding.endQuietFade.silentBlock else s.sounding.processBlock sends).startClearing := rfl

/-- R59: begins, swaps and lengths leave the Audio Port alone, but for R59's table, which is no longer due. -/
theorem State.takeUp_audio : s.takeUp.audio = { s.audio with returnDue := false } := by
  have begins : (allSlots.foldl State.beginOrSwap s).audio = s.audio :=
    foldl_keeps State.audio _ (fun t m => t.beginOrSwap_keeps m State.audio (fun _ _ _ => rfl) (fun _ _ _ => rfl)) _ _
  have returns : ∀ t : State, t.applyReturn.audio = { t.audio with returnDue := false } := fun t => by
    unfold State.applyReturn; split_ifs with hdue
    · have voices : (allSlots.foldl State.returnSlot t).audio = t.audio :=
        foldl_keeps State.audio _ (fun t m => by unfold State.returnSlot; split_ifs <;> rfl) _ _
      exact congrArg (fun a : Audio => { a with returnDue := false }) voices
    · rw [← Bool.eq_false_iff.mpr hdue]
  have lengths : s.takeUp.audio = (allSlots.foldl State.beginOrSwap s).applyReturn.audio :=
    foldl_keeps State.audio _ (fun t m => t.followBank_keeps m State.audio (fun _ _ _ => rfl) s.slots) _ _
  rw [lengths, returns, begins]

theorem State.finishFades_audio : s.finishFades.audio = s.audio :=
  State.finishFades_keeps _ State.audio (fun _ _ _ => rfl) (fun _ _ => rfl) (fun _ _ => rfl)

theorem State.sounding_audio : s.sounding.audio = { s.audio with returnDue := false } := by
  show s.handOff.takeUp.finishFades.audio = _
  rw [State.finishFades_audio, State.takeUp_audio, State.handOff_audio]

/-- What a block end leaves of the Audio Port: all but the returns and R59's table. -/
theorem State.blockEnd_audio : (s.blockEnd sends).audio =
    { s.audio with returns := (s.blockEnd sends).audio.returns, returnDue := false } := by
  have sounding := (s.feed sends).sounding_audio
  unfold State.blockEnd; dsimp only; split_ifs
  · rfl
  · rw [State.soundingBlockEnd_eq]
    generalize (s.feed sends).sounding = m at sounding ⊢
    split_ifs
    · show ({ m.audio with returns := [], returnDue := false } : Audio) = _
      rw [sounding]; rfl
    · show ({ m.audio with returns := m.returnFrames 0 sends } : Audio) = _
      rw [sounding]; rfl

/-- R59, R60: begins, swaps and the gains of a return. -/
theorem State.takeUp_gainsOk {n : SlotId} (h : (s.voices[n]).gainsOk) : (s.takeUp.voices[n]).gainsOk := by
  obtain ⟨_, _, hgain, hfade, _⟩ := s.takeUp_voice_frame n
  unfold Voice.gainsOk
  rw [hgain, hfade, s.swapped_voice n]
  exact (h.takenUp _).afterReturn _ _

theorem State.finishFades_gainsOk {n : SlotId} (h : (s.voices[n]).gainsOk) : (s.finishFades.voices[n]).gainsOk := by
  rw [(s.finishFades_at n).1]; exact h.fadeFinished.crossfadesFinished

theorem State.stepVoice_gainsOk {n : SlotId} (h : (s.voices[n]).gainsOk) : (s.stepVoice n sends).gainsOk := by
  unfold State.stepVoice; dsimp only; split_ifs
  · exact ⟨h.nextGain, ok_of_mem_step h.2⟩
  · exact h

/-- R59, R60, R63, R68: up to the processing of the block every gain stays within 0 to 1. -/
theorem State.sounding_gainsOk (h : s.gainsOk) : s.sounding.gainsOk := by
  have morphs : s.KeepsSound s.handOff := by
    have peaks : s.handOff.soundView = s.stepLfos.morphSteps.soundView :=
      State.handPeaks_keeps _ State.soundView (fun _ _ _ => rfl) (fun _ _ => rfl)
    exact .before (.after (.foldl State.morphStep_keepsSound allSlots s.stepLfos) rfl) peaks
  have handed := morphs.gains h
  have gains : (s.handOff.takeUp.finishFades.supplyGain, s.handOff.takeUp.finishFades.quietGain)
      = (s.handOff.supplyGain, s.handOff.quietGain) :=
    (State.finishFades_keeps _ (fun t => (t.supplyGain, t.quietGain)) (fun _ _ _ => rfl) (fun _ _ => rfl) (fun _ _ => rfl)).trans
      (State.takeUp_keeps _ (fun t => (t.supplyGain, t.quietGain)) (fun _ _ _ => rfl) (fun _ _ _ => rfl) (fun _ => rfl))
  obtain ⟨hsupply, hquiet⟩ := Prod.mk.inj gains
  obtain ⟨voices, supply, quiet⟩ := handed
  refine ⟨fun n => State.finishFades_gainsOk _ (State.takeUp_gainsOk _ (voices n)), ?_, ?_⟩
  · exact GainFade.gainsOk.finished (by rw [hsupply]; exact supply)
  · show GainFade.gainsOk s.handOff.takeUp.finishFades.quietGain
    rw [hquiet]; exact quiet

theorem State.blockEnd_gainsOk (h : s.gainsOk) : (s.blockEnd sends).gainsOk := by
  have sounding := (s.feed sends).sounding_gainsOk h
  unfold State.blockEnd; dsimp only; split_ifs
  · exact h
  · rw [State.soundingBlockEnd_eq]
    generalize (s.feed sends).sounding = m at sounding ⊢
    obtain ⟨voices, supply, quiet⟩ := sounding
    split_ifs
    · exact ⟨voices, supply, GainFade.gainsOk_settledAt gainOk_zero⟩
    · refine ⟨fun n => ?_, GainFade.gainsOk.step supply, GainFade.gainsOk.step quiet⟩
      have processed : (m.processBlock sends).startClearing.voices[n] = m.stepVoice n sends := m.processBlock_voice n sends
      rw [processed]; exact m.stepVoice_gainsOk sends (voices n)

end

/-! ### Every command keeps the sound -/

theorem State.takeCommand_soundView {s u : State} {p : Port} {c : Command} (h : s.takeCommand p c = some u) :
    u.soundView = s.soundView := by
  rcases State.takeCommand_spec h with ⟨_, _, ⟨rfl, _⟩ | ⟨rfl, _⟩⟩
  · exact s.setPort_soundView p _
  · rfl

/-- A decision that keeps the sound makes its row keep it. -/
theorem runCommand_keepsSound {p : Port} {c : Command} {d : State → Verdict} {s t : State}
    (hd : ∀ u : State, u.KeepsSound (d u).state) (he : runCommand p c d s = .next t) : s.KeepsSound t := by
  rcases runCommand_spec he with ⟨_, rfl⟩ | ⟨u, hu, rfl⟩
  · exact .refl _
  · exact .before (.after (hd u) (State.takeCommand_soundView hu)) (State.placeResult_soundView _ p _)

/-- The same for a decision that leaves the sound alone. -/
theorem runCommand_keepsSound_of_soundView {p : Port} {c : Command} {d : State → Verdict} {s t : State}
    (hd : ∀ u, (d u).state.soundView = u.soundView) (he : runCommand p c d s = .next t) : s.KeepsSound t :=
  runCommand_keepsSound (fun u => .of_soundView (hd u)) he

/-- R58: with the clock PRESENT the sound asks of the audio its count of frames alone. -/
theorem State.audioOk_of_present {s : State} (hs : s.audio.sends.length < 32) (hc : s.audio.clock = .present) : s.audioOk :=
  ⟨hs, fun h => by rw [hc] at h; cases h⟩

section
variable {s t : State}

/-- R55, R57: a frame sync. -/
theorem execFrameSync_keepsSound (he : execFrameSync s = .next t) : s.KeepsSound t := by
  unfold execFrameSync at he; split_ifs at he
  · cases he; exact .refl s
  · split at he <;> cases he
    · rename_i hc
      exact ⟨fun h => State.audioOk_of_present h.1 hc, id⟩
    · exact ⟨fun _ => State.audioOk_of_present (Nat.zero_lt_succ _) rfl, id⟩

/-- R55, R56: a frame taken. -/
theorem execFrameTaken_keepsSound {w : Vector AudioWord 16} (he : execFrameTaken w s = .next t) : s.KeepsSound t := by
  unfold execFrameTaken at he; dsimp only at he; split_ifs at he with h hfull
  · cases he; exact ⟨fun _ => State.audioOk_of_present hfull h.2.1, id⟩
  · cases he
    refine ⟨fun _ => ?_, fun hs => State.blockEnd_gainsOk _ _ hs⟩
    have audio := State.blockEnd_audio { s with audio := { s.audio.takeFrame w with sends := [] } } (s.audio.takeFrame w).sends
    refine State.audioOk_of_present ?_ ?_
    · rw [audio]; exact Nat.zero_lt_succ _
    · rw [audio]; exact h.2.1
  · cases he; exact .refl s

/-- R58, R72: a loss of the clock. -/
theorem execClockLost_keepsSound (he : execClockLost s = .next t) : s.KeepsSound t := by
  have dropOne : ∀ (t : State) n, t.KeepsSound (t.dropModulationOf n) := fun t n => .setVoice id
  have drop : s.KeepsSound s.dropModulation := .foldl dropOne _ _
  have settled : s.KeepsSound { s.dropModulation with audio := s.audio.lost, supplyGain := s.supplyGain.settled } := by
    refine ⟨fun _ => ⟨Nat.zero_lt_succ _, fun _ => ⟨rfl, rfl, rfl⟩⟩, fun hs => ?_⟩
    obtain ⟨voices, _, quiet⟩ := drop.gains hs
    exact ⟨voices, GainFade.gainsOk.settled hs.2.1, quiet⟩
  unfold execClockLost at he; dsimp only at he; split_ifs at he <;> cases he
  · exact .before (settled.trans (State.endQuietFade_keepsSound _)) (State.raiseBoth_soundView _ _)
  · exact settled.before rfl
  · exact .refl s

end

/-- R56, R58, R60, R68: every command keeps the sound. -/
theorem exec_keepsSound {i : Instr} {s t : State} (he : exec i s = .next t) : s.KeepsSound t := by
  cases i <;> unfold exec at he <;> dsimp only at he
  case assign p tag b => exact runCommand_keepsSound (assignDecision_keepsSound p b) he
  case clear p tag b => exact runCommand_keepsSound (clearDecision_keepsSound p b) he
  case params p tag b => exact runCommand_keepsSound (paramsDecision_keepsSound p b) he
  case mute p tag b => exact runCommand_keepsSound (fun u => muteChecks_keepsSound p b u State.muteSlot_keepsSound) he
  case unmute p tag b => exact runCommand_keepsSound (fun u => muteChecks_keepsSound p b u State.unmuteSlot_keepsSound) he
  case route p tag b => exact runCommand_keepsSound_of_soundView (routeDecision_soundView p b) he
  case readSlot p tag b => exact runCommand_keepsSound_of_soundView (readSlotDecision_soundView p b) he
  case readPool p tag b => exact runCommand_keepsSound_of_soundView (readPoolDecision_soundView b) he
  case takeHold p tag b => exact runCommand_keepsSound_of_soundView (takeHoldDecision_soundView p b) he
  case releaseHold p tag b => exact runCommand_keepsSound_of_soundView (releaseHoldDecision_soundView p b) he
  case setLease p tag b => exact runCommand_keepsSound_of_soundView (setLeaseDecision_soundView p b) he
  case storeScene p tag b => exact runCommand_keepsSound_of_soundView (storeSceneDecision_soundView b) he
  case writeSceneEntry p tag b => exact runCommand_keepsSound_of_soundView (writeSceneEntryDecision_soundView b) he
  case eraseScene p tag b => exact runCommand_keepsSound_of_soundView (eraseSceneDecision_soundView b) he
  case readScene p tag b => exact runCommand_keepsSound_of_soundView (readSceneDecision_soundView b) he
  case recallScene p tag g b => exact runCommand_keepsSound (fun u => recallDecision_keepsSound p b u g) he
  case abortMorph p tag b => exact runCommand_keepsSound_of_soundView (abortMorphDecision_soundView p b) he
  case readRecall p tag b => exact runCommand_keepsSound_of_soundView (readRecallDecision_soundView b) he
  case setTempo p tag b => exact runCommand_keepsSound_of_soundView (setTempoDecision_soundView b) he
  case setTempoSource p tag b => exact runCommand_keepsSound_of_soundView (setTempoSourceDecision_soundView b) he
  case tap p tag g b v => exact runCommand_keepsSound_of_soundView (tapDecision_soundView b v) he
  case readTempo p tag b => exact runCommand_keepsSound_of_soundView (readTempoDecision_soundView b) he
  case setTapOptions p tag b => exact runCommand_keepsSound_of_soundView (setTapOptionsDecision_soundView b) he
  case setLfo p tag b => exact runCommand_keepsSound_of_soundView (setLfoDecision_soundView p b) he
  case seedRandom p tag b => exact runCommand_keepsSound_of_soundView (seedRandomDecision_soundView b) he
  case setRandomMode p tag b => exact runCommand_keepsSound_of_soundView (setRandomModeDecision_soundView b) he
  case readEvents p tag b => exact runCommand_keepsSound_of_soundView (readEventsDecision_soundView p b) he
  case setEventMask p tag b => exact runCommand_keepsSound_of_soundView (setEventMaskDecision_soundView p b) he
  case portReset p tag b => exact runCommand_keepsSound_of_soundView (portResetDecision_soundView p b) he
  case quiet p tag b => exact runCommand_keepsSound (fun u => quietDecision_keepsSound u b) he
  case wake p tag b => exact runCommand_keepsSound (fun u => wakeDecision_keepsSound u b) he
  case unknownCommand p tag c b =>
    unfold execUnknownCommand at he; split_ifs at he
    · cases he; exact .refl s
    · exact runCommand_keepsSound .refl he
  case restart p tag b =>
    unfold execRestart at he; split at he
    · cases he; exact .refl s
    · rename_i u hu
      have taken := State.takeCommand_soundView hu
      split_ifs at he <;> cases he
      · exact .after (u.enterStarting_keepsSound _ _) taken
      · exact .of_soundView ((State.placeResult_soundView _ p _).trans taken)
  case i2cAddress p a d =>
    unfold execI2cAddress State.judgeAddress at he; dsimp only at he
    repeat' split at he
    all_goals (cases he; exact .of_soundView (by simp))
  case messageEnd p bs =>
    unfold execMessageEnd at he; split_ifs at he <;> cases he
    · exact .of_soundView (s.setPort_soundView _ _)
    · exact .refl s
  case resultSent r =>
    unfold execResultSent at he; split at he <;> cases he
    · exact .of_soundView (s.setPort_soundView _ _)
    · exact .refl s
  case readEnd r =>
    unfold execReadEnd at he; split_ifs at he <;> cases he
    · exact .of_soundView (s.setPort_soundView _ _)
    · exact .refl s
  case busTimeout p bs =>
    unfold execBusTimeout at he; dsimp only at he; split_ifs at he <;> cases he
    · exact .refl s
    · exact .of_soundView (s.setPort_soundView _ _)
    · exact .of_soundView (s.setPort_soundView _ _)
  case busStop r => cases he; exact .of_soundView (s.setPort_soundView _ _)
  case frameSync => exact execFrameSync_keepsSound he
  case frameTaken w => exact execFrameTaken_keepsSound he
  case clockLost => exact execClockLost_keepsSound he
  case fadeEnd n =>
    unfold execFadeEnd at he; dsimp only at he; split_ifs at he <;> cases he
    · refine .before ?_ (State.startClearing_soundView _)
      exact .after (State.fadeEnded_keepsSound _ n) rfl
    · exact .of_soundView rfl
    · exact .refl s
  case crossfadeEnd n l =>
    unfold execCrossfadeEnd at he; split_ifs at he <;> cases he
    · exact .of_soundView (State.crossfadeEnded_soundView _ n l)
    · exact .refl s
  case quietFadeEnd =>
    unfold execQuietFadeEnd at he; split_ifs at he <;> cases he
    · refine .before ?_ (State.startClearing_soundView _)
      exact .after (State.forceFadeEnds_keepsSound _) rfl
    · exact .refl s
  case regionJobComplete => cases he; exact .of_soundView rfl
  case regionLive e =>
    unfold execRegionLive at he; dsimp only at he
    split_ifs at he
    · split at he
      · split at he
        · cases he; split_ifs
          · exact .after (State.takeLiveReport_keepsSound _ _ _ _) (s.setPool_soundView _)
          · exact .of_soundView rfl
        · cases he; exact .of_soundView rfl
      · cases he; exact .of_soundView rfl
    · cases he; exact .refl s
  case extensionComplete =>
    unfold execExtensionComplete at he; split at he <;> cases he
    · refine .of_soundView ?_
      unfold State.extensionEnded; split
      · exact State.growthEnd_soundView _ _ _
      · rfl
    · exact .refl s
  case abandonedPageEnd => cases he; exact .of_soundView rfl
  case slotPropagation =>
    unfold execSlotPropagation at he; split at he <;> cases he
    · refine .before ?_ (State.startClearing_soundView _)
      exact .after (.foldl (fun t n => t.propagateTo_keepsSound n _) _ _) (s.setTempo_soundView _)
    · exact .refl s
  case lfoPropagation => unfold execLfoPropagation at he; split at he <;> cases he <;> exact .of_soundView rfl
  case resync => unfold execResync at he; split at he <;> cases he <;> exact .of_soundView rfl
  case tapPress v => unfold execTapPress at he; split_ifs at he <;> cases he <;> exact .of_soundView rfl
  case tapRelease v =>
    unfold execTapRelease at he; dsimp only at he; split_ifs at he <;> cases he <;> exact .of_soundView (by simp)
  case longPress v => unfold execLongPress at he; split_ifs at he <;> cases he <;> exact .of_soundView rfl
  case stuckSwitch v => unfold execStuckSwitch at he; split_ifs at he <;> cases he <;> exact .of_soundView rfl
  case tapFreshExpiry v =>
    unfold execTapFreshExpiry at he; split_ifs at he <;> cases he <;> exact .of_soundView (by simp)
  case tapHistoryClear v => unfold execTapHistoryClear at he; split_ifs at he <;> cases he <;> exact .of_soundView rfl
  case linkTempoFrame a b c d v => cases he; exact .of_soundView (s.linkBytes_soundView _ _)
  case linkStopFrame a b v => cases he; exact .of_soundView (s.linkBytes_soundView _ _)
  case linkBadFrame bs v => cases he; exact .of_soundView (s.linkBytes_soundView _ _)
  case linkBreak v => cases he; exact .of_soundView (s.linkBytes_soundView _ _)
  case linkSilenceTimeout v =>
    unfold execLinkSilenceTimeout at he; split_ifs at he <;> cases he <;> exact .of_soundView (by simp)
  case leaseTick =>
    unfold execLeaseTick at he; split_ifs at he <;> cases he
    · exact .refl s
    · exact .of_soundView (foldl_keeps State.soundView State.tickHold State.tickHold_soundView _ _)
  case holdExpiry n =>
    unfold execHoldExpiry at he; split_ifs at he <;> cases he <;> exact .of_soundView (by simp)
  case supplyLow v =>
    unfold execSupplyLow at he; split_ifs at he <;> cases he
    · exact s.enterStarting_keepsSound _ _
    · exact .after (State.fadeSupply_keepsSound _ gainOk_zero (by decide)) rfl
    · exact .refl s
  case supplyNormal v =>
    unfold execSupplyNormal at he; split_ifs at he <;> cases he
    · exact .after (State.fadeSupply_keepsSound _ gainOk_one (by decide)) rfl
    · exact .refl s
  case powerOnReset => cases he; exact s.enterStarting_keepsSound _ _
  case resetLow => cases he; exact s.enterStarting_keepsSound _ _
  case startUpSweep r v => unfold execStartUpSweep at he; split_ifs at he <;> cases he <;> exact .of_soundView rfl
  case startUpSweepEnd pins =>
    unfold execStartUpSweepEnd at he; split_ifs at he <;> cases he
    · exact s.startUp_keepsSound pins _
    · exact .refl s
  case tapHighSample time => unfold execTapHighSample at he; split_ifs at he <;> cases he <;> exact .of_soundView rfl

/-- And every step keeps it. -/
theorem step_keepsSound {s t : State} (he : step s = .next t) : s.KeepsSound t := by
  unfold step at he; split at he
  · rename_i c rest _
    exact .after (exec_keepsSound he) rfl
  · cases he
    exact .of_soundView ((congrArg State.soundView s.pageTime_frame).trans rfl)

/-- Settles O57: every command leaves the audio and the gains alone, or moves a gain between values of 0 to 1. -/
theorem stepKeepsSound : Obligations.StepKeepsSound := fun _ _ he => ⟨(step_keepsSound he).audio, (step_keepsSound he).gains⟩

end Sys2Proof.Machine

namespace Sys2Proof.Machine

/-! ### The supply monitor (R68, R72, R181) -/

/-- R68, R72: a fade of the supply gain changes it alone: at once while the clock is LOST or the Voice Engine is stopped. -/
theorem State.fadeSupply_eq (s : State) (target : Rat) (length : Nat) : s.fadeSupply target length = { s with
    supplyGain := if s.audio.clock = .lost ∨ s.stopped = true then { value := target, fade := none }
      else { value := s.supplyGain.value,
             fade := some { start := s.supplyGain.value, target := target, length := length, left := length } } } := by
  unfold State.fadeSupply; split_ifs <;> rfl

/-- R181: a NORMAL supply judged from 2.80 V to 3.05 V. -/
theorem execSupplyLow_falls {s : State} {mv : Nat} (hp : s.power ≠ .starting) (hs : s.supply = .normal) (hreset : 2800 ≤ mv)
    (hlow : mv < 3050) : execSupplyLow mv s = .next s.supplyFalls := by
  unfold execSupplyLow; rw [if_neg (not_lt.mpr hreset), if_pos ⟨hp, hs, hlow⟩]

/-- R181: a LOW supply judged above 3.10 V. -/
theorem execSupplyNormal_rises {s : State} {mv : Nat} (hp : s.power ≠ .starting) (hs : s.supply = .low) (hmv : 3100 < mv) :
    execSupplyNormal mv s = .next (({ s with supply := .normal } : State).fadeSupply 1 8) := if_pos ⟨hp, hs, hmv⟩

/-- Settles O51: a power-on reset below 2.80 V, and a fade of the supply gain at each of the other two thresholds. -/
theorem supplyMonitor : Obligations.SupplyMonitor := by
  intro s mv faded
  refine ⟨fun hmv => if_pos hmv, fun hp hs hreset hlow => ?falls, fun hp hs hmv => ?rises⟩
  case falls =>
    refine (execSupplyLow_falls hp hs hreset hlow).trans ?_
    rw [State.supplyFalls, State.fadeSupply_eq]; rfl
  case rises =>
    refine (execSupplyNormal_rises hp hs hmv).trans ?_
    rw [State.fadeSupply_eq]

end Sys2Proof.Machine

namespace Sys2Proof.Machine

/-! ### The clock comes and goes (R55, R57 to R59, R72) -/

section
variable (s : State)

/-- R101: dropping the modulation of slots changes their voices alone. -/
theorem State.dropModulations_frame (ns : List SlotId) : ∀ t : State,
    ns.foldl State.dropModulationOf t = { t with voices := (ns.foldl State.dropModulationOf t).voices } := by
  induction ns with
  | nil => intro t; rfl
  | cons n ns ih => intro t; rw [List.foldl_cons, ih (t.dropModulationOf n)]; rfl

/-- R101: every slot's modulation starts anew after a loss. -/
theorem State.dropModulation_voice (n : SlotId) : s.dropModulation.voices[n] = { s.voices[n] with modulation := none } := by
  obtain ⟨t, before, after⟩ := foldl_allSlots_at (fun t => t.voices[n]) State.dropModulationOf n
    (fun t m h => t.setVoice_voice_other n h _) s
  have own : (t.dropModulationOf n).voices[n] = { t.voices[n] with modulation := none } := table_get_set_self _ _ _
  exact after.trans (own.trans (congrArg (fun v : Voice => { v with modulation := none }) before))

/-- R58, R72: what a loss makes of the state before it ends a quiet fade: no frames, no output, the supply fade at its target. -/
def State.silenced (s : State) : State :=
  { s with voices := s.dropModulation.voices, audio := s.audio.lost, supplyGain := s.supplyGain.settled }

/-- R57: a loss is taken while the clock is PRESENT. -/
theorem execClockLost_present (hp : s.power ≠ .starting) (hc : s.audio.clock = .present) : execClockLost s =
    .next ((if s.silenced.quietGain.fade.isSome then s.silenced.endQuietFade else s.silenced).raiseBoth .audioLost) := by
  have frame : s.dropModulation = { s with voices := s.dropModulation.voices } := State.dropModulations_frame allSlots s
  have silenced : s.silenced = { s.dropModulation with audio := s.audio.lost, supplyGain := s.supplyGain.settled } := by
    rw [frame]; rfl
  rw [silenced]; exact if_pos ⟨hp, hc⟩

/-- R72: a quiet fade in progress is ended at once, with its report and the stop; with none nothing changes. -/
theorem State.endQuietFade_cases : ∃ (g : GainFade) (stop report : Bool),
    (if s.quietGain.fade.isSome then s.endQuietFade else s) = { s with quietGain := g, stopped := stop, quietReport := report }
    ∧ (s.quietGain.fade ≠ none → g = { value := 0, fade := none } ∧ stop = true ∧ report = true)
    ∧ (s.quietGain.fade = none → g = s.quietGain ∧ stop = s.stopped ∧ report = s.quietReport) := by
  cases hfade : s.quietGain.fade with
  | none => exact ⟨s.quietGain, s.stopped, s.quietReport, rfl, fun h => absurd rfl h, fun _ => ⟨rfl, rfl, rfl⟩⟩
  | some f => exact ⟨_, _, _, rfl, fun _ => ⟨rfl, rfl, rfl⟩, nofun⟩

end

theorem GainFade.settled_of_fade {g : GainFade} {f : Fade} (h : g.fade = some f) : g.settled = { value := f.target, fade := none } := by
  unfold GainFade.settled; rw [h]

theorem GainFade.settled_of_none {g : GainFade} (h : g.fade = none) : g.settled = g := by unfold GainFade.settled; rw [h]

section
variable {s : State} (hp : s.power ≠ .starting)
include hp

/-- R55, R57: a frame sync while the clock is PRESENT. -/
theorem execFrameSync_present (hc : s.audio.clock = .present) :
    execFrameSync s = .next { s with audio := s.audio.startFrame } := by
  unfold execFrameSync; rw [if_neg hp, hc]

/-- R57, R59: a frame sync while it is LOST. -/
theorem execFrameSync_lost (hc : s.audio.clock = .lost) : execFrameSync s =
    .next (({ s with audio := { s.audio with
      clock := .present, missed := 0, frameOpen := true, returnDue := true, sends := [], returns := [] } } : State).raiseBoth
      .audioLost) := by
  unfold execFrameSync; rw [if_neg hp, hc]

end

/-- R55: a frame that starts after a whole one. -/
theorem Audio.startFrame_of_closed {a : Audio} (h : a.frameOpen = false) : a.startFrame = { a with missed := 0, frameOpen := true } := by
  unfold Audio.startFrame; rw [h]; rfl

/-- R55: a frame that starts in place of one still open (log 35). -/
theorem Audio.startFrame_of_open {a : Audio} (h : a.frameOpen = true) :
    a.startFrame = { a with missed := 0, returns := a.returns.tail } := by
  unfold Audio.startFrame; rw [h]; rfl

/-- Settles O40: a frame sync by the clock's state and the open frame, and a loss by the fades it settles. -/
theorem clockComesAndGoes : Obligations.ClockComesAndGoes := by
  intro s hp
  refine ⟨fun hc => ⟨fun hopen => ?started, fun hopen => ?cut, ?lost⟩, fun hc => execFrameSync_lost hp hc⟩
  case started => exact (execFrameSync_present hp hc).trans (by rw [Audio.startFrame_of_closed hopen])
  case cut => exact (execFrameSync_present hp hc).trans (by rw [Audio.startFrame_of_open hopen])
  case lost =>
    have taken := execClockLost_present s hp hc
    obtain ⟨g, stop, report, ended, fading, steady⟩ := s.silenced.endQuietFade_cases
    rw [ended] at taken
    exact ⟨_, taken, State.flagged_raiseBoth _ _, rfl, fun _ hf => GainFade.settled_of_fade hf, GainFade.settled_of_none,
      fading, steady, rfl, rfl, rfl, rfl, rfl, rfl, rfl, s.dropModulation_voice⟩

end Sys2Proof.Machine

namespace Sys2Proof.Machine

/-! ### A frame taken, and the block end it may bring (R55, R56) -/

/-- R55: the words driven in a frame, time slot by time slot. -/
theorem drivenWords_get (r : Vector Sample 16) (rs : List (Vector Sample 16)) (c : Fin 16) :
    (drivenWords (r :: rs))[c] = r[c] ++ 0#8 := by
  rw [drivenWords, foldl_set_get (fun c : Fin 16 => wordOf r[c]), if_pos (List.mem_finRange c)]
  rfl

section
variable {s : State} {words : Vector AudioWord 16} (hp : s.power ≠ .starting) (hc : s.audio.clock = .present)
  (hopen : s.audio.frameOpen = true)
include hp hc hopen

/-- R56: a frame before the 32nd of its block. -/
theorem exec_frameTaken_early (h : s.audio.sends.length < 31) :
    exec (.frameTaken words) s = .next { s with audio := s.audio.takeFrame words } := by
  have early : (s.audio.takeFrame words).sends.length < 32 := by
    rw [Audio.takeFrame, List.length_append]; exact Nat.succ_lt_succ h
  show execFrameTaken words s = _
  unfold execFrameTaken
  rw [if_pos ⟨hp, hc, hopen⟩]; dsimp only
  rw [if_pos early]

/-- R56: the 32nd frame of a block. -/
theorem exec_frameTaken_last (h : s.audio.sends.length = 31) : exec (.frameTaken words) s =
    .next (({ s with audio := { s.audio.takeFrame words with sends := [] } } : State).blockEnd (s.audio.sends ++ [sendsOf words])) := by
  have full : ¬ (s.audio.takeFrame words).sends.length < 32 := by
    rw [Audio.takeFrame, List.length_append, h]; exact Nat.lt_irrefl 32
  show execFrameTaken words s = _
  unfold execFrameTaken
  rw [if_pos ⟨hp, hc, hopen⟩]; dsimp only
  rw [if_neg full]; rfl

end

/-! ### The return frames (R61) -/

section
variable (s : State)

theorem State.returnFrames_length (fs : List (Vector Sample 8)) : ∀ k, (s.returnFrames k fs).length = fs.length := by
  induction fs with
  | nil => intro k; rfl
  | cons f fs ih => intro k; exact congrArg Nat.succ (ih (k + 1))

theorem State.returnFrames_get (fs : List (Vector Sample 8)) :
    ∀ k i, (s.returnFrames k fs)[i]? = fs[i]?.map (s.returnFrame (k + i)) := by
  induction fs with
  | nil => intro k i; rfl
  | cons f fs ih =>
    intro k i
    cases i with
    | zero => rfl
    | succ i =>
      rw [State.returnFrames, List.getElem?_cons_succ, List.getElem?_cons_succ, ih (k + 1) i, Nat.add_right_comm, Nat.add_assoc]

theorem State.returnFrame_get (i : Nat) (f : Vector Sample 8) (c : Fin 16) : (s.returnFrame i f)[c] = s.returnSample i c.val f := by
  rw [State.returnFrame, foldl_set_get (fun c : Fin 16 => s.returnSample i c.val f), if_pos (List.mem_finRange c)]

end

/-- A whole value needs no rounding. -/
theorem roundSample_int (up : Bool) (x : Int) : roundSample up (x : Rat) = x := if_pos rfl

theorem saturate_bounds (x : Int) : -8388608 ≤ saturate x ∧ saturate x ≤ 8388607 := by unfold saturate; omega

/-- R61: what lies beyond full scale is changed by saturation, and nothing else. -/
theorem saturate_ne_iff (x : Int) : saturate x ≠ x ↔ x < -8388608 ∨ 8388607 < x := by unfold saturate; omega

/-- A sample holds what is brought to full scale. -/
theorem toInt_saturate (x : Int) : (BitVec.ofInt 24 (saturate x)).toInt = saturate x := by
  obtain ⟨low, high⟩ := saturate_bounds x
  rw [BitVec.toInt_ofInt]
  exact Int.bmod_eq_of_le (by norm_num; omega) (by norm_num; omega)

section
variable (s : State) (i c : Nat) (f : Vector Sample 8)

/-- R61: with no slot on its pair a return word is zero. -/
theorem State.returnSample_of_none (h : s.onPair (c / 2) = []) : s.returnSample i c f = 0 := by
  unfold State.returnSample
  rw [h]
  simp only [List.map_nil, List.sum_nil, Int.cast_zero, zero_mul]
  rw [show (0 : Rat) = ((0 : Int) : Rat) from rfl, roundSample_int]
  rfl

theorem rampAt_same (g : Rat) : rampAt g g i = g := by unfold rampAt; ring

/-- R61, R68: with both return gains at 1 a return word is the sum, brought to full scale. -/
theorem State.returnSample_at_unity (hs : s.supplyGain = { value := 1, fade := none })
    (hq : s.quietGain = { value := 1, fade := none }) :
    (s.returnSample i c f).toInt = saturate ((s.onPair (c / 2)).map fun n => saturate (s.rawSample n i (c % 2) f)).sum := by
  have unity : s.returnGainAt i = 1 := by
    unfold State.returnGainAt GainFade.next; rw [hs, hq]
    dsimp only; rw [rampAt_same, mul_one]
  unfold State.returnSample
  rw [unity]; dsimp only
  rw [mul_one, roundSample_int, toInt_saturate]

end

/-! ### Peaks and samples of a slot (R61, R62) -/

section
variable (s : State) (n : SlotId)

/-- R62: a slot's peak stands when one of its samples lies beyond full scale. -/
theorem State.saturates_iff (fs : List (Vector Sample 8)) : ∀ k, s.saturates n k fs = true ↔
    ∃ (i : Nat) (c : Fin 2) (f : Vector Sample 8), fs[i]? = some f
      ∧ (s.rawSample n (k + i) c.val f < -8388608 ∨ 8388607 < s.rawSample n (k + i) c.val f) := by
  induction fs with
  | nil => intro k; exact ⟨nofun, fun ⟨_, _, _, h, _⟩ => by cases h⟩
  | cons f fs ih =>
    intro k
    simp only [State.saturates, Bool.or_eq_true, bne_iff_ne, saturate_ne_iff, ih (k + 1)]
    constructor
    · rintro ((h | h) | ⟨i, c, g, hg, h⟩)
      · exact ⟨0, 0, f, rfl, h⟩
      · exact ⟨0, 1, f, rfl, h⟩
      · exact ⟨i + 1, c, g, hg, by rw [Nat.add_right_comm, Nat.add_assoc] at h; exact h⟩
    · rintro ⟨i, c, g, hg, h⟩
      cases i with
      | zero =>
        obtain rfl : f = g := Option.some.inj hg
        left
        fin_cases c
        · exact Or.inl h
        · exact Or.inr h
      | succ i => exact Or.inr ⟨i, c, g, hg, by rw [Nat.add_right_comm, Nat.add_assoc]; exact h⟩

variable {s n} (sends : List (Vector Sample 8)) (h : (s.voices[n]).begun = true)

theorem State.stepVoice_peak : (s.stepVoice n sends).peak = true ↔ (s.voices[n]).begun = true ∧ s.saturates n 0 sends = true := by
  unfold State.stepVoice; dsimp only
  split_ifs with hb
  · exact ⟨fun hp => ⟨hb, hp⟩, fun hp => hp.2⟩
  · exact ⟨nofun, fun hp => absurd hp.1 hb⟩

include h

theorem State.stepVoice_gain : (s.stepVoice n sends).gain = s.voices[n].nextGain := by
  unfold State.stepVoice; dsimp only; rw [if_pos h]

end

end Sys2Proof.Machine

namespace Sys2Proof.Machine

/-! ### The block end of the running Voice Engine, as a whole (R66, R69, R70) -/

section
variable (s : State) (sends : List (Vector Sample 8))

theorem State.sounding_quietFadeOver : s.sounding.quietFadeOver = s.quietGain.fade.any fun f => f.left == 0 :=
  congrArg (fun g : GainFade => g.fade.any fun f : Fade => f.left == 0) s.finishFades_quietGain

/-- R61: a block end that does not find the quiet fade over processes the block. -/
theorem State.soundingBlockEnd_processed (h : ∀ f, s.quietGain.fade = some f → f.left ≠ 0) :
    s.soundingBlockEnd sends = (s.sounding.processBlock sends).startClearing := by
  have going : ¬ s.sounding.quietFadeOver = true := by
    rw [s.sounding_quietFadeOver]
    cases hfade : s.quietGain.fade with
    | none => exact Bool.false_ne_true
    | some f => simpa using h f hfade
  rw [State.soundingBlockEnd_eq, if_neg going]

/-- R69: a block end that finds the quiet fade over reports it, stops the Voice Engine and processes nothing. -/
theorem State.soundingBlockEnd_quiet {f : Fade} (hf : s.quietGain.fade = some f) (h : f.left = 0) :
    s.soundingBlockEnd sends = s.sounding.endQuietFade.silentBlock.startClearing := by
  have ended : s.sounding.quietFadeOver = true := by
    rw [s.sounding_quietFadeOver, hf]; exact beq_iff_eq.mpr h
  rw [State.soundingBlockEnd_eq, if_pos ended]

/-- R66: the LFOs step before the block, and nothing else moves them. -/
theorem State.sounding_modulation : s.sounding.modulation = s.modulation.stepAll := by
  have handed : s.handOff.modulation = s.stepLfos.modulation :=
    (congrArg State.modulation s.handOff_surroundings : s.handOff.surroundings.modulation = s.stepLfos.surroundings.modulation)
  exact ((State.finishFades_keeps _ State.modulation (fun _ _ _ => rfl) (fun _ _ => rfl) (fun _ _ => rfl)).trans
    (State.takeUp_keeps _ State.modulation (fun _ _ _ => rfl) (fun _ _ _ => rfl) (fun _ => rfl))).trans handed

theorem State.sounding_stopped : s.sounding.stopped = s.stopped := by
  have handed : s.handOff.stopped = s.stopped :=
    (congrArg State.stopped s.handOff_surroundings : s.handOff.surroundings.stopped = s.stepLfos.surroundings.stopped)
  exact ((State.finishFades_keeps _ State.stopped (fun _ _ _ => rfl) (fun _ _ => rfl) (fun _ _ => rfl)).trans
    (State.takeUp_keeps _ State.stopped (fun _ _ _ => rfl) (fun _ _ _ => rfl) (fun _ => rfl))).trans handed

theorem State.soundingBlockEnd_modulation : (s.soundingBlockEnd sends).modulation = s.modulation.stepAll := by
  by_cases h : ∀ f, s.quietGain.fade = some f → f.left ≠ 0
  · rw [s.soundingBlockEnd_processed sends h]; exact s.sounding_modulation
  · push Not at h
    obtain ⟨f, hf, hleft⟩ := h
    rw [s.soundingBlockEnd_quiet sends hf hleft]; exact s.sounding_modulation

theorem State.blockEnd_of_running (h : s.stopped = false) : s.blockEnd sends = (s.feed sends).soundingBlockEnd sends :=
  if_neg (ne_true_of_eq_false h)

theorem State.blockEnd_of_stopped (h : s.stopped = true) : s.blockEnd sends = (s.feed sends).silentBlock := if_pos h

end

/-! ### What a processed block leaves (R61, R62) -/

section
variable (m : State) (frames : List (Vector Sample 8))

/-- R61, R68: the words of a processed block. -/
theorem State.processBlock_word {i : Nat} {frame : Vector Sample 8} {word : Vector Sample 16} (hframe : frames[i]? = some frame)
    (hword : (m.processBlock frames).audio.returns[i]? = some word) (c : Fin 16) : word[c] = m.returnSample i c.val frame := by
  have made : (m.processBlock frames).audio.returns[i]? = some (m.returnFrame i frame) :=
    (m.returnFrames_get frames 0 i).trans (by rw [hframe, Nat.zero_add]; rfl)
  obtain rfl : m.returnFrame i frame = word := Option.some.inj (made.symm.trans hword)
  exact m.returnFrame_get i frame c

/-- R62: the peaks of a processed block. -/
theorem State.processBlock_peak (n : SlotId) : ((m.processBlock frames).voices[n]).peak = true ↔ m.voices[n].begun = true
    ∧ ∃ (i : Nat) (c : Fin 2) (frame : Vector Sample 8), frames[i]? = some frame
      ∧ (m.rawSample n i c.val frame < -8388608 ∨ 8388607 < m.rawSample n i c.val frame) := by
  rw [m.processBlock_voice n frames, State.stepVoice_peak, State.saturates_iff]
  simp only [Nat.zero_add]

/-- R61: the gain of a begun slot after a processed block is what its gain moved to. -/
theorem State.processBlock_gain {n : SlotId} (h : m.voices[n].begun = true) :
    ((m.processBlock frames).voices[n]).gain = m.voices[n].nextGain := by
  rw [m.processBlock_voice n frames, State.stepVoice_gain frames h]

/-- R61: the sample of a slot with an algorithm, at its level and its moving gain (log 11, log 39). -/
theorem State.rawSample_eq {n : SlotId} {a : Alg} (ha : m.slots[n].algorithm = some a) (i c : Nat) (frame : Vector Sample 8) :
    m.rawSample n i c frame = levelled (Config.slotRoundsUp m.fresh n.val i c)
      ((Config.algorithmOutput m.fresh n.val i c (m.driveAt n i frame) : Rat)
        * (m.voices[n].gain + (m.voices[n].nextGain - m.voices[n].gain) * (i : Rat) / 32)) (m.slots[n].active[a.levelIx]) := by
  have level : m.slots[n].level = m.slots[n].active[a.levelIx] := by unfold Slot.level; rw [ha]; rfl
  rw [State.rawSample, level]; rfl

end

/-- Settles O41: a frame before the 32nd, and the block end, with the Voice Engine stopped, running, and at the end of the quiet fade. -/
theorem framesMakeBlocks : Obligations.FramesMakeBlocks := by
  intro s words hp hc hopen driven
  have outputs : driven (drivenWords s.audio.returns) :=
    ⟨fun h => by rw [h]; rfl, fun r rs h c => by rw [h]; exact drivenWords_get r rs c⟩
  refine ⟨fun hearly => ⟨_, exec_frameTaken_early hp hc hopen hearly, outputs⟩, fun first rest hsends hrest => ?_⟩
  intro fed frames ready sounding
  have count : s.audio.sends.length = 31 := by rw [hsends, List.length_cons, hrest]
  let t : State := { s with audio := { s.audio.takeFrame words with sends := [] } }
  have taken : exec (.frameTaken words) s = .next (t.blockEnd frames) := exec_frameTaken_last hp hc hopen count
  have audio := t.blockEnd_audio frames
  have feed : t.feed frames = t.setModulation fed := by
    show t.setModulation (s.modulation.absorb (feedByte (s.audio.sends ++ [sendsOf words]))) = _
    rw [hsends]; rfl
  have prepared : sounding = (t.feed frames).sounding := rfl
  clear_value sounding
  refine ⟨t.blockEnd frames, taken, by rw [audio], by rw [audio]; rfl, by rw [audio]; exact hc, by rw [audio],
    by rw [audio]; exact outputs, fun hstop => ?stopped, fun hrun => ?_⟩
  case stopped =>
    rw [t.blockEnd_of_stopped frames hstop, feed]
    exact ⟨rfl, rfl, rfl, rfl, rfl, rfl⟩
  have running : t.blockEnd frames = (t.feed frames).soundingBlockEnd frames := t.blockEnd_of_running frames hrun
  have processed : (∀ f, s.quietGain.fade = some f → f.left ≠ 0) →
      t.blockEnd frames = (sounding.processBlock frames).startClearing := fun hquiet => by
    rw [running, prepared]; exact State.soundingBlockEnd_processed _ frames hquiet
  refine ⟨?modulation, fun hquiet => ?returns, fun hquiet n => ?samples, fun f hf hleft => ?quiet⟩
  case modulation =>
    rw [running, State.soundingBlockEnd_modulation, feed]; rfl
  case returns =>
    rw [processed hquiet]
    have length : frames.length = 32 := by
      rw [List.length_append, count]; rfl
    refine ⟨(sounding.returnFrames_length frames 0).trans length, ?_, fun i c frame word hframe hword => ?_⟩
    · show sounding.stopped = false
      rw [prepared, State.sounding_stopped]; exact hrun
    · intro heard sum
      have sample := sounding.processBlock_word frames hframe hword c
      refine ⟨sample, fun hnone => ?_, fun hsupply hquietGain => ?_⟩
      · rw [sample]; exact sounding.returnSample_of_none i c.val frame hnone
      · rw [sample]; exact sounding.returnSample_at_unity i c.val frame hsupply hquietGain
  case samples =>
    rw [processed hquiet]
    refine ⟨sounding.processBlock_peak frames n, fun i c frame a k hbegun ha => ?_⟩
    have gained : ((sounding.processBlock frames).startClearing.voices[n]).gain = sounding.voices[n].nextGain :=
      sounding.processBlock_gain frames hbegun
    intro gain q power up x hlow hhigh
    have level : x = levelled up q (sounding.slots[n].active[a.levelIx]) := by
      show sounding.rawSample n i c.val frame = _
      rw [sounding.rawSample_eq ha, ← gained]
    rw [level]
    exact levelled_between up hlow hhigh
  case quiet =>
    rw [running, State.soundingBlockEnd_quiet (t.feed frames) frames hf hleft]
    exact ⟨rfl, rfl, rfl, rfl⟩

end Sys2Proof.Machine

namespace Sys2Proof.Machine

/-! ### What the Tempo Unit keeps of itself (R75, R82) -/

/-- R82: at most four intervals, each of 200 to 2000 ms. -/
def TempoUnit.tapsOk (u : TempoUnit) : Prop := u.intervals.length ≤ 4 ∧ ∀ i ∈ u.intervals, 200 ≤ i ∧ i ≤ 2000

theorem State.tapsOk_iff (s : State) : s.tapsOk ↔ s.tempo.tapsOk := Iff.rfl

/-- From the first Tempo Unit to the second the arbiter's rules and the Tap History's bounds stay met. -/
structure TempoUnit.Keeps (u v : TempoUnit) : Prop where
  settled : u.settled → v.settled
  taps : u.tapsOk → v.tapsOk

theorem TempoUnit.Keeps.refl (u : TempoUnit) : u.Keeps u := ⟨id, id⟩

theorem TempoUnit.Keeps.trans {u v w : TempoUnit} (h : u.Keeps v) (k : v.Keeps w) : u.Keeps w :=
  ⟨k.settled ∘ h.settled, k.taps ∘ h.taps⟩

/-- R82: no interval is within the bounds. -/
theorem TempoUnit.tapsOk_of_nil {u : TempoUnit} (h : u.intervals = []) : u.tapsOk := by
  unfold TempoUnit.tapsOk; rw [h]; exact ⟨Nat.zero_le _, nofun⟩

/-- R75, R91: a re-evaluation settles whatever was written before it, but for the applied and the last propagated tempo. -/
theorem TempoUnit.Keeps.reevaluated {u v : TempoUnit} (ha : v.applied = u.applied) (hp : v.lastPropagated = u.lastPropagated)
    (ht : u.tapsOk → v.tapsOk) : u.Keeps v.reevaluated := by
  have intervals : v.reevaluated.intervals = v.intervals := (congrArg TempoUnit.intervals v.reevaluated_frame :)
  refine ⟨fun h => v.reevaluated_settled ?_, fun h => ?_⟩
  · rw [ha, hp]; exact h.2.2
  · unfold TempoUnit.tapsOk; rw [intervals]; exact ht h

/-- R75: what is written of the Link Receiver decides nothing, but for whether it is LOCKED. -/
theorem TempoUnit.Keeps.setLink (u : TempoUnit) {k : LinkReceiver} (h : k.state = .locked ↔ u.link.state = .locked) :
    u.Keeps { u with link := k } := by
  have choice : ({ u with link := k } : TempoUnit).choice = u.choice := by
    unfold TempoUnit.choice; simp only [h]
  refine ⟨fun ⟨hsource, hoffer, hdistance⟩ => ⟨hsource.trans choice.symm, fun v hv => hoffer v ?_, hdistance⟩, id⟩
  rw [← hv]
  show u.offer u.source = ({ u with link := k } : TempoUnit).offer u.source
  cases u.source <;> rfl

/-- R77: a tap entered while the last one is fresh changes nothing that the arbiter looks at, whatever intervals it leaves. -/
theorem TempoUnit.Keeps.freshTap {u : TempoUnit} (h : u.tapFresh = true) (t : Nat) {is : List Nat} (ht : u.tapsOk →
    is.length ≤ 4 ∧ ∀ i ∈ is, 200 ≤ i ∧ i ≤ 2000) :
    u.Keeps { u with lastTap := some t, tapFresh := true, freshSince := t, intervals := is } := by
  refine ⟨fun ⟨hsource, hoffer, hdistance⟩ => ⟨?_, fun v hv => hoffer v ?_, hdistance⟩, ht⟩
  · rw [← h]; exact hsource
  · rw [← hv]
    show u.offer u.source = TempoUnit.offer _ u.source
    cases u.source <;> rfl

/-! #### Taps (R82) -/

/-- R82: the intervals after a tap within 200 to 2000 ms of the last one are at most four, and the new one is among them. -/
theorem nextIntervals_ok {i : Nat} {held : List Nat} (h : held.length ≤ 4 ∧ ∀ k ∈ held, 200 ≤ k ∧ k ≤ 2000) (hlo : 200 ≤ i)
    (hhi : i ≤ 2000) : (nextIntervals i held).length ≤ 4 ∧ ∀ k ∈ nextIntervals i held, 200 ≤ k ∧ k ≤ 2000 := by
  obtain ⟨hlength, hbounds⟩ := h
  have one : ∀ k ∈ [i], 200 ≤ k ∧ k ≤ 2000 := fun k hk => by rw [List.mem_singleton.mp hk]; exact ⟨hlo, hhi⟩
  unfold nextIntervals
  split_ifs
  · exact ⟨by simp, one⟩
  · exact ⟨by simp, one⟩
  · refine ⟨by simp; omega, fun k hk => ?_⟩
    rcases List.mem_append.mp hk with hk | hk
    · exact hbounds k (List.mem_of_mem_drop hk)
    · exact one k hk
  · refine ⟨by simp; omega, fun k hk => ?_⟩
    rcases List.mem_append.mp hk with hk | hk
    · exact hbounds k hk
    · exact one k hk

section
variable (s : State)

theorem State.enterTap_keeps (time : Nat) : s.tempo.Keeps (s.enterTap time).tempo := by
  unfold State.enterTap; dsimp only; split
  · split_ifs with hfresh
    · exact .freshTap hfresh time id
    · rw [State.reevaluate_tempo]; exact .reevaluated rfl rfl id
  · split_ifs with hbounce hlong hfresh
    · exact .refl _
    · exact .freshTap hfresh time fun _ => ⟨Nat.zero_le _, nofun⟩
    · rw [State.reevaluate_tempo]; exact .reevaluated rfl rfl fun _ => TempoUnit.tapsOk_of_nil rfl
    · rw [State.reevaluate_tempo]
      exact .reevaluated rfl rfl fun h => nextIntervals_ok h (by omega) (by omega)

/-! #### The link (R86 to R90) -/

theorem State.linkLost_keeps : s.tempo.Keeps s.linkLost.tempo := by
  unfold State.linkLost; rw [State.reevaluate_tempo]; exact .reevaluated rfl rfl id

theorem State.linkBad_keeps : s.tempo.Keeps s.linkBad.tempo := by
  unfold State.linkBad; dsimp only; split
  · split_ifs
    · exact s.linkLost_keeps
    · exact .setLink _ Iff.rfl
  · exact .setLink _ Iff.rfl
  · exact .setLink _ Iff.rfl
  · exact .setLink _ Iff.rfl

theorem State.handResync_keeps : s.tempo.Keeps s.handResync.tempo := ⟨id, id⟩

theorem State.linkLocked_keeps (tempo position time : Nat) : s.tempo.Keeps (s.linkLocked tempo position time).tempo := by
  unfold State.linkLocked; dsimp only
  split_ifs
  · refine .trans ?_ (State.handResync_keeps _)
    rw [State.reevaluate_tempo]; exact .reevaluated rfl rfl id
  · rw [State.reevaluate_tempo]; exact .reevaluated rfl rfl id

theorem State.linkTempo_keeps (tempo position time : Nat) : s.tempo.Keeps (s.linkTempo tempo position time).tempo := by
  unfold State.linkTempo; split
  · exact s.linkLocked_keeps _ _ _
  · split
    · split_ifs
      · exact s.linkLocked_keeps _ _ _
      · exact .setLink _ Iff.rfl
    · exact .setLink _ Iff.rfl
  · exact .setLink _ (by simp [*])
  · exact .setLink _ (by simp [*])

theorem State.linkStop_keeps : s.tempo.Keeps s.linkStop.tempo := by
  unfold State.linkStop; dsimp only; split_ifs with h
  · rw [State.reevaluate_tempo]; exact .reevaluated rfl rfl id
  · exact .setLink _ (by simp [h])

theorem State.linkFrame_keeps (frame : List Byte) (time : Nat) : s.tempo.Keeps (s.linkFrame frame time).tempo := by
  unfold State.linkFrame; split
  · split_ifs
    · exact s.linkTempo_keeps _ _ _
    · exact s.linkBad_keeps
  · split_ifs
    · exact s.linkStop_keeps
    · exact s.linkBad_keeps
  · exact s.linkBad_keeps

theorem State.linkByte_keeps (b : LinkByte) (time : Nat) : s.tempo.Keeps (s.linkByte b time).tempo := by
  have assembly : ∀ bytes, s.tempo.Keeps (s.setLink { s.tempo.link with assembly := bytes }).tempo := fun _ => .setLink _ Iff.rfl
  unfold State.linkByte State.linkHunt State.linkAssemble; dsimp only
  split_ifs
  · exact .setLink _ Iff.rfl
  · exact s.linkLost_keeps
  · exact .refl _
  · exact assembly _
  · exact .refl _
  · exact (assembly _).trans (State.linkLost_keeps _)
  · exact (assembly _).trans (State.linkBad_keeps _)
  · exact (assembly _).trans (State.linkFrame_keeps _ _ _)
  · exact assembly _

theorem State.linkBytes_keeps (bytes : List LinkByte) (time : Nat) : s.tempo.Keeps (s.linkBytes bytes time).tempo := by
  unfold State.linkBytes; split_ifs
  · exact .refl _
  · exact foldl_holds (fun t : State => s.tempo.Keeps t.tempo) _ (fun t b ht => ht.trans (t.linkByte_keeps b time)) _ _ (.refl _)

theorem State.writeControl_keeps (v : Nat) : s.tempo.Keeps (s.writeControl v).tempo := by
  unfold State.writeControl; rw [State.reevaluate_tempo]; exact .reevaluated rfl rfl id

end

end Sys2Proof.Machine

namespace Sys2Proof.Machine

/-! ### What a step keeps of the tempo, the taps, the random generator, the morphs and the scenes (R75, R82, R91, R102, R107, R124) -/

/-- R124: a morph entry with steps left and something to morph. -/
def Morph.unfinished (m : Morph) : Prop := m.done < m.total ∧ m.morphing ≠ 0

/-- What these invariants are made of. -/
def State.tablesView (s : State) : TempoUnit × BitVec 16 × Vector (Option Morph) 16 × Vector Scene 32 :=
  (s.tempo, s.modulation.lfsr, s.morphs, s.scenes)

/-- From the first state to the second the Tempo Unit, the LFSR, the morph entries and the scene records stay well formed. -/
structure State.KeepsTables (s t : State) : Prop where
  tempo : s.tempo.Keeps t.tempo
  lfsr : s.modulation.lfsr ≠ 0 → t.modulation.lfsr ≠ 0
  morphs : s.morphsOk → t.morphsOk
  scenes : s.scenesOk → t.scenesOk

theorem State.morphsOk_of_morphs {s t : State} (h : t.morphs = s.morphs) (hs : s.morphsOk) : t.morphsOk := by
  unfold State.morphsOk; rw [h]; exact hs

theorem State.scenesOk_of_scenes {s t : State} (h : t.scenes = s.scenes) (hs : s.scenesOk) : t.scenesOk := by
  unfold State.scenesOk; rw [h]; exact hs

theorem State.KeepsTables.of_view {s t : State} (h : t.tablesView = s.tablesView) : s.KeepsTables t := by
  simp only [State.tablesView, Prod.mk.injEq] at h
  obtain ⟨htempo, hlfsr, hmorphs, hscenes⟩ := h
  exact ⟨htempo ▸ .refl _, fun h => hlfsr ▸ h, State.morphsOk_of_morphs hmorphs, State.scenesOk_of_scenes hscenes⟩

theorem State.KeepsTables.refl (s : State) : s.KeepsTables s := .of_view rfl

theorem State.KeepsTables.trans {s t u : State} (h : s.KeepsTables t) (k : t.KeepsTables u) : s.KeepsTables u :=
  ⟨h.tempo.trans k.tempo, k.lfsr ∘ h.lfsr, k.morphs ∘ h.morphs, k.scenes ∘ h.scenes⟩

/-- A change outside the view before an operation. -/
theorem State.KeepsTables.after {s t u : State} (k : t.KeepsTables u) (h : t.tablesView = s.tablesView) : s.KeepsTables u :=
  (of_view h).trans k

/-- A change outside the view after an operation. -/
theorem State.KeepsTables.before {s t u : State} (h : s.KeepsTables t) (k : u.tablesView = t.tablesView) : s.KeepsTables u :=
  h.trans (of_view k)

theorem State.KeepsTables.foldl {α : Type} {f : State → α → State} (h : ∀ (t : State) (a : α), t.KeepsTables (f t a)) (ls : List α)
    (s : State) : s.KeepsTables (ls.foldl f s) :=
  foldl_holds (fun t => s.KeepsTables t) f (fun t a ht => ht.trans (h t a)) ls s (.refl s)

theorem lfsr_of_surroundings {s t : State} (h : t.surroundings = s.surroundings) : t.modulation.lfsr = s.modulation.lfsr :=
  (congrArg (fun u => u.modulation.lfsr) h : t.surroundings.modulation.lfsr = s.surroundings.modulation.lfsr)

theorem scenes_of_surroundings {s t : State} (h : t.surroundings = s.surroundings) : t.scenes = s.scenes :=
  (congrArg State.scenes h : t.surroundings.scenes = s.surroundings.scenes)

/-- An operation on the slots keeps the tables if it keeps the morphs. -/
theorem State.KeepsTables.of_surroundings {s t : State} (h : t.surroundings = s.surroundings) (hm : s.morphsOk → t.morphsOk) :
    s.KeepsTables t :=
  ⟨tempo_of_surroundings h ▸ .refl _, fun hl => lfsr_of_surroundings h ▸ hl, hm, State.scenesOk_of_scenes (scenes_of_surroundings h)⟩

/-- An operation of the Tempo Unit keeps the tables if it keeps the unit. -/
theorem State.KeepsTables.of_tempo {s t : State} (h : t.outsideTempo = s.outsideTempo) (ht : s.tempo.Keeps t.tempo) :
    s.KeepsTables t := by
  have lfsr : t.modulation.lfsr = s.modulation.lfsr :=
    (congrArg (fun u => u.modulation.lfsr) h : t.outsideTempo.modulation.lfsr = s.outsideTempo.modulation.lfsr)
  exact ⟨ht, fun hl => lfsr ▸ hl,
    State.morphsOk_of_morphs (congrArg State.morphs h : t.outsideTempo.morphs = s.outsideTempo.morphs),
    State.scenesOk_of_scenes (congrArg State.scenes h : t.outsideTempo.scenes = s.outsideTempo.scenes)⟩

/-- An operation of the Scene Store keeps the tables if it keeps the order of the entries. -/
theorem State.KeepsTables.of_scenes {s t : State} (h : t.outsideScenes = s.outsideScenes) (hs : s.scenesOk → t.scenesOk) :
    s.KeepsTables t := by
  have lfsr : t.modulation.lfsr = s.modulation.lfsr :=
    (congrArg (fun u => u.modulation.lfsr) h : t.outsideScenes.modulation.lfsr = s.outsideScenes.modulation.lfsr)
  have tempo : t.tempo = s.tempo := (congrArg State.tempo h : t.outsideScenes.tempo = s.outsideScenes.tempo)
  exact ⟨tempo ▸ .refl _, fun hl => lfsr ▸ hl,
    State.morphsOk_of_morphs (congrArg State.morphs h : t.outsideScenes.morphs = s.outsideScenes.morphs), hs⟩

/-! #### Operations that leave the view as it is -/

section
variable (s : State) (n : SlotId) (l : LineId)

theorem tablesView_of_outsideHolds {s t : State} (h : t.outsideHolds = s.outsideHolds) : t.tablesView = s.tablesView :=
  (congrArg State.tablesView h : t.outsideHolds.tablesView = s.outsideHolds.tablesView)

@[simp] theorem State.setPort_tablesView (p : Port) (v : PortState) : (s.setPort p v).tablesView = s.tablesView := by cases p <;> rfl
@[simp] theorem State.placeResult_tablesView (p : Port) (r : Result) : (s.placeResult p r).tablesView = s.tablesView :=
  s.setPort_tablesView p _
@[simp] theorem State.raise_tablesView (p : Port) (f : Flag) : (s.raise p f).tablesView = s.tablesView := s.setPort_tablesView p _
@[simp] theorem State.raiseBoth_tablesView (f : Flag) : (s.raiseBoth f).tablesView = s.tablesView := rfl
@[simp] theorem State.setSlot_tablesView (v : Slot) : (s.setSlot n v).tablesView = s.tablesView := rfl
@[simp] theorem State.setVoice_tablesView (v : Voice) : (s.setVoice n v).tablesView = s.tablesView := rfl
@[simp] theorem State.setPool_tablesView (q : Pool) : (s.setPool q).tablesView = s.tablesView := rfl
@[simp] theorem State.startClearing_tablesView : s.startClearing.tablesView = s.tablesView := rfl
@[simp] theorem State.renew_tablesView (p : Port) : (s.renew p n).tablesView = s.tablesView :=
  tablesView_of_outsideHolds (s.renew_outsideHolds n p)
@[simp] theorem State.releaseHolds_tablesView (p : Port) (ls : List SlotId) : (s.releaseHolds p ls).tablesView = s.tablesView :=
  tablesView_of_outsideHolds (s.releaseHolds_outsideHolds p ls)
@[simp] theorem State.takeHolds_tablesView (p : Port) (ls : List SlotId) : (s.takeHolds p ls).tablesView = s.tablesView :=
  tablesView_of_outsideHolds (s.takeHolds_outsideHolds p ls)
@[simp] theorem State.renewAll_tablesView (p : Port) (ls : List SlotId) : (s.renewAll p ls).tablesView = s.tablesView :=
  tablesView_of_outsideHolds (s.renewAll_outsideHolds p ls)
@[simp] theorem State.expireHold_tablesView : (s.expireHold n).tablesView = s.tablesView :=
  tablesView_of_outsideHolds (s.expireHold_outsideHolds n)
@[simp] theorem State.tickHold_tablesView : (s.tickHold n).tablesView = s.tablesView :=
  tablesView_of_outsideHolds (s.tickHold_outsideHolds n)

/-! #### Operations on the slots that leave the morphs as they are -/

@[simp] theorem State.endVoice_morphs : (s.endVoice n).morphs = s.morphs := rfl
@[simp] theorem State.followInput_morphs : (s.followInput n).morphs = s.morphs := rfl
@[simp] theorem State.updateClamped_morphs : (s.updateClamped n).morphs = s.morphs := rfl
@[simp] theorem State.giveBackLines_morphs (ls : List Line) : (s.giveBackLines ls).morphs = s.morphs := rfl
@[simp] theorem State.startClearing_morphs : s.startClearing.morphs = s.morphs := rfl
@[simp] theorem State.joinWaiting_morphs : (s.joinWaiting n).morphs = s.morphs := rfl
@[simp] theorem State.takeRouting_morphs (e : SceneEntry) : (s.takeRouting n e).morphs = s.morphs := rfl
@[simp] theorem State.writeShadow_morphs (b : Bank) : (s.writeShadow n b).morphs = s.morphs := rfl
@[simp] theorem State.prepare_morphs (a : Alg) (b : Bank) (es : List EntryId) : (s.prepare n a b es).morphs = s.morphs := by
  simp [State.prepare]
@[simp] theorem State.recallFailed_morphs : (s.recallFailed n).morphs = s.morphs := congrArg (·.2.1) (s.recallFailed_tables n)

@[simp] theorem State.startGrowth_morphs (k : Nat) : (s.startGrowth n l k).morphs = s.morphs := by
  unfold State.startGrowth; split
  · split
    · rfl
    · split <;> rfl
  · rfl

@[simp] theorem State.growthEnd_morphs : (s.growthEnd n l).morphs = s.morphs := by
  unfold State.growthEnd; split
  · dsimp only; split
    · split_ifs
      · exact State.startGrowth_morphs _ n l _
      · rfl
    · rfl
  · rfl

@[simp] theorem State.crossfadeEnded_morphs : (s.crossfadeEnded n l).morphs = s.morphs := by
  unfold State.crossfadeEnded; split
  · split
    · exact State.growthEnd_morphs _ n l
    · rfl
  · rfl

@[simp] theorem State.takePending_morphs : (s.takePending n).morphs = s.morphs := by
  unfold State.takePending; split <;> rfl

@[simp] theorem State.abortRecall_morphs : s.abortRecall.morphs = s.morphs := by
  unfold State.abortRecall; split_ifs <;> rfl

@[simp] theorem State.soundMute_morphs (g : Rat) : (s.soundMute n g).morphs = s.morphs := by
  unfold State.soundMute; split_ifs
  · rfl
  · exact s.requestFade_morphs n g 8

@[simp] theorem State.muteSlot_morphs : (s.muteSlot n).morphs = s.morphs := by
  unfold State.muteSlot; split
  · exact State.soundMute_morphs _ n 0
  · rfl
  · rfl

@[simp] theorem State.unmuteSlot_morphs : (s.unmuteSlot n).morphs = s.morphs := by
  unfold State.unmuteSlot; split
  · exact State.soundMute_morphs _ n 1
  · rfl
  · rfl

@[simp] theorem State.recallRouting_morphs (e : SceneEntry) : (s.recallRouting n e).morphs = s.morphs := by
  unfold State.recallRouting; dsimp only; split_ifs
  · exact State.muteSlot_morphs _ n
  · exact State.unmuteSlot_morphs _ n

@[simp] theorem State.takeLiveReport_morphs (ln : Line) : (s.takeLiveReport n l ln).morphs = s.morphs := by
  unfold State.takeLiveReport; split_ifs
  · exact State.leaveWaiting_morphs _ n
  · rfl
  · unfold State.startCrossfade State.addCrossfade; split_ifs <;> rfl
  · rfl

@[simp] theorem State.rezeroCurrent_morphs : (s.rezeroCurrent n l).morphs = s.morphs := by
  unfold State.rezeroCurrent; split <;> rfl

@[simp] theorem State.settleGrowth_morphs : (s.settleGrowth n l).morphs = s.morphs := by
  unfold State.settleGrowth; split <;> rfl

end

/-! #### Operations on the slots that lose morphs at most -/

/-- The second state has no morph entry that the first has not, and the same surroundings of the slots. -/
structure State.LosesMorphs (s t : State) : Prop where
  surroundings : t.surroundings = s.surroundings
  morph : ∀ (n : SlotId) (m : Morph), t.morphs[n] = some m → s.morphs[n] = some m

theorem State.LosesMorphs.of_morphs {s t : State} (hs : t.surroundings = s.surroundings := by simp)
    (hm : t.morphs = s.morphs := by simp) : s.LosesMorphs t := ⟨hs, fun n m h => by rw [← hm]; exact h⟩

theorem State.LosesMorphs.refl (s : State) : s.LosesMorphs s := .of_morphs rfl rfl

theorem State.LosesMorphs.trans {s t u : State} (h : s.LosesMorphs t) (k : t.LosesMorphs u) : s.LosesMorphs u :=
  ⟨k.surroundings.trans h.surroundings, fun n m hm => h.morph n m (k.morph n m hm)⟩

/-- A change that leaves the morphs, before an operation. -/
theorem State.LosesMorphs.after {s t u : State} (k : t.LosesMorphs u)
    (hs : t.surroundings = s.surroundings := by simp) (hm : t.morphs = s.morphs := by simp) : s.LosesMorphs u := (of_morphs hs hm).trans k

/-- A change that leaves the morphs, after an operation. -/
theorem State.LosesMorphs.before {s t u : State} (h : s.LosesMorphs t)
    (hs : u.surroundings = t.surroundings := by simp) (hm : u.morphs = t.morphs := by simp) : s.LosesMorphs u := h.trans (of_morphs hs hm)

theorem State.LosesMorphs.foldl {α : Type} {f : State → α → State} (h : ∀ (t : State) (a : α), t.LosesMorphs (f t a)) (ls : List α)
    (s : State) : s.LosesMorphs (ls.foldl f s) :=
  foldl_holds (fun t => s.LosesMorphs t) f (fun t a ht => ht.trans (h t a)) ls s (.refl s)

theorem State.LosesMorphs.keepsTables {s t : State} (h : s.LosesMorphs t) : s.KeepsTables t :=
  .of_surroundings h.surroundings fun hs n m hm => hs n m (h.morph n m hm)

section
variable (s : State) (n : SlotId) (l : LineId)

theorem State.setMorph_none_losesMorphs : s.LosesMorphs (s.setMorph n none) := by
  refine ⟨rfl, fun k m h => ?_⟩
  rw [State.setMorph_morphs, table_get_set] at h
  split_ifs at h
  exact h

theorem State.removeMorph_losesMorphs : s.LosesMorphs (s.removeMorph n) := by
  unfold State.removeMorph; split
  · exact .refl s
  · exact (s.setMorph_none_losesMorphs n).before

theorem State.emptySlot_losesMorphs : s.LosesMorphs (s.emptySlot n) :=
  (s.setMorph_none_losesMorphs n).before (hm := by simp [State.emptySlot])

theorem State.replaceRegion_losesMorphs (k : Nat) : s.LosesMorphs (s.replaceRegion n l k) := by
  unfold State.replaceRegion; split
  · split
    · exact .of_morphs
    · exact .after (State.emptySlot_losesMorphs _ n)
  · exact .refl s

theorem State.evalNeed_losesMorphs : s.LosesMorphs (s.evalNeed n l) := by
  have clamped : ∀ t : State, t.LosesMorphs (t.updateClamped n) := fun t => .of_morphs
  have above : ∀ ln k, s.LosesMorphs (s.needAbove n l ln k) := fun ln k => by
    unfold State.needAbove; split_ifs
    · exact s.replaceRegion_losesMorphs n l k
    · exact .of_morphs
    · exact .of_morphs
    · exact .refl s
  unfold State.evalNeed; split_ifs
  · split
    · split_ifs
      · exact (above _ _).trans (clamped _)
      · exact clamped s
    · exact .refl s
  · exact .refl s

theorem State.evalWritten_losesMorphs (ixs : List ParamIx) : s.LosesMorphs (s.evalWritten n ixs) := by
  unfold State.evalWritten; split
  · exact .foldl (fun t k => t.evalNeed_losesMorphs n k) _ _
  · exact .refl s

theorem State.beginFading_losesMorphs (next : Option Alg) : s.LosesMorphs (s.beginFading n next) := by
  have removed := State.LosesMorphs.after (s := s)
    (State.removeMorph_losesMorphs (s.setSlot n { s.slots[n] with state := .fading, next := next }) n)
  unfold State.beginFading
  exact removed.before

theorem State.fadeEnded_losesMorphs : s.LosesMorphs (s.fadeEnded n) := by
  unfold State.fadeEnded; dsimp only; split
  · exact .after (State.emptySlot_losesMorphs _ n)
  · split
    · exact .of_morphs
    · exact .after (State.emptySlot_losesMorphs _ n)

theorem State.forceFadeEnds_losesMorphs : s.LosesMorphs s.forceFadeEnds := by
  refine .foldl (fun t k => ?_) _ _
  split_ifs
  · exact t.fadeEnded_losesMorphs k
  · exact .refl t

theorem State.rezeroLine_losesMorphs : s.LosesMorphs (State.rezeroLine n s l) := by
  have deferred : ∀ t : State, t.LosesMorphs (t.settleDeferred n l) := fun t => by
    unfold State.settleDeferred; split
    · split
      · dsimp only; split_ifs
        · exact .after (State.replaceRegion_losesMorphs _ n l _)
        · exact .of_morphs
      · exact .refl t
    · exact .refl t
  unfold State.rezeroLine; split_ifs
  · exact .after ((deferred ((s.settleGrowth n l).rezeroCurrent n l)).before)
  · exact .refl s

theorem State.rezeroSlot_losesMorphs : s.LosesMorphs (s.rezeroSlot n) := by
  unfold State.rezeroSlot; split_ifs
  · exact .refl s
  · exact .after (.foldl (fun t l => t.rezeroLine_losesMorphs n l) _ _)

/-! #### The entries of a recall that lose morphs at most (R117 to R120) -/

theorem State.cutParams_losesMorphs (b : Bank) : s.LosesMorphs (s.cutParams n b) := by
  unfold State.cutParams
  exact (s.removeMorph_losesMorphs n).trans (.after (State.evalWritten_losesMorphs _ n _))

theorem State.recallEmpty_losesMorphs (e : SceneEntry) : s.LosesMorphs (s.recallEmpty n e).1 := by
  refine .of_morphs (by simp) ?_
  unfold State.recallEmpty; split_ifs
  · split <;> simp
  · rfl

theorem State.recallReplace_losesMorphs (e : SceneEntry) : s.LosesMorphs (s.recallReplace n e).1 := by
  refine .of_morphs (by simp) ?_
  unfold State.recallReplace; split_ifs
  · split <;> simp
  · rfl

theorem State.recallPreparing_losesMorphs (e : SceneEntry) : s.LosesMorphs (s.recallPreparing n e).1 := by
  have written := State.LosesMorphs.after (s := s) (t := (s.takeRouting n e).writeShadow n (s.entryBank e))
    (State.evalWritten_losesMorphs _ n allParams)
  unfold State.recallPreparing; dsimp only; split_ifs
  · exact written.before
  · exact written

theorem State.recallFade_losesMorphs (e : SceneEntry) (old : Alg) : s.LosesMorphs (s.recallFade n e old).1 := by
  unfold State.recallFade; split_ifs
  · exact (s.beginFading_losesMorphs n (some e.algorithm)).before
  · exact .refl s

theorem State.recallFading_losesMorphs (e : SceneEntry) (old : Alg) : s.LosesMorphs (s.recallFading n e old).1 := by
  unfold State.recallFading; split_ifs
  · exact .of_morphs
  · exact .refl s

/-! #### ASSIGN and CLEAR -/

theorem State.assignByState_losesMorphs (a : Alg) : s.LosesMorphs (s.assignByState n a).state := by
  have same : s.LosesMorphs (s.assignSame n a).state := by
    have written := State.LosesMorphs.after (s := s.removeMorph n)
      (State.evalWritten_losesMorphs ((s.removeMorph n).writeShadow n a.defaults) n allParams)
    unfold State.assignSame
    exact ((s.removeMorph_losesMorphs n).trans written).before
  have fade : ∀ o, s.LosesMorphs (s.assignFade n o a).state := fun o => by
    unfold State.assignFade; split_ifs
    · exact s.beginFading_losesMorphs n _
    · exact .refl s
  have next : ∀ o, s.LosesMorphs (s.assignNext n o a).state := fun o => by
    unfold State.assignNext; split_ifs
    · exact .of_morphs (State.removeEntry_surroundings _ n) (State.removeEntry_morphs _ n)
    · exact .refl s
  have empty : s.LosesMorphs (s.assignEmpty n a).state := by
    unfold State.assignEmpty State.allocateFor; split_ifs
    · split
      · exact .refl s
      · exact .of_morphs
    · exact .refl s
  have replace : s.LosesMorphs (s.assignReplace n a).state := by
    unfold State.assignReplace State.allocateFor; split_ifs
    · split
      · exact .refl s
      · exact .of_morphs
    · exact .refl s
  unfold State.assignByState; split
  · split_ifs
    · exact same
    · exact replace
  · split_ifs
    · exact same
    · exact fade _
  · split_ifs
    · exact same
    · exact fade _
  · exact next _
  · exact empty

theorem State.clearByState_losesMorphs : s.LosesMorphs (s.clearByState n).state := by
  unfold State.clearByState; split
  · exact .refl s
  · exact s.emptySlot_losesMorphs n
  · exact s.beginFading_losesMorphs n none
  · exact s.beginFading_losesMorphs n none
  · exact .of_morphs (State.removeEntry_surroundings _ n) (State.removeEntry_morphs _ n)

end

end Sys2Proof.Machine

namespace Sys2Proof.Machine

/-! ### The operations that write the tables -/

/-! #### Morph entries made and stepped (R124 to R126) -/

/-- One index put into a set. -/
theorem placedBit (i ix : ParamIx) : (1#12 <<< i.val).getLsbD ix.val = (ix == i) := by decide +kernel +revert

/-- The indices of a list as bits. -/
theorem placedBits (ixs : List ParamIx) (ix : ParamIx) : ∀ w : BitVec 12,
    (ixs.foldl (fun (w : BitVec 12) (i : ParamIx) => w ||| (1#12 <<< i.val)) w).getLsbD ix.val
      = (w.getLsbD ix.val || ixs.contains ix) := by
  induction ixs with
  | nil => intro w; simp
  | cons i rest ih =>
    intro w
    rw [List.foldl_cons, ih, BitVec.getLsbD_or, placedBit, List.contains_cons, Bool.or_assoc]

theorem paramSet_ne_zero {ixs : List ParamIx} (h : ixs ≠ []) : paramSet ixs ≠ 0 := by
  obtain ⟨ix, hix⟩ := List.exists_mem_of_ne_nil ixs h
  intro hz
  have bit := placedBits ixs ix 0
  rw [show ixs.foldl (fun (w : BitVec 12) (i : ParamIx) => w ||| (1#12 <<< i.val)) 0 = 0 from hz] at bit
  simp [hix] at bit

section
variable (s : State) (n : SlotId)

/-- R124: a morph entry made or moved on. -/
theorem State.setMorph_keepsTables {m : Morph} (h : s.morphsOk → m.unfinished) : s.KeepsTables (s.setMorph n (some m)) := by
  refine .of_surroundings rfl fun hs k x hx => ?_
  rw [State.setMorph_morphs, table_get_set] at hx
  split_ifs at hx
  · obtain rfl : m = x := Option.some.inj hx
    exact h hs
  · exact hs k x hx

theorem State.evalWritten_keepsTables (ixs : List ParamIx) : s.KeepsTables (s.evalWritten n ixs) :=
  (s.evalWritten_losesMorphs n ixs).keepsTables

/-- R126: indices taken out of a morph leave an entry that is unfinished, or none. -/
theorem State.endMorphing_keepsTables (ixs : List ParamIx) : s.KeepsTables (s.endMorphing n ixs) := by
  unfold State.endMorphing; dsimp only; split
  · exact .refl s
  · rename_i m hm
    split_ifs with hnone
    · exact (s.removeMorph_losesMorphs n).keepsTables
    · exact s.setMorph_keepsTables n fun hs => ⟨(hs n m hm).1, hnone⟩

/-- R124: a morph made has a step to come and an index to move. -/
theorem State.makeMorph_keepsTables (a : Alg) (target : Bank) {steps : Nat} (hsteps : 1 ≤ steps)
    (hmoves : a.morphingSet s.slots[n].active target ≠ []) : s.KeepsTables (s.makeMorph n a target steps) := by
  have made := s.setMorph_keepsTables n
    (m := ⟨s.slots[n].active, target, steps, 0, paramSet (a.morphingSet s.slots[n].active target)⟩)
    fun _ => ⟨hsteps, paramSet_ne_zero hmoves⟩
  unfold State.makeMorph
  exact made.trans (.after (State.evalWritten_keepsTables _ n _) rfl)

/-- R125: a step that is not the last leaves the entry unfinished; the last one removes it. -/
theorem State.morphStep_keepsTables : s.KeepsTables (s.morphStep n) := by
  unfold State.morphStep; split
  · rename_i m a hm _
    dsimp only
    generalize hw : (s.setMorph n (some { m with done := m.done + 1 })).writeShadow n _ = w
    have stepped : w.morphs = s.morphs.set n (some { m with done := m.done + 1 }) := by rw [← hw]; rfl
    have kept : w.surroundings = s.surroundings := by rw [← hw]; rfl
    generalize a.stepWrites s.tempo.applied m (m.done + 1) s.slots[n].shadow = written
    have lost := w.evalWritten_losesMorphs n written
    split_ifs with hlast
    · have removed := lost.trans (State.removeMorph_losesMorphs _ n)
      refine .of_surroundings (removed.surroundings.trans kept) fun hs k x hx => ?_
      by_cases hk : n = k
      · subst hk; rw [State.removeMorph_morph] at hx; cases hx
      · have before := removed.morph k x hx
        rw [stepped, table_get_set, if_neg hk] at before
        exact hs k x before
    · refine .trans (.trans (s.setMorph_keepsTables n (m := { m with done := m.done + 1 }) fun hs => ?_)
        (.of_surroundings (t := w) kept (State.morphsOk_of_morphs stepped))) lost.keepsTables
      exact ⟨Nat.lt_of_not_le hlast, (hs n m hm).2⟩
  · exact .refl s

/-- R18, R126: a bank written, with the indices written taken out of the morph and the needs evaluated. -/
theorem State.writtenOver_keepsTables (b : Bank) (written evaluated : List ParamIx) :
    s.KeepsTables (((s.writeShadow n b).endMorphing n written).evalWritten n evaluated) := by
  have ended := State.KeepsTables.after (s := s) ((s.writeShadow n b).endMorphing_keepsTables n written) rfl
  exact ended.trans (State.evalWritten_keepsTables _ n evaluated)

theorem State.propagateTo_keepsTables (tempo : Nat) : s.KeepsTables (s.propagateTo tempo n) := by
  unfold State.propagateTo; split_ifs
  · split
    · exact s.writtenOver_keepsTables n _ _ _
    · exact .refl s
  · exact .refl s

theorem State.writeParams_keepsTables (a : Alg) (prs : List (ParamIx × Int)) : s.KeepsTables (s.writeParams n a prs) :=
  (s.writtenOver_keepsTables n _ _ _).before rfl

/-! #### An entry of a recall (R117 to R120) -/

theorem State.recallSame_keepsTables (e : SceneEntry) (steps : Nat) : s.KeepsTables (s.recallSame n e steps).1 := by
  have routed : s.KeepsTables (s.recallRouting n e) := State.LosesMorphs.keepsTables .of_morphs
  unfold State.recallSame; dsimp only; split_ifs with h
  · exact routed.trans (.before (State.makeMorph_keepsTables _ n _ _ h.1 h.2) rfl)
  · exact routed.trans (State.cutParams_losesMorphs _ n _).keepsTables

theorem State.recallByState_keepsTables (e : SceneEntry) (steps : Nat) : s.KeepsTables (s.recallByState e steps).1 := by
  unfold State.recallByState; dsimp only; split
  · split_ifs
    · exact (s.recallPreparing_losesMorphs _ e).keepsTables
    · exact (s.recallReplace_losesMorphs _ e).keepsTables
  · split_ifs
    · exact s.recallSame_keepsTables _ e steps
    · exact (s.recallFade_losesMorphs _ e _).keepsTables
  · split_ifs
    · exact s.recallSame_keepsTables _ e steps
    · exact (s.recallFade_losesMorphs _ e _).keepsTables
  · exact (s.recallFading_losesMorphs _ e _).keepsTables
  · exact (s.recallEmpty_losesMorphs _ e).keepsTables

theorem State.recallEntry_keepsTables (p : Port) (g : Bool) (steps : Nat) (e : SceneEntry) :
    s.KeepsTables (State.recallEntry p g steps s e) := by
  have entry := s.recallByState_keepsTables e steps
  have renewed : s.KeepsTables ((s.recallByState e steps).1.renew p e.slot) := entry.before (State.renew_tablesView _ _ p)
  unfold State.recallEntry; dsimp only; split_ifs
  · exact .of_view rfl
  · exact entry.before rfl
  · exact renewed.before rfl
  · exact entry.before rfl
  · exact renewed.before rfl

end

/-! #### The Random Generator (R102) -/

/-- R102: a shift loses no bit: the bit that leaves enters with the exclusive-or. -/
theorem lfsrShift_ne_zero {w : BitVec 16} (h : w ≠ 0) : lfsrShift w ≠ 0 := by
  intro hz
  obtain ⟨hshift, hfeed⟩ := BitVec.or_eq_zero_iff.mp hz
  have upper : ∀ i, 1 ≤ i → w.getLsbD i = false := fun i hi => by
    have bit := congrArg (BitVec.getLsbD · (i - 1)) hshift
    rw [BitVec.getLsbD_ushiftRight, Nat.add_sub_cancel' hi] at bit
    exact bit.trans (by simp)
  have lowest : w.getLsbD 0 = false := by
    rw [upper 2 (by decide), upper 3 (by decide), upper 5 (by decide)] at hfeed
    simpa using hfeed
  refine h (BitVec.eq_of_getLsbD_eq fun i _ => ?_)
  rcases Nat.eq_zero_or_pos i with rfl | hi
  · simpa using lowest
  · simpa using upper i hi

theorem lfsrDraw_ne_zero {w : BitVec 16} (h : w ≠ 0) : lfsrDraw w ≠ 0 := by
  have shifts : ∀ k : Nat, Nat.repeat lfsrShift k w ≠ 0 := fun k => by
    induction k with
    | zero => exact h
    | succ k ih => exact lfsrShift_ne_zero ih
  exact shifts 16

theorem ModulationUnit.stepAll_lfsr {m : ModulationUnit} (h : m.lfsr ≠ 0) : m.stepAll.lfsr ≠ 0 :=
  foldl_holds (fun u : ModulationUnit => u.lfsr ≠ 0) ModulationUnit.stepLfo (fun u k hu => by
    unfold ModulationUnit.stepLfo; dsimp only; split_ifs
    · exact lfsrDraw_ne_zero hu
    · exact hu) allLfos m h

theorem ModulationUnit.mapLfos_lfsr (m : ModulationUnit) (g : Lfo → Lfo) : (m.mapLfos g).lfsr = m.lfsr :=
  foldl_keeps ModulationUnit.lfsr (fun (u : ModulationUnit) (k : LfoId) => { u with lfos := u.lfos.set k (g u.lfos[k]) })
    (fun _ _ => rfl) allLfos m

theorem ModulationUnit.absorb_lfsr (m : ModulationUnit) (b : Byte) : (m.absorb b).lfsr = m.lfsr := by
  unfold ModulationUnit.absorb; split <;> rfl

/-- A change of the Modulation Unit that keeps the LFSR away from 0. -/
theorem State.setModulation_keepsTables (s : State) {m : ModulationUnit} (h : s.modulation.lfsr ≠ 0 → m.lfsr ≠ 0) :
    s.KeepsTables (s.setModulation m) := ⟨.refl _, h, id, id⟩

/-! #### The Scene Store (R107, R110 to R113) -/

section
variable (s : State) (k : SceneId)

/-- R107: a record written in slot order. -/
theorem State.setScene_keepsTables {v : Scene} (h : s.scenesOk → v.entries.Pairwise fun a b => a.slot < b.slot) :
    s.KeepsTables (s.setScene k v) := by
  refine .of_scenes rfl fun hs j => ?_
  rw [State.setScene_scenes, table_get_set]
  split_ifs
  · exact h hs
  · exact hs j

theorem State.verifyScene_keepsTables : s.KeepsTables (s.verifyScene k) := by
  unfold State.verifyScene; split_ifs
  · exact .before (s.setScene_keepsTables k (v := { s.scenes[k] with state := .corrupt }) fun hs => hs k) rfl
  · exact .refl s

theorem State.storeSweep_keepsTables : s.KeepsTables s.storeSweep := by
  refine .of_scenes s.storeSweep_outsideScenes fun hs j => ?_
  rw [s.storeSweep_scene j]
  unfold Scene.swept; split_ifs
  · exact hs j
  · exact hs j

theorem State.captureEntry_slot {n : SlotId} {e : SceneEntry} (h : s.captureEntry n = some e) : e.slot = n := by
  unfold State.captureEntry at h; split at h
  · cases h
  · cases h
  · cases h; rfl

/-- R111: the slots of a set are captured in increasing order. -/
theorem State.captured_ordered (w : SlotSet) : ((slotsOf w).filterMap s.captureEntry).Pairwise fun a b => a.slot < b.slot := by
  have slots : (slotsOf w).Pairwise (· < ·) := allSlots_sorted.filter _
  refine List.Pairwise.filterMap s.captureEntry (fun n m hnm a ha b hb => ?_) slots
  rw [s.captureEntry_slot ha, s.captureEntry_slot hb]; exact hnm

theorem storeSceneDecision_keepsTables (b : List Byte) : s.KeepsTables (storeSceneDecision b s).state := by
  unfold storeSceneDecision; split
  · split
    · dsimp only; split
      · exact .refl s
      · exact s.setScene_keepsTables _ fun _ => s.captured_ordered _
    · exact .refl s
  · exact .refl s

theorem State.writeEntry_keepsTables (tempo : Option Nat) (time : Nat) (e : SceneEntry) :
    s.KeepsTables (s.writeEntry k tempo time e).state :=
  s.setScene_keepsTables k fun hs => (mem_placeEntry e _ (hs k)).2

theorem writeSceneEntryDecision_keepsTables (b : List Byte) : s.KeepsTables (writeSceneEntryDecision b s).state := by
  unfold writeSceneEntryDecision; split
  · split_ifs
    · split
      · split
        · exact s.writeEntry_keepsTables _ _ _ _
        · split_ifs
          · exact s.verifyScene_keepsTables _
          · exact s.writeEntry_keepsTables _ _ _ _
        · exact .refl s
      · exact .refl s
    · exact .refl s
  · exact .refl s

theorem eraseSceneDecision_keepsTables (b : List Byte) : s.KeepsTables (eraseSceneDecision b s).state := by
  unfold eraseSceneDecision; split
  · split
    · exact s.setScene_keepsTables _ fun _ => .nil
    · exact .refl s
  · exact .refl s

theorem readSceneDecision_keepsTables (b : List Byte) : s.KeepsTables (readSceneDecision b s).state := by
  unfold readSceneDecision; split
  · split
    · split
      · exact .refl s
      · split_ifs
        · exact s.verifyScene_keepsTables _
        · exact .refl s
      · exact .refl s
    · exact .refl s
  · exact .refl s

end

/-! ### Decisions keep the tables -/

section
variable (s : State)

theorem setTempoDecision_keepsTables (b : List Byte) : s.KeepsTables (setTempoDecision b s).state := by
  unfold setTempoDecision; split
  · split
    · exact .of_tempo (s.writeControl_outsideTempo _) (s.writeControl_keeps _)
    · exact .refl s
  · exact .refl s

theorem setTempoSourceDecision_keepsTables (b : List Byte) : s.KeepsTables (setTempoSourceDecision b s).state := by
  unfold setTempoSourceDecision; split
  · split
    · refine .of_tempo (by simp) ?_
      rw [State.answerDone_state, State.reevaluate_tempo]; exact .reevaluated rfl rfl id
    · exact .refl s
  · exact .refl s

theorem tapDecision_keepsTables (b : List Byte) (time : Nat) : s.KeepsTables (tapDecision b time s).state := by
  unfold tapDecision; split
  · exact .of_tempo (s.enterTap_outsideTempo time) (s.enterTap_keeps time)
  · exact .refl s

theorem setTapOptionsDecision_keepsTables (b : List Byte) : s.KeepsTables (setTapOptionsDecision b s).state := by
  unfold setTapOptionsDecision; split
  · split
    · exact .of_tempo rfl ⟨id, id⟩
    · exact .refl s
  · exact .refl s

theorem setLfoDecision_keepsTables (p : Port) (b : List Byte) : s.KeepsTables (setLfoDecision p b s).state := by
  unfold setLfoDecision; split
  · split
    · split_ifs
      · exact .refl s
      · exact s.setModulation_keepsTables id
    · exact .refl s
  · exact .refl s

theorem seedRandomDecision_keepsTables (b : List Byte) : s.KeepsTables (seedRandomDecision b s).state := by
  unfold seedRandomDecision; split
  · split_ifs with h
    · exact .refl s
    · exact s.setModulation_keepsTables fun _ => h
  · exact .refl s

theorem setRandomModeDecision_keepsTables (b : List Byte) : s.KeepsTables (setRandomModeDecision b s).state := by
  unfold setRandomModeDecision; split
  · split
    · exact s.setModulation_keepsTables id
    · exact .refl s
  · exact .refl s

/-! #### Decisions that leave the view as it is -/

theorem Verdict.renewed_tablesView (v : Verdict) (p : Port) (n : SlotId) : (v.renewed p n).state.tablesView = v.state.tablesView := by
  unfold Verdict.renewed; split_ifs
  · exact State.renew_tablesView _ n p
  · rfl

theorem routeDecision_tablesView (p : Port) (b : List Byte) : (routeDecision p b s).state.tablesView = s.tablesView := by
  unfold routeDecision; repeat' split
  all_goals simp [Verdict.renewed_tablesView, State.routeSlot]
theorem readSlotDecision_tablesView (p : Port) (b : List Byte) : (readSlotDecision p b s).state.tablesView = s.tablesView := by
  unfold readSlotDecision State.clearClip; repeat' split
  all_goals simp
theorem readPoolDecision_tablesView (b : List Byte) : (readPoolDecision b s).state.tablesView = s.tablesView := by
  unfold readPoolDecision; split <;> simp
theorem takeHoldDecision_tablesView (p : Port) (b : List Byte) : (takeHoldDecision p b s).state.tablesView = s.tablesView := by
  unfold takeHoldDecision; dsimp only; repeat' split
  all_goals simp
theorem releaseHoldDecision_tablesView (p : Port) (b : List Byte) : (releaseHoldDecision p b s).state.tablesView = s.tablesView := by
  unfold releaseHoldDecision; dsimp only; split <;> simp
theorem setLeaseDecision_tablesView (p : Port) (b : List Byte) : (setLeaseDecision p b s).state.tablesView = s.tablesView := by
  unfold setLeaseDecision; dsimp only; repeat' split
  all_goals simp
theorem readTempoDecision_tablesView (b : List Byte) : (readTempoDecision b s).state.tablesView = s.tablesView := by
  unfold readTempoDecision; split <;> simp
theorem readRecallDecision_tablesView (b : List Byte) : (readRecallDecision b s).state.tablesView = s.tablesView := by
  unfold readRecallDecision; split <;> rfl
theorem readEventsDecision_tablesView (p : Port) (b : List Byte) : (readEventsDecision p b s).state.tablesView = s.tablesView := by
  unfold readEventsDecision; split <;> simp
theorem setEventMaskDecision_tablesView (p : Port) (b : List Byte) :
    (setEventMaskDecision p b s).state.tablesView = s.tablesView := by
  unfold setEventMaskDecision; repeat' split
  all_goals simp
theorem portResetDecision_tablesView (p : Port) (b : List Byte) : (portResetDecision p b s).state.tablesView = s.tablesView := by
  unfold portResetDecision; split <;> simp

/-! #### The slot commands and the recall -/

theorem State.KeepsTables.renewed {s : State} {v : Verdict} (h : s.KeepsTables v.state) (p : Port) (n : SlotId) :
    s.KeepsTables (v.renewed p n).state := h.before (v.renewed_tablesView p n)

theorem assignDecision_keepsTables (p : Port) (b : List Byte) : s.KeepsTables (assignDecision p b s).state := by
  unfold assignDecision; split
  · split_ifs
    · exact .refl s
    · split
      · split_ifs
        · exact .refl s
        · exact (s.assignByState_losesMorphs _ _).keepsTables.renewed p _
      · exact .refl s
  · exact .refl s

theorem clearDecision_keepsTables (p : Port) (b : List Byte) : s.KeepsTables (clearDecision p b s).state := by
  unfold clearDecision; split
  · split_ifs
    · exact .refl s
    · split
      · split_ifs
        · exact .refl s
        · exact (s.clearByState_losesMorphs _).keepsTables.renewed p _
      · exact .refl s
  · exact .refl s

theorem State.paramsByState_keepsTables (n : SlotId) (prs : List (ParamIx × Int)) : s.KeepsTables (s.paramsByState n prs).state := by
  unfold State.paramsByState; split
  · exact .refl s
  · exact .refl s
  · exact .refl s
  · split_ifs
    · exact s.writeParams_keepsTables n _ prs
    · exact .refl s

theorem paramsDecision_keepsTables (p : Port) (b : List Byte) : s.KeepsTables (paramsDecision p b s).state := by
  unfold paramsDecision; split
  · split
    · split_ifs
      · exact .refl s
      · exact (s.paramsByState_keepsTables _ _).renewed p _
    · exact .refl s
  · exact .refl s

theorem muteChecks_keepsTables (p : Port) (b : List Byte) {f : State → SlotId → State} (hf : ∀ (t : State) n, t.LosesMorphs (f t n)) :
    s.KeepsTables (muteChecks p b f s).state := by
  unfold muteChecks; split
  · split
    · split_ifs
      · exact .refl s
      · exact State.KeepsTables.renewed (hf s _).keepsTables p _
      · exact .refl s
    · exact .refl s
  · exact .refl s

/-- R116: the tempo of a scene, offered. -/
theorem State.offerTempo_keepsTables (tempo : Option Nat) : s.KeepsTables (s.offerTempo tempo).1 := by
  unfold State.offerTempo; split
  · exact .refl s
  · split_ifs
    · exact .of_tempo (s.writeControl_outsideTempo _) (s.writeControl_keeps _)
    · exact .refl s

theorem State.carryOutRecall_keepsTables (p : Port) (g : Bool) (k : SceneId) (time : Option Nat) :
    s.KeepsTables (s.carryOutRecall p g k time).state := by
  have opened : s.KeepsTables (s.abortRecall.openRecall k (recallOrigin p g)) :=
    State.LosesMorphs.keepsTables (.of_morphs (hm := s.abortRecall_morphs))
  have entry : ∀ (t : State) e, t.KeepsTables (State.recallEntry p g (s.rate.blocks (time.getD s.scenes[k].morphTime)) t e) :=
    fun t e => t.recallEntry_keepsTables p g _ e
  have settled := (opened.trans (State.offerTempo_keepsTables _ s.scenes[k].tempo)).trans (.foldl entry s.scenes[k].entries _)
  unfold State.carryOutRecall; dsimp only; split_ifs
  · exact settled.before rfl
  · exact settled.before rfl

theorem recallDecision_keepsTables (p : Port) (g : Bool) (b : List Byte) : s.KeepsTables (recallDecision p g b s).state := by
  unfold recallDecision; split
  · split_ifs
    · exact .refl s
    · split
      · split
        · exact .refl s
        · split_ifs
          · exact s.verifyScene_keepsTables _
          · exact s.carryOutRecall_keepsTables p g _ _
        · exact .refl s
      · exact .refl s
  · exact .refl s

theorem abortMorphDecision_keepsTables (p : Port) (b : List Byte) : s.KeepsTables (abortMorphDecision p b s).state := by
  have aborted : ∀ ls : List SlotId, s.LosesMorphs (s.abortMorphs ls) := fun ls => .foldl State.removeMorph_losesMorphs ls s
  unfold abortMorphDecision; split
  · dsimp only; split_ifs
    · exact .refl s
    · exact (aborted _).keepsTables.before (State.renewAll_tablesView _ p _)
  · exact .refl s

/-! #### QUIET, WAKE and the entries to STARTING (R54, R129, R177 to R180) -/

theorem quietDecision_keepsTables (b : List Byte) : s.KeepsTables (quietDecision b s).state := by
  have removed : s.LosesMorphs s.abortRecall.removeMorphs :=
    .after (.foldl State.removeMorph_losesMorphs allSlots s.abortRecall)
  have fade : ∀ t : State, t.startQuietFade.tablesView = t.tablesView := fun t => by
    unfold State.startQuietFade; split_ifs <;> rfl
  unfold quietDecision; repeat' split
  · exact .refl s
  · exact removed.keepsTables.before (fade _)
  · exact .refl s

theorem wakeDecision_keepsTables (b : List Byte) : s.KeepsTables (wakeDecision b s).state := by
  have ended : s.KeepsTables s.storeSweep.endQuietPeriod :=
    s.storeSweep_keepsTables.trans (.after (State.forceFadeEnds_losesMorphs _).keepsTables rfl)
  have rezeroed : s.KeepsTables s.storeSweep.endQuietPeriod.rezeroSlots :=
    ended.trans (State.LosesMorphs.foldl State.rezeroSlot_losesMorphs allSlots _).keepsTables
  have restarted : ∀ t : State, t.restartSound.tablesView = t.tablesView := fun t =>
    (congrArg State.tablesView t.restartSound_spec.1).trans rfl
  unfold wakeDecision; repeat' split
  · exact rezeroed.before (restarted _)
  · exact .refl s
  · exact .refl s

/-- R73: at reset CONTROL is in charge, its tempo applied and propagated. -/
theorem TempoUnit.reset_settled : TempoUnit.reset.settled := by
  refine ⟨rfl, fun v hv => ?_, ?_⟩
  · exact Option.some_injective _ hv
  · show tempoDistance 12000 12000 ≤ 4
    unfold tempoDistance; omega

/-- R73, R94, R177: at the entry to STARTING the tables have their reset values, but for the scene records. -/
theorem State.enterStarting_keepsTables (k : StartKind) {v : Vector Scene 32}
    (h : s.scenesOk → ∀ j : SceneId, v[j].entries.Pairwise fun a b => a.slot < b.slot) : s.KeepsTables (s.enterStarting k v) := by
  have noMorph : ∀ n : SlotId, (s.enterStarting k v).morphs[n] = none := fun _ => Vector.getElem_replicate ..
  refine ⟨⟨fun _ => TempoUnit.reset_settled, fun _ => TempoUnit.tapsOk_of_nil rfl⟩, fun _ => ?_,
    fun _ n m hm => ?_, h⟩
  · show (0x9C3B : BitVec 16) ≠ 0
    decide
  · rw [noMorph] at hm; cases hm

/-- R106, R177: a power-on reset empties every record. -/
theorem State.powerOn_keepsTables : s.KeepsTables s.powerOn :=
  s.enterStarting_keepsTables .power fun _ _ => by rw [Fin.getElem_fin, Vector.getElem_replicate]; exact .nil

/-- R178, R181: the start-up, whatever the pins and the supply. -/
theorem State.startUp_keepsTables (pins : StartPins) (mv : Nat) : s.KeepsTables ((s.sweptUp.pinsSampled pins).firstJudgement mv) := by
  have swept : s.KeepsTables s.sweptUp := by
    unfold State.sweptUp; dsimp only; split_ifs
    · exact .after (State.storeSweep_keepsTables _) rfl
    · exact .of_view rfl
  have sampled : ∀ t : State, t.KeepsTables (t.pinsSampled pins) := fun t =>
    ⟨.setLink _ Iff.rfl, fun h => by
      show (t.modulation.started _).lfsr ≠ 0
      rw [show (t.modulation.started _).lfsr = _ from t.modulation.mapLfos_lfsr _]; exact h, id, id⟩
  refine (swept.trans (sampled _)).trans ?_
  generalize s.sweptUp.pinsSampled pins = t
  unfold State.firstJudgement; split_ifs
  · exact t.powerOn_keepsTables
  · refine .of_view ?_
    unfold State.supplyFalls State.fadeSupply; split_ifs <;> rfl
  · exact .refl t

/-! #### The block end (R66, R71) -/

/-- R66, R71: the random generator draws and the morphs step; the rest of a block end leaves the tables alone. -/
theorem State.blockEnd_keepsTables (sends : List (Vector Sample 8)) : s.KeepsTables (s.blockEnd sends) := by
  have fed : s.KeepsTables (s.feed sends) := s.setModulation_keepsTables fun h => by rw [ModulationUnit.absorb_lfsr]; exact h
  have handed : ∀ t : State, t.KeepsTables t.handOff := fun t => by
    have stepped : t.KeepsTables t.stepLfos := t.setModulation_keepsTables ModulationUnit.stepAll_lfsr
    have morphed : t.KeepsTables t.stepLfos.morphSteps := stepped.trans (.foldl State.morphStep_keepsTables allSlots _)
    exact morphed.before (State.handPeaks_keeps _ State.tablesView (fun _ _ _ => rfl) (fun _ _ => rfl))
  have processed : ∀ t : State, (t.soundingBlockEnd sends).tablesView = t.handOff.tablesView := fun t =>
    ((t.soundingBlockEnd_keeps sends State.tablesView (fun _ => rfl) (fun _ => rfl) (fun _ => rfl)).trans
      (State.finishFades_keeps _ State.tablesView (fun _ _ _ => rfl) (fun _ _ => rfl) (fun _ _ => rfl))).trans
      (State.takeUp_keeps _ State.tablesView (fun _ _ _ => rfl) (fun _ _ _ => rfl) (fun _ => rfl))
  unfold State.blockEnd; dsimp only; split_ifs
  · exact fed.before rfl
  · exact fed.trans ((handed _).before (processed _))

end

end Sys2Proof.Machine

namespace Sys2Proof.Machine

/-! ### Every command keeps the tables -/

theorem State.takeCommand_tablesView {s u : State} {p : Port} {c : Command} (h : s.takeCommand p c = some u) :
    u.tablesView = s.tablesView := by
  rcases State.takeCommand_spec h with ⟨_, _, ⟨rfl, _⟩ | ⟨rfl, _⟩⟩
  · exact s.setPort_tablesView p _
  · rfl

/-- A decision that keeps the tables makes its row keep them. -/
theorem runCommand_keepsTables {p : Port} {c : Command} {d : State → Verdict} {s t : State}
    (hd : ∀ u : State, u.KeepsTables (d u).state) (he : runCommand p c d s = .next t) : s.KeepsTables t := by
  rcases runCommand_spec he with ⟨_, rfl⟩ | ⟨u, hu, rfl⟩
  · exact .refl _
  · exact .before (.after (hd u) (State.takeCommand_tablesView hu)) (State.placeResult_tablesView _ p _)

/-- The same for a decision that leaves the view as it is. -/
theorem runCommand_keepsTables_of_view {p : Port} {c : Command} {d : State → Verdict} {s t : State}
    (hd : ∀ u, (d u).state.tablesView = u.tablesView) (he : runCommand p c d s = .next t) : s.KeepsTables t :=
  runCommand_keepsTables (fun u => .of_view (hd u)) he

section
variable {s t : State}

/-! #### The rows of the bus -/

theorem execRestart_keepsTables {p : Port} {tag : Byte} {b : List Byte} (he : execRestart p tag b s = .next t) :
    s.KeepsTables t := by
  unfold execRestart at he; split at he
  · cases he; exact .refl s
  · rename_i u hu
    have taken := State.takeCommand_tablesView hu
    split_ifs at he <;> cases he
    · exact .after (u.enterStarting_keepsTables _ id) taken
    · exact .of_view ((State.placeResult_tablesView _ p _).trans taken)

theorem execI2cAddress_tablesView {p : Port} {a : BitVec 7} {d : Direction} (he : execI2cAddress p a d s = .next t) :
    t.tablesView = s.tablesView := by
  unfold execI2cAddress State.judgeAddress at he; dsimp only at he
  repeat' split at he
  all_goals (cases he; simp)

theorem execBusTimeout_tablesView {p : Port} {bs : List Byte} (he : execBusTimeout p bs s = .next t) :
    t.tablesView = s.tablesView := by
  unfold execBusTimeout at he; dsimp only at he; split_ifs at he <;> cases he
  · rfl
  · exact s.setPort_tablesView _ _
  · exact s.setPort_tablesView _ _

/-! #### The rows of the Voice Engine and the Audio Port -/

theorem execFrameTaken_keepsTables {w : Vector AudioWord 16} (he : execFrameTaken w s = .next t) : s.KeepsTables t := by
  unfold execFrameTaken at he; dsimp only at he; split_ifs at he <;> cases he
  · exact .of_view rfl
  · exact .after (State.blockEnd_keepsTables _ _) rfl
  · exact .refl s

theorem execClockLost_tablesView (he : execClockLost s = .next t) : t.tablesView = s.tablesView := by
  have drop : s.dropModulation.tablesView = s.tablesView := foldl_keeps State.tablesView State.dropModulationOf (fun _ _ => rfl) _ _
  unfold execClockLost at he; dsimp only at he; split_ifs at he <;> cases he
  · exact drop
  · exact drop
  · rfl

theorem execFadeEnd_keepsTables {n : SlotId} (he : execFadeEnd n s = .next t) : s.KeepsTables t := by
  unfold execFadeEnd at he; dsimp only at he; split_ifs at he <;> cases he
  · have ended := (State.fadeEnded_losesMorphs { s with fadeReports := s.fadeReports.filter (· != n) } n).keepsTables
    exact State.KeepsTables.before (.after (s := s) ended rfl) rfl
  · exact .of_view rfl
  · exact .refl s

theorem execRegionLive_keepsTables {e : EntryId} (he : execRegionLive e s = .next t) : s.KeepsTables t := by
  have taken : ∀ q, (s.setPool q).tablesView = s.tablesView := fun _ => rfl
  have acted : ∀ q n l ln, (s.setPool q).KeepsTables ((s.setPool q).takeLiveReport n l ln) :=
    fun _ _ _ _ => State.LosesMorphs.keepsTables .of_morphs
  unfold execRegionLive at he; dsimp only at he
  split_ifs at he
  · split at he
    · split at he
      · cases he; split_ifs
        · exact .after (acted _ _ _ _) (taken _)
        · exact .of_view (taken _)
      · cases he; exact .of_view (taken _)
    · cases he; exact .of_view (taken _)
  · cases he; exact .refl s

theorem execExtensionComplete_keepsTables (he : execExtensionComplete s = .next t) : s.KeepsTables t := by
  unfold execExtensionComplete at he; split at he <;> cases he
  · rename_i q owner _
    refine .before (.after (t := s.setPool q) ?_ rfl) rfl
    unfold State.extensionEnded; split
    · exact State.LosesMorphs.keepsTables .of_morphs
    · exact .of_view rfl
  · exact .refl s

theorem execSlotPropagation_keepsTables (he : execSlotPropagation s = .next t) : s.KeepsTables t := by
  unfold execSlotPropagation at he; split at he <;> cases he
  · rename_i tempo rest _
    have taken : s.KeepsTables (s.setTempo { s.tempo with toSlots := rest }) := .of_tempo rfl ⟨id, id⟩
    exact (taken.trans (.foldl (fun t n => t.propagateTo_keepsTables n tempo) allSlots _)).before rfl
  · exact .refl s

/-! #### The rows of the Modulation Unit and the Tempo Unit -/

theorem execLfoPropagation_keepsTables (he : execLfoPropagation s = .next t) : s.KeepsTables t := by
  unfold execLfoPropagation at he; split at he <;> cases he
  · rename_i tempo rest _
    have taken : s.KeepsTables (s.setTempo { s.tempo with toModulation := rest }) := .of_tempo rfl ⟨id, id⟩
    exact taken.trans (State.setModulation_keepsTables _ fun h => by
      unfold ModulationUnit.propagated; rw [ModulationUnit.mapLfos_lfsr]; exact h)
  · exact .refl s

theorem execResync_keepsTables (he : execResync s = .next t) : s.KeepsTables t := by
  unfold execResync at he; split at he <;> cases he
  · rename_i rest _
    have taken : s.KeepsTables (s.setTempo { s.tempo with toModulation := rest }) := .of_tempo rfl ⟨id, id⟩
    exact taken.trans (State.setModulation_keepsTables _ fun h => by
      unfold ModulationUnit.resynced; rw [ModulationUnit.mapLfos_lfsr]; exact h)
  · exact .refl s

/-- R78, R79: a release opens the pulse, and may enter a tap. -/
theorem execTapRelease_keepsTables {time : Nat} (he : execTapRelease time s = .next t) : s.KeepsTables t := by
  have opened : ∀ k, s.KeepsTables (s.setTempo { s.tempo with pulse := .open, pulseTimer := k }) := fun _ => .of_tempo rfl ⟨id, id⟩
  unfold execTapRelease at he; dsimp only at he; split_ifs at he <;> cases he
  · exact opened _
  · exact (opened _).trans (.of_tempo (State.enterTap_outsideTempo _ _) (State.enterTap_keeps _ _))
  · exact opened _
  · exact .refl s

/-- R80: the history is cleared. -/
theorem TempoUnit.clearHistory_keeps (u : TempoUnit) : u.Keeps u.clearHistory := ⟨id, fun _ => TempoUnit.tapsOk_of_nil rfl⟩

theorem execLongPress_keepsTables {time : Nat} (he : execLongPress time s = .next t) : s.KeepsTables t := by
  unfold execLongPress at he; split_ifs at he <;> cases he
  · exact .of_tempo rfl (s.tempo.clearHistory_keeps.trans ⟨id, id⟩)
  · exact .refl s

theorem execTapFreshExpiry_keepsTables {time : Nat} (he : execTapFreshExpiry time s = .next t) : s.KeepsTables t := by
  unfold execTapFreshExpiry at he; split_ifs at he <;> cases he
  · refine .of_tempo (by simp) ?_
    rw [State.reevaluate_tempo]; exact .reevaluated rfl rfl id
  · exact .refl s

theorem State.linkBytes_keepsTables (s : State) (bytes : List LinkByte) (time : Nat) : s.KeepsTables (s.linkBytes bytes time) :=
  .of_tempo (s.linkBytes_outsideTempo bytes time) (s.linkBytes_keeps bytes time)

end

/-- R75, R82, R91, R102, R107, R124: every command keeps the tables. -/
theorem exec_keepsTables {i : Instr} {s t : State} (he : exec i s = .next t) : s.KeepsTables t := by
  cases i <;> unfold exec at he <;> dsimp only at he
  case assign p tag b => exact runCommand_keepsTables (fun u => assignDecision_keepsTables u p b) he
  case clear p tag b => exact runCommand_keepsTables (fun u => clearDecision_keepsTables u p b) he
  case params p tag b => exact runCommand_keepsTables (fun u => paramsDecision_keepsTables u p b) he
  case mute p tag b => exact runCommand_keepsTables (fun u => muteChecks_keepsTables u p b fun _ _ => .of_morphs) he
  case unmute p tag b => exact runCommand_keepsTables (fun u => muteChecks_keepsTables u p b fun _ _ => .of_morphs) he
  case route p tag b => exact runCommand_keepsTables_of_view (routeDecision_tablesView · p b) he
  case readSlot p tag b => exact runCommand_keepsTables_of_view (readSlotDecision_tablesView · p b) he
  case readPool p tag b => exact runCommand_keepsTables_of_view (readPoolDecision_tablesView · b) he
  case takeHold p tag b => exact runCommand_keepsTables_of_view (takeHoldDecision_tablesView · p b) he
  case releaseHold p tag b => exact runCommand_keepsTables_of_view (releaseHoldDecision_tablesView · p b) he
  case setLease p tag b => exact runCommand_keepsTables_of_view (setLeaseDecision_tablesView · p b) he
  case storeScene p tag b => exact runCommand_keepsTables (storeSceneDecision_keepsTables · b) he
  case writeSceneEntry p tag b => exact runCommand_keepsTables (writeSceneEntryDecision_keepsTables · b) he
  case eraseScene p tag b => exact runCommand_keepsTables (eraseSceneDecision_keepsTables · b) he
  case readScene p tag b => exact runCommand_keepsTables (readSceneDecision_keepsTables · b) he
  case recallScene p tag g b => exact runCommand_keepsTables (recallDecision_keepsTables · p g b) he
  case abortMorph p tag b => exact runCommand_keepsTables (abortMorphDecision_keepsTables · p b) he
  case readRecall p tag b => exact runCommand_keepsTables_of_view (readRecallDecision_tablesView · b) he
  case setTempo p tag b => exact runCommand_keepsTables (setTempoDecision_keepsTables · b) he
  case setTempoSource p tag b => exact runCommand_keepsTables (setTempoSourceDecision_keepsTables · b) he
  case tap p tag g b v => exact runCommand_keepsTables (tapDecision_keepsTables · b v) he
  case readTempo p tag b => exact runCommand_keepsTables_of_view (readTempoDecision_tablesView · b) he
  case setTapOptions p tag b => exact runCommand_keepsTables (setTapOptionsDecision_keepsTables · b) he
  case setLfo p tag b => exact runCommand_keepsTables (setLfoDecision_keepsTables · p b) he
  case seedRandom p tag b => exact runCommand_keepsTables (seedRandomDecision_keepsTables · b) he
  case setRandomMode p tag b => exact runCommand_keepsTables (setRandomModeDecision_keepsTables · b) he
  case readEvents p tag b => exact runCommand_keepsTables_of_view (readEventsDecision_tablesView · p b) he
  case setEventMask p tag b => exact runCommand_keepsTables_of_view (setEventMaskDecision_tablesView · p b) he
  case portReset p tag b => exact runCommand_keepsTables_of_view (portResetDecision_tablesView · p b) he
  case quiet p tag b => exact runCommand_keepsTables (quietDecision_keepsTables · b) he
  case wake p tag b => exact runCommand_keepsTables (wakeDecision_keepsTables · b) he
  case unknownCommand p tag c b =>
    unfold execUnknownCommand at he; split_ifs at he
    · cases he; exact .refl s
    · exact runCommand_keepsTables .refl he
  case restart p tag b => exact execRestart_keepsTables he
  case i2cAddress p a d => exact .of_view (execI2cAddress_tablesView he)
  case messageEnd p bs =>
    unfold execMessageEnd at he; split_ifs at he <;> cases he
    · exact .of_view (s.setPort_tablesView _ _)
    · exact .refl s
  case resultSent r =>
    unfold execResultSent at he; split at he <;> cases he
    · exact .of_view (s.setPort_tablesView _ _)
    · exact .refl s
  case readEnd r =>
    unfold execReadEnd at he; split_ifs at he <;> cases he
    · exact .of_view (s.setPort_tablesView _ _)
    · exact .refl s
  case busTimeout p bs => exact .of_view (execBusTimeout_tablesView he)
  case busStop r => cases he; exact .of_view (s.setPort_tablesView _ _)
  case frameSync =>
    unfold execFrameSync at he; repeat' split at he
    all_goals (cases he; exact .of_view rfl)
  case frameTaken w => exact execFrameTaken_keepsTables he
  case clockLost => exact .of_view (execClockLost_tablesView he)
  case fadeEnd n => exact execFadeEnd_keepsTables he
  case crossfadeEnd n l =>
    unfold execCrossfadeEnd at he; split_ifs at he <;> cases he
    · exact .of_surroundings (by simp) (State.morphsOk_of_morphs (by simp))
    · exact .refl s
  case quietFadeEnd =>
    unfold execQuietFadeEnd at he; split_ifs at he <;> cases he
    · have ended := (State.forceFadeEnds_losesMorphs { s with quietReport := false, stopped := true }).keepsTables
      exact State.KeepsTables.before (.after (s := s) ended rfl) rfl
    · exact .refl s
  case regionJobComplete => cases he; exact .of_view rfl
  case regionLive e => exact execRegionLive_keepsTables he
  case extensionComplete => exact execExtensionComplete_keepsTables he
  case abandonedPageEnd => cases he; exact .of_view rfl
  case slotPropagation => exact execSlotPropagation_keepsTables he
  case lfoPropagation => exact execLfoPropagation_keepsTables he
  case resync => exact execResync_keepsTables he
  case tapPress v => unfold execTapPress at he; split_ifs at he <;> cases he <;> exact .of_tempo rfl ⟨id, id⟩
  case tapRelease v => exact execTapRelease_keepsTables he
  case longPress v => exact execLongPress_keepsTables he
  case stuckSwitch v => unfold execStuckSwitch at he; split_ifs at he <;> cases he <;> exact .of_tempo rfl ⟨id, id⟩
  case tapHighSample v => unfold execTapHighSample at he; split_ifs at he <;> cases he <;> exact .of_tempo rfl ⟨id, id⟩
  case tapFreshExpiry v => exact execTapFreshExpiry_keepsTables he
  case tapHistoryClear v =>
    unfold execTapHistoryClear at he; split_ifs at he <;> cases he
    · exact .of_tempo rfl s.tempo.clearHistory_keeps
    · exact .refl s
  case linkTempoFrame a b c d v => cases he; exact s.linkBytes_keepsTables _ _
  case linkStopFrame a b v => cases he; exact s.linkBytes_keepsTables _ _
  case linkBadFrame bs v => cases he; exact s.linkBytes_keepsTables _ _
  case linkBreak v => cases he; exact s.linkBytes_keepsTables _ _
  case linkSilenceTimeout v =>
    unfold execLinkSilenceTimeout at he; split_ifs at he <;> cases he
    · exact .of_tempo s.linkLost_outsideTempo s.linkLost_keeps
    · exact .refl s
  case leaseTick =>
    unfold execLeaseTick at he; split_ifs at he <;> cases he
    · exact .refl s
    · exact .of_view (foldl_keeps State.tablesView State.tickHold State.tickHold_tablesView _ _)
  case holdExpiry n =>
    unfold execHoldExpiry at he; split_ifs at he <;> cases he
    · exact .of_view (s.expireHold_tablesView n)
    · exact .refl s
  case supplyLow v =>
    unfold execSupplyLow State.supplyFalls State.fadeSupply at he
    split_ifs at he <;> cases he
    · exact s.powerOn_keepsTables
    · exact .of_view rfl
    · exact .of_view rfl
    · exact .of_view rfl
  case supplyNormal v => unfold execSupplyNormal State.fadeSupply at he; split_ifs at he <;> cases he <;> exact .of_view rfl
  case powerOnReset => cases he; exact s.powerOn_keepsTables
  case resetLow => cases he; exact s.enterStarting_keepsTables _ id
  case startUpSweep r v => unfold execStartUpSweep at he; split_ifs at he <;> cases he <;> exact .of_view rfl
  case startUpSweepEnd pins =>
    unfold execStartUpSweepEnd at he; split_ifs at he <;> cases he
    · exact s.startUp_keepsTables pins _
    · exact .refl s

/-- And every step keeps them. -/
theorem step_keepsTables {s t : State} (he : step s = .next t) : s.KeepsTables t := by
  unfold step at he; split at he
  · rename_i c rest _
    exact .after (exec_keepsTables he) rfl
  · cases he
    exact .of_view ((congrArg State.tablesView s.pageTime_frame).trans rfl)

/-- Settles O56: the source in charge stays settled by the operations of the Tempo Unit, and nothing else writes it. -/
theorem stepKeepsTempo : Obligations.StepKeepsTempo := fun _ _ h he => (step_keepsTables he).tempo.settled h

/-- Settles O58: each of the four tables is kept by the operations that write it, and by every other. -/
theorem stepKeepsTables : Obligations.StepKeepsTables := fun _ _ he =>
  have kept := step_keepsTables he
  ⟨kept.tempo.taps, kept.lfsr, kept.morphs, kept.scenes⟩

end Sys2Proof.Machine

namespace Sys2Proof.Machine

/-! ### The tempo commands (R74, R76, R79, R101) -/

section
variable {s : State} {v : Nat}

/-- R91: a tempo already applied, or within 4 of the last propagated one, is only written. -/
theorem State.applyTempo_of_near (h : v = s.tempo.applied ∨ tempoDistance v s.tempo.lastPropagated < 5) :
    s.applyTempo (some v) = s.setTempo { s.tempo with applied := v } := by
  unfold State.applyTempo State.propagate
  by_cases heq : v = s.tempo.applied
  · subst heq; exact if_pos rfl
  · have hnear : ¬ 5 ≤ tempoDistance v s.tempo.lastPropagated := Nat.not_le.mpr (h.resolve_left heq)
    dsimp only
    rw [if_neg heq]; exact if_neg hnear

/-- R91: any other is propagated, with TEMPO_CHANGED. -/
theorem State.applyTempo_of_far (hne : v ≠ s.tempo.applied) (hfar : 5 ≤ tempoDistance v s.tempo.lastPropagated) :
    s.applyTempo (some v) = (s.setTempo { s.tempo with
      applied := v, lastPropagated := v, toSlots := s.tempo.toSlots ++ [v],
      toModulation := s.tempo.toModulation ++ [.propagation v] }).raiseBoth .tempoChanged := by
  unfold State.applyTempo State.propagate
  dsimp only
  rw [if_neg hne]; exact if_pos hfar

/-- The state in which a control tempo is written and the source chosen, before the tempo is applied. -/
def State.controlChosen (s : State) (v : Nat) : State := (s.setTempo { s.tempo with control := v }).chooseSource

theorem State.controlChosen_tempo (h : s.tempo.choice = .control) :
    (s.controlChosen v).tempo = { s.tempo with control := v, source := .control } :=
  (State.chooseSource_tempo _).trans (by rw [← h]; rfl)

/-- R76: the control tempo written while CONTROL is the arbiter's choice is applied. -/
theorem State.writeControl_of_choice (h : s.tempo.choice = .control) :
    s.writeControl v = (s.controlChosen v).applyTempo (some v) := by
  show (s.controlChosen v).applyTempo ((s.controlChosen v).tempo.offer (s.controlChosen v).tempo.source) = _
  rw [State.controlChosen_tempo h]; rfl

/-- R75: a change of the source raises TEMPO_SOURCE only. -/
theorem State.chooseSource_hasFlag {f : Flag} (h : f ≠ .tempoSource) (s : State) (q : Port) :
    (s.chooseSource.port q).hasFlag f = (s.port q).hasFlag f := by
  unfold State.chooseSource; split_ifs
  · rfl
  · cases q <;> exact PortState.hasFlag_raise_ne h

theorem State.controlChosen_hasFlag (s : State) (v : Nat) (q : Port) :
    ((s.controlChosen v).port q).hasFlag .tempoChanged = (s.port q).hasFlag .tempoChanged :=
  (State.chooseSource_hasFlag (by decide) _ q).trans (by cases q <;> rfl)

/-- R76, R91: without a propagation the tempo is applied, and nothing is handed over or raised as a change. -/
theorem State.writeControl_near (h : s.tempo.choice = .control) (hv : v = s.tempo.applied ∨ tempoDistance v s.tempo.lastPropagated < 5) :
    (s.writeControl v).tempo = { s.tempo with control := v, source := .control, applied := v }
    ∧ ∀ q, ((s.writeControl v).port q).hasFlag .tempoChanged = (s.port q).hasFlag .tempoChanged := by
  have chosen : (s.controlChosen v).tempo = _ := State.controlChosen_tempo h
  have near : v = (s.controlChosen v).tempo.applied ∨ tempoDistance v (s.controlChosen v).tempo.lastPropagated < 5 := by
    rw [chosen]; exact hv
  rw [State.writeControl_of_choice h, State.applyTempo_of_near near, chosen]
  exact ⟨rfl, fun q => Eq.trans (by cases q <;> rfl) (s.controlChosen_hasFlag v q)⟩

/-- R76, R91: with one the tempo is handed to the slots and to the Modulation Unit, and TEMPO_CHANGED stands. -/
theorem State.writeControl_far (h : s.tempo.choice = .control) (hne : v ≠ s.tempo.applied)
    (hfar : 5 ≤ tempoDistance v s.tempo.lastPropagated) :
    (s.writeControl v).tempo = { s.tempo with
      control := v, source := .control, applied := v, lastPropagated := v, toSlots := s.tempo.toSlots ++ [v],
      toModulation := s.tempo.toModulation ++ [.propagation v] }
    ∧ (s.writeControl v).flagged .tempoChanged := by
  have chosen : (s.controlChosen v).tempo = _ := State.controlChosen_tempo h
  have far : v ≠ (s.controlChosen v).tempo.applied ∧ 5 ≤ tempoDistance v (s.controlChosen v).tempo.lastPropagated := by
    rw [chosen]; exact ⟨hne, hfar⟩
  rw [State.writeControl_of_choice h, State.applyTempo_of_far far.1 far.2, chosen]
  exact ⟨rfl, State.flagged_raiseBoth _ _⟩

theorem State.placeResult_hasFlag (s : State) (p : Port) (r : Result) (f : Flag) (q : Port) :
    ((s.placeResult p r).port q).hasFlag f = (s.port q).hasFlag f := by
  cases p <;> cases q <;> rfl

theorem State.placeResult_flagged {f : Flag} (s : State) (p : Port) (r : Result) (h : s.flagged f) : (s.placeResult p r).flagged f := by
  cases p <;> exact h

end

/-- Settles O24: the control tempo is written, and applied and propagated when CONTROL is chosen. -/
theorem setTempoPropagates : Obligations.SetTempoPropagates := by
  intro s t p tag hi lo ht v far
  refine ⟨fun hv => ?_, fun hv => ?_⟩
  · have field : tempoField hi lo = some v := if_pos hv
    have decided : setTempoDecision [hi, lo] t = (t.writeControl v).answerDone := by
      unfold setTempoDecision; dsimp only; rw [field]
    refine ⟨_, taken_ownCommand ht decided, ?_⟩
    have control : (t.writeControl v).tempo.control = v :=
      (congrArg TempoUnit.control (State.reevaluate_tempo (t.setTempo { t.tempo with control := v })) :).trans
        (congrArg TempoUnit.control (TempoUnit.reevaluated_frame _))
    rw [State.placeResult_tempo]
    refine ⟨control, State.placeResult_outsideTempo p _ (t.writeControl_outsideTempo v), fun choice => ?_⟩
    by_cases hnear : v = t.tempo.applied ∨ far < 5
    case pos =>
      obtain ⟨tempo, flags⟩ := State.writeControl_near choice hnear
      rw [tempo]
      refine ⟨rfl, rfl, fun hne hfar => absurd hnear (by omega), fun _ => ⟨rfl, rfl, rfl, fun q => ?_⟩⟩
      exact (State.placeResult_hasFlag _ p _ _ q).trans (flags q)
    case neg =>
      obtain ⟨hne, hfar⟩ := not_or.mp hnear
      obtain ⟨tempo, flagged⟩ := State.writeControl_far choice hne (Nat.not_lt.mp hfar)
      rw [tempo]
      exact ⟨rfl, rfl, fun _ _ => ⟨rfl, rfl, rfl, State.placeResult_flagged _ p _ flagged⟩, fun h => absurd h hnear⟩
  · have field : tempoField hi lo = none := if_neg (by omega)
    have decided : setTempoDecision [hi, lo] t = t.refuse .range := by
      unfold setTempoDecision; dsimp only; rw [field]
    exact taken_ownCommand ht decided

/-- Settles O25: each of the four commands writes its own field. -/
theorem modeCommands : Obligations.ModeCommands := by
  intro s t p tag b0 b1
  refine ⟨fun m ht hm => ?_, fun on ht hon => ?_, fun ht => ⟨fun hseed => ?_, fun hseed => ?_⟩, fun m ht hm => ?_⟩
  · have decided : setTempoSourceDecision [b0] t = (t.setTempo { t.tempo with mode := m }).reevaluate.answerDone := by
      unfold setTempoSourceDecision; dsimp only; rw [hm]
    have settled := (State.reevaluate_tempo (t.setTempo { t.tempo with mode := m }))
    refine ⟨_, taken_ownCommand ht decided, ?_⟩
    rw [State.placeResult_tempo, settled]
    refine ⟨(congrArg TempoUnit.mode (TempoUnit.reevaluated_frame _) :), ?_, fun v hv => ?_,
      State.placeResult_outsideTempo p _ (by simp)⟩
    · rw [TempoUnit.reevaluated_source, TempoUnit.reevaluated_choice]
    · rw [TempoUnit.reevaluated_source, TempoUnit.reevaluated_offer] at hv
      exact TempoUnit.reevaluated_applied _ v hv
  · have decided : setTapOptionsDecision [b0] t = (t.setTempo { t.tempo with spikeRejection := on }).answerDone := by
      unfold setTapOptionsDecision; dsimp only; rw [hon]
    exact taken_ownCommand ht decided
  · have decided : seedRandomDecision [b0, b1] t = (t.setModulation { t.modulation with lfsr := b0 ++ b1, mixing := 0 }).answerDone :=
      if_neg hseed
    exact taken_ownCommand ht decided
  · have decided : seedRandomDecision [b0, b1] t = t.refuse .range := if_pos hseed
    exact taken_ownCommand ht decided
  · have decided : setRandomModeDecision [b0] t = (t.setModulation { t.modulation with mode := m }).answerDone := by
      unfold setRandomModeDecision; dsimp only; rw [hm]
    exact taken_ownCommand ht decided

end Sys2Proof.Machine

namespace Sys2Proof.Machine

/-! ### Taps (R78 to R85) -/

/-- R83: rounding to the nearest, halves up. -/
theorem roundDiv_spec (a : Nat) {b : Nat} (hb : 0 < b) :
    2 * roundDiv a b * b ≤ 2 * a + b ∧ 2 * a + b < 2 * (roundDiv a b + 1) * b := by
  have hb' : 0 < 2 * b := by omega
  have low := Nat.div_mul_le_self (2 * a + b) (2 * b)
  have high := Nat.lt_div_mul_add (a := 2 * a + b) hb'
  unfold roundDiv
  constructor <;> nlinarith

/-- R83: the tap tempo of some intervals that are not all 0. -/
theorem tapTempoOf_spec {is : List Nat} (h : 0 < is.sum) :
    2 * tapTempoOf is * is.sum ≤ 12000000 * is.length + is.sum
    ∧ 12000000 * is.length + is.sum < 2 * (tapTempoOf is + 1) * is.sum := by
  have spec := roundDiv_spec (6000000 * is.length) h
  rwa [← Nat.mul_assoc] at spec

section
variable {i : Nat} {held : List Nat}

theorem farFromMean_iff : farFromMean i held = true ↔
    4 * ((i * held.length - held.sum) + (held.sum - i * held.length)) > held.sum := decide_eq_true_iff

theorem nextIntervals_of_far (h : held = [] ∨ farFromMean i held = true) : nextIntervals i held = [i] := by
  unfold nextIntervals
  rcases h with rfl | h
  · rfl
  · split_ifs <;> rfl

theorem nextIntervals_of_room (hne : held ≠ []) (h : ¬ farFromMean i held = true) (hroom : held.length < 4) :
    nextIntervals i held = held ++ [i] := by
  unfold nextIntervals
  rw [if_neg (by simpa using hne), if_neg h, if_neg (Nat.not_le.mpr hroom)]

theorem nextIntervals_of_full (h : ¬ farFromMean i held = true) (hfull : held.length = 4) : nextIntervals i held = held.tail ++ [i] := by
  unfold nextIntervals
  rw [if_neg (by rintro hnil; simp_all), if_neg h, if_pos hfull.ge, hfull, List.drop_one]

/-- R82: the interval of the tap is the last of those held. -/
theorem mem_nextIntervals (i : Nat) (held : List Nat) : i ∈ nextIntervals i held := by
  unfold nextIntervals; split_ifs <;> simp

theorem nextIntervals_sum_pos (hi : 0 < i) : 0 < (nextIntervals i held).sum :=
  hi.trans_le (List.le_sum_of_mem (mem_nextIntervals i held))

end

section
variable {s : State} {time : Nat}

/-- R75: a re-evaluation leaves the Tap History, the tap tempo and its freshness. -/
theorem TempoUnit.reevaluated_taps (u : TempoUnit) : u.reevaluated.lastTap = u.lastTap ∧ u.reevaluated.tapFresh = u.tapFresh
    ∧ u.reevaluated.intervals = u.intervals ∧ u.reevaluated.tapTempo = u.tapTempo :=
  ⟨(congrArg TempoUnit.lastTap u.reevaluated_frame :), (congrArg TempoUnit.tapFresh u.reevaluated_frame :),
    (congrArg TempoUnit.intervals u.reevaluated_frame :), (congrArg TempoUnit.tapTempo u.reevaluated_frame :)⟩

/-- R82: the first tap of a history. -/
theorem State.enterTap_first (h : s.tempo.lastTap = none) :
    (s.enterTap time).tempo.lastTap = some time ∧ (s.enterTap time).tempo.tapFresh = true
    ∧ (s.enterTap time).tempo.intervals = s.tempo.intervals ∧ (s.enterTap time).tempo.tapTempo = s.tempo.tapTempo := by
  unfold State.enterTap; dsimp only; rw [h]; dsimp only
  split_ifs
  · exact ⟨rfl, rfl, rfl, rfl⟩
  · rw [State.reevaluate_tempo]; exact TempoUnit.reevaluated_taps _

/-- R82: a bounce. -/
theorem State.enterTap_bounce {last : Nat} (h : s.tempo.lastTap = some last) (hbounce : time < last + 200) : s.enterTap time = s := by
  unfold State.enterTap; dsimp only; rw [h]; exact if_pos hbounce

/-- Log 4: an interval above 2000 starts a new history. -/
theorem State.enterTap_long {last : Nat} (h : s.tempo.lastTap = some last) (hlong : last + 2000 < time) :
    (s.enterTap time).tempo.lastTap = some time ∧ (s.enterTap time).tempo.tapFresh = true
    ∧ (s.enterTap time).tempo.intervals = [] ∧ (s.enterTap time).tempo.tapTempo = s.tempo.tapTempo := by
  unfold State.enterTap; dsimp only; rw [h]; dsimp only
  rw [if_neg (by omega : ¬ time < last + 200), if_pos hlong]
  split_ifs
  · exact ⟨rfl, rfl, rfl, rfl⟩
  · rw [State.reevaluate_tempo]; exact TempoUnit.reevaluated_taps _

/-- R82, R83: an interval within 200 to 2000 is taken into the history, and the tap tempo follows. -/
theorem State.enterTap_interval {last i : Nat} (h : s.tempo.lastTap = some last) (hlo : 200 ≤ i) (hhi : i ≤ 2000) :
    let v := (s.enterTap (last + i)).tempo
    v.lastTap = some (last + i) ∧ v.tapFresh = true ∧ v.intervals = nextIntervals i s.tempo.intervals
    ∧ v.tapTempo = some (tapTempoOf (nextIntervals i s.tempo.intervals)) ∧ v.source = v.choice := by
  have interval : last + i - last = i := Nat.add_sub_cancel_left ..
  unfold State.enterTap; dsimp only; rw [h]; dsimp only
  rw [if_neg (by omega), if_neg (by omega), interval, State.reevaluate_tempo]
  obtain ⟨hlast, hfresh, hintervals, htempo⟩ := TempoUnit.reevaluated_taps { s.tempo with
    lastTap := some (last + i), tapFresh := true, freshSince := last + i, intervals := nextIntervals i s.tempo.intervals,
    tapTempo := some (tapTempoOf (nextIntervals i s.tempo.intervals)) }
  exact ⟨hlast, hfresh, hintervals, htempo, by rw [TempoUnit.reevaluated_source, TempoUnit.reevaluated_choice]⟩

/-- R82, R83: entering a tap does what the rules of a tap say. -/
theorem State.enterTap_entered (s : State) (time : Nat) : s.tapEntered (s.enterTap time) time := by
  refine ⟨State.enterTap_first, fun last hlast hbounce => ?_, fun last hlast hlong => State.enterTap_long hlast hlong,
    fun last i hlast htime hlo hhi => ?_⟩
  · rw [State.enterTap_bounce hlast hbounce]; exact ⟨rfl, rfl⟩
  · subst htime
    obtain ⟨hlasttap, hfresh, hintervals, htempo, hsource⟩ := State.enterTap_interval hlast hlo hhi
    rw [hintervals]
    refine ⟨hlasttap, hfresh, hsource, ⟨fun h => ?_, fun hne hfar hroom => ?_, fun hfull hfar => ?_⟩, _, htempo,
      tapTempoOf_spec (nextIntervals_sum_pos (by omega))⟩
    · exact nextIntervals_of_far (h.imp_right farFromMean_iff.mpr)
    · exact nextIntervals_of_room hne (fun h => hfar (farFromMean_iff.mp h)) hroom
    · exact nextIntervals_of_full (fun h => hfar (farFromMean_iff.mp h)) hfull

/-- A tap leaves the pulse. -/
theorem State.enterTap_pulse (s : State) (time : Nat) :
    (s.enterTap time).tempo.pulse = s.tempo.pulse ∧ (s.enterTap time).tempo.pulseTimer = s.tempo.pulseTimer := by
  have kept : ∀ t : State, t.reevaluate.tempo.pulse = t.tempo.pulse ∧ t.reevaluate.tempo.pulseTimer = t.tempo.pulseTimer := fun t => by
    rw [State.reevaluate_tempo]
    exact ⟨(congrArg TempoUnit.pulse t.tempo.reevaluated_frame :), (congrArg TempoUnit.pulseTimer t.tempo.reevaluated_frame :)⟩
  unfold State.enterTap; dsimp only; split
  · split_ifs
    · exact ⟨rfl, rfl⟩
    · exact kept _
  · split_ifs
    · exact ⟨rfl, rfl⟩
    · exact ⟨rfl, rfl⟩
    · exact kept _
    · exact kept _

/-- What a tap is judged by: the Tempo Unit and the flags it leaves. -/
theorem State.tapEntered_of {s u v : State} (htempo : v.tempo = u.tempo) (hflags : v.flagsOf = u.flagsOf) (h : s.tapEntered u time) :
    s.tapEntered v time := by
  unfold State.tapEntered; rw [htempo, hflags]; exact h

end

/-- Settles O26. -/
theorem tapTempo : Obligations.TapTempo := by
  intro s t p tag g time ht
  exact ⟨_, taken_as ht rfl, State.placeResult_outsideTempo p _ (t.enterTap_outsideTempo time),
    State.tapEntered_of (State.placeResult_tempo _ p _) (State.placeResult_flagsOf _ p _) (t.enterTap_entered time)⟩


/-! ### The footswitch (R77 to R81, R84) -/

/-- R79: a pulse that is a tap: it ends, and the tap is entered with the time of its falling edge. -/
theorem execTapRelease_tap {s : State} {time : Nat} (hpower : s.power ≠ .starting) (hpulse : s.tempo.pulse = .timing)
    (hedge : s.tempo.edgeTime < time) (hlow : time < s.tempo.edgeTime + 600)
    (hspike : s.tempo.edgeTime + 8 ≤ time ∨ s.tempo.spikeRejection = false) :
    execTapRelease time s = .next
      ((s.setTempo { s.tempo with pulse := .open, pulseTimer := time - s.tempo.edgeTime }).enterTap s.tempo.edgeTime) := by
  have notSpike : ¬ (s.tempo.spikeRejection = true ∧ time - s.tempo.edgeTime < 8) := by
    rintro ⟨hon, hshort⟩
    rcases hspike with hlong | hoff
    · omega
    · rw [hoff] at hon; cases hon
  unfold execTapRelease
  rw [if_pos ⟨hpower, hpulse, hedge, by omega⟩]; dsimp only; rw [if_neg notSpike]

/-- R79: a pulse that is a spike. -/
theorem execTapRelease_spike {s : State} {time : Nat} (hpower : s.power ≠ .starting) (hpulse : s.tempo.pulse = .timing)
    (hedge : s.tempo.edgeTime < time) (hlow : time < s.tempo.edgeTime + 8) (hspike : s.tempo.spikeRejection = true) :
    execTapRelease time s = .next (s.setTempo { s.tempo with pulse := .open, pulseTimer := time - s.tempo.edgeTime }) := by
  unfold execTapRelease
  rw [if_pos ⟨hpower, hpulse, hedge, by omega⟩]; dsimp only; rw [if_pos ⟨hspike, by omega⟩]

/-- R78: a release in HELD. -/
theorem execTapRelease_held {s : State} {time : Nat} (hpower : s.power ≠ .starting) (hpulse : s.tempo.pulse = .held)
    (hlo : s.tempo.edgeTime + 600 ≤ time) (hhi : time < s.tempo.edgeTime + 3000) :
    execTapRelease time s = .next (s.setTempo { s.tempo with pulse := .open, pulseTimer := time - s.tempo.edgeTime }) := by
  unfold execTapRelease
  rw [if_neg (by rw [hpulse]; simp), if_pos ⟨hpower, hpulse, hlo, hhi⟩]

/-- R78: the timer of HELD, kept within 600 to 2999, case by case. -/
theorem TempoUnit.heldTimer_cases (u : TempoUnit) (time : Nat) : u.heldTimer time =
    if time < u.edgeTime + 600 then 600 else if u.edgeTime + 2999 < time then 2999 else time - u.edgeTime := by
  unfold TempoUnit.heldTimer; split_ifs <;> omega

/-- R78: a high sample in HELD. -/
theorem execTapHighSample_held {s : State} (time : Nat) (hpower : s.power ≠ .starting) (hpulse : s.tempo.pulse = .held) :
    execTapHighSample s time = .next (s.setTempo { s.tempo with pulse := .open, pulseTimer := s.tempo.heldTimer time }) :=
  if_pos ⟨hpower, hpulse⟩

/-- R78: a high sample in STOPPED. -/
theorem execTapHighSample_stopped {s : State} (time : Nat) (hpower : s.power ≠ .starting) (hpulse : s.tempo.pulse = .stopped) :
    execTapHighSample s time = .next (s.setTempo { s.tempo with pulse := .open }) := by
  unfold execTapHighSample
  rw [if_neg (by rw [hpulse]; simp), if_pos ⟨hpower, hpulse⟩]

/-- R77: the tap tempo is no longer fresh. -/
theorem State.tapExpired (s : State) : let u := (s.setTempo { s.tempo with tapFresh := false }).reevaluate
    u.tempo.tapFresh = false ∧ u.tempo.source = u.tempo.choice ∧ u.outsideTempo = s.outsideTempo := by
  dsimp only
  rw [State.reevaluate_tempo, TempoUnit.reevaluated_source, TempoUnit.reevaluated_choice]
  exact ⟨(TempoUnit.reevaluated_taps _).2.1, rfl, by simp⟩

/-- Settles O27: the rows of the footswitch, each in the state that admits it. -/
theorem footswitch : Obligations.Footswitch := by
  intro s time hpower
  refine ⟨fun hopen => ?press, fun htiming hedge hlow hspike => execTapRelease_spike hpower htiming hedge hlow hspike,
    fun htiming hedge hlow hspike => ?tap, fun htiming hlong => ?long, fun hheld hstuck => ?stuck,
    fun hheld hlo hhi => execTapRelease_held hpower hheld hlo hhi, fun hheld => ?high,
    fun hstopped => execTapHighSample_stopped time hpower hstopped, fun hfresh hold => ?fresh, fun last hlast hold => ?clear⟩
  case press => exact if_pos ⟨hpower, hopen⟩
  case tap =>
    let opened := s.setTempo { s.tempo with pulse := .open, pulseTimer := time - s.tempo.edgeTime }
    obtain ⟨hpulse, htimer⟩ := opened.enterTap_pulse s.tempo.edgeTime
    exact ⟨_, execTapRelease_tap hpower htiming hedge hlow hspike, hpulse, htimer, opened.enterTap_entered _,
      opened.enterTap_outsideTempo _⟩
  case long => exact if_pos ⟨hpower, htiming, hlong⟩
  case stuck => exact if_pos ⟨hpower, hheld, hstuck⟩
  case high =>
    refine (execTapHighSample_held time hpower hheld).trans ?_
    rw [TempoUnit.heldTimer_cases]; rfl
  case fresh => exact ⟨_, if_pos ⟨hpower, hfresh, hold⟩, s.tapExpired⟩
  case clear =>
    have due : s.tempo.lastTap.any (fun last => last + 2000 ≤ time) = true := by rw [hlast]; simpa using hold
    exact if_pos ⟨hpower, due⟩

end Sys2Proof.Machine

namespace Sys2Proof.Machine

/-! ### The bytes of a link frame (R86) -/

/-- The state with these bytes in the assembly. -/
def State.assembling (s : State) (a : List Byte) : State := s.setLink { s.tempo.link with assembly := a }

theorem State.assembling_self {s : State} (h : s.tempo.link.assembly = []) : s.assembling [] = s := by
  unfold State.assembling; rw [← h]; rfl

theorem frameLength_append {a : List Byte} (h : a ≠ []) (bs : List Byte) : frameLength (a ++ bs) = frameLength a := by
  unfold frameLength; rw [List.head?_append_of_ne_nil _ h]

section
variable {s : State} {time : Nat}

/-- A sync byte starts a frame. -/
theorem State.linkByte_sync {v : Byte} (hcut : s.tempo.link.cutByte = false) (h : s.tempo.link.assembly = []) (hv : v = 0xF5 ∨ v = 0xF6) :
    s.linkByte (goodByte v) time = s.assembling [v] := by
  unfold State.linkByte; rw [hcut, h]; exact if_pos hv

/-- A byte received while assembling ends the frame, which is checked, or is assembled. -/
theorem State.linkByte_assembling {a : List Byte} (v : Byte) (hcut : s.tempo.link.cutByte = false) (ha : a ≠ []) :
    (s.assembling a).linkByte (goodByte v) time =
      if (a ++ [v]).length = frameLength a then (s.assembling []).linkFrame (a ++ [v]) time else s.assembling (a ++ [v]) := by
  have taken : ¬ (s.assembling a).tempo.link.cutByte = true := by rw [show (s.assembling a).tempo.link.cutByte = false from hcut]; simp
  have begun : ¬ (s.assembling a).tempo.link.assembly.isEmpty = true := by
    rw [show (s.assembling a).tempo.link.assembly = a from rfl]; simpa using ha
  have good : ¬ (goodByte v).framingError = true := Bool.false_ne_true
  rw [← frameLength_append ha [v]]
  unfold State.linkByte State.linkAssemble
  dsimp only
  rw [if_neg taken, if_neg begun, if_neg good]; rfl

/-- The bytes that are left of a frame complete it. -/
theorem State.linkBytes_assembled (hcut : s.tempo.link.cutByte = false) (bs : List Byte) : ∀ a : List Byte, a ≠ [] → bs ≠ [] →
    (a ++ bs).length = frameLength a →
    (bs.map goodByte).foldl (fun t b => t.linkByte b time) (s.assembling a) = (s.assembling []).linkFrame (a ++ bs) time := by
  induction bs with
  | nil => exact fun _ _ h => absurd rfl h
  | cons v bs ih =>
    intro a ha _ hlength
    by_cases hbs : bs = []
    · subst hbs; exact (State.linkByte_assembling v hcut ha).trans (if_pos hlength)
    · have room : (a ++ [v]).length ≠ frameLength a := by
        have := List.length_pos_iff.mpr hbs
        simp only [List.length_append, List.length_cons, List.length_nil] at hlength ⊢; omega
      rw [List.map_cons, List.foldl_cons, State.linkByte_assembling v hcut ha, if_neg room, ih _ (by simp) hbs,
        List.append_assoc, List.singleton_append]
      rw [frameLength_append ha, ← hlength]; simp

/-- R86: the bytes of a whole frame, received while hunting, have it checked. -/
theorem State.linkBytes_frame {v : Byte} {bs : List Byte} (hpower : s.power ≠ .starting) (hcut : s.tempo.link.cutByte = false)
    (h : s.tempo.link.assembly = []) (hv : v = 0xF5 ∨ v = 0xF6) (hbs : bs ≠ []) (hlength : (v :: bs).length = frameLength [v]) :
    s.linkBytes ((v :: bs).map goodByte) time = s.linkFrame (v :: bs) time := by
  unfold State.linkBytes
  rw [if_neg hpower, List.map_cons, List.foldl_cons, State.linkByte_sync hcut h hv,
    State.linkBytes_assembled hcut bs [v] (by simp) hbs hlength, State.assembling_self h, List.singleton_append]

/-- R73: a byte cut by READY is not taken. -/
theorem State.linkBytes_cut (hpower : s.power ≠ .starting) (hcut : s.tempo.link.cutByte = true) (b : LinkByte) (rest : List LinkByte) :
    s.linkBytes (b :: rest) time = (s.setLink { s.tempo.link with cutByte := false }).linkBytes rest time := by
  have cut : s.linkByte b time = s.setLink { s.tempo.link with cutByte := false } := if_pos hcut
  unfold State.linkBytes
  rw [if_neg hpower, State.setLink_power, if_neg hpower, List.foldl_cons, cut]

end

/-! ### The Link Receiver (R87 to R90) -/

/-- R75: a re-evaluation leaves the Link Receiver and the link tempo. -/
theorem TempoUnit.reevaluated_link (u : TempoUnit) : u.reevaluated.link = u.link ∧ u.reevaluated.linkTempo = u.linkTempo :=
  ⟨(congrArg TempoUnit.link u.reevaluated_frame :), (congrArg TempoUnit.linkTempo u.reevaluated_frame :)⟩

/-- The Link Receiver LOCKED by a TEMPO frame at `time`. -/
def LinkReceiver.lockedAt (k : LinkReceiver) (time : Nat) : LinkReceiver :=
  { k with state := .locked, badRun := 0, seekReference := none, silenceStart := time }

/-- The Link Receiver SEEKING, with the TEMPO frame at `time` as its reference. -/
def LinkReceiver.seekingFrom (k : LinkReceiver) (time : Nat) : LinkReceiver :=
  { k with state := .seeking, badRun := 0, seekReference := some time }

section
variable (s : State) (tempo position time : Nat)

theorem State.handResync_tempo : s.handResync.tempo = { s.tempo with toModulation := s.tempo.toModulation ++ [.resync] } := rfl

/-- R89: a receiver that locks takes the tempo of the frame, settles the arbiter, and hands over a RESYNC at position 0 while LINK is
in charge. -/
theorem State.linkLocked_spec : let u := s.linkLocked tempo position time
    u.tempo.link = s.tempo.link.lockedAt time ∧ u.tempo.linkTempo = some tempo ∧ u.tempo.source = u.tempo.choice
    ∧ (u.tempo.source = .link → u.tempo.applied = tempo)
    ∧ (position = 0 → u.tempo.source = .link → u.tempo.toModulation.getLast? = some .resync) := by
  let w : TempoUnit := { s.tempo with linkTempo := some tempo, link := s.tempo.link.lockedAt time }
  have written : (s.setTempo w).reevaluate.tempo = w.reevaluated := State.reevaluate_tempo _
  have link : w.reevaluated.link = s.tempo.link.lockedAt time := w.reevaluated_link.1
  have linkTempo : w.reevaluated.linkTempo = some tempo := w.reevaluated_link.2
  have source : w.reevaluated.source = w.reevaluated.choice := by rw [w.reevaluated_source, w.reevaluated_choice]
  have applied : w.reevaluated.source = .link → w.reevaluated.applied = tempo := fun h =>
    w.reevaluated_applied tempo (by rw [w.reevaluated_source] at h; rw [h]; rfl)
  have locked : s.linkLocked tempo position time =
      if position = 0 ∧ w.reevaluated.source = .link then (s.setTempo w).reevaluate.handResync else (s.setTempo w).reevaluate := by
    rw [← written]; rfl
  dsimp only
  rw [locked]; split_ifs with h
  · rw [State.handResync_tempo, written]
    exact ⟨link, linkTempo, source, applied, fun _ _ => List.getLast?_concat⟩
  · rw [written]
    exact ⟨link, linkTempo, source, applied, fun hposition hsource => absurd ⟨hposition, hsource⟩ h⟩

end

section
variable {s : State} {tempo position time : Nat}

/-- R88: a TEMPO frame out of SILENT or LOST begins to seek. -/
theorem State.linkTempo_idle (h : s.tempo.link.state = .silent ∨ s.tempo.link.state = .lost) :
    s.linkTempo tempo position time = s.setLink (s.tempo.link.seekingFrom time) := by
  unfold State.linkTempo
  rcases h with h | h <;> rw [h] <;> rfl

/-- R88: while SEEKING, one more than 500 ms after the reference is the new reference. -/
theorem State.linkTempo_late {ref : Nat} (h : s.tempo.link.state = .seeking) (href : s.tempo.link.seekReference = some ref)
    (hlate : ref + 500 < time) : s.linkTempo tempo position time = s.setLink (s.tempo.link.seekingFrom time) := by
  have late : ¬ time - ref ≤ 500 := by omega
  unfold State.linkTempo LinkReceiver.seekingFrom; rw [h, href]; dsimp only
  rw [if_neg late, ← h]

/-- R88: while LOCKED, and while SEEKING within 500 ms of the reference, one locks. -/
theorem State.linkTempo_locks (h : s.tempo.link.state = .locked
      ∨ s.tempo.link.state = .seeking ∧ ∃ ref, s.tempo.link.seekReference = some ref ∧ time ≤ ref + 500) :
    s.linkTempo tempo position time = s.linkLocked tempo position time := by
  unfold State.linkTempo
  rcases h with h | ⟨h, ref, href, htime⟩
  · rw [h]
  · rw [h, href]; exact if_pos (by omega)

/-- R87, R88: every TEMPO frame ends the run of bad frames, and leaves the assembly. -/
theorem State.linkTempo_run (s : State) (tempo position time : Nat) :
    (s.linkTempo tempo position time).tempo.link.assembly = s.tempo.link.assembly
    ∧ (s.linkTempo tempo position time).tempo.link.badRun = 0 := by
  have locked := (s.linkLocked_spec tempo position time).1
  unfold State.linkTempo; split
  · rw [locked]; exact ⟨rfl, rfl⟩
  · split
    · split_ifs
      · rw [locked]; exact ⟨rfl, rfl⟩
      · exact ⟨rfl, rfl⟩
    · exact ⟨rfl, rfl⟩
  · exact ⟨rfl, rfl⟩
  · exact ⟨rfl, rfl⟩

/-- R88: a STOP frame leaves the receiver SILENT without LINK_LOST, and the arbiter settled if it left LOCKED. -/
theorem State.linkStop_spec (s : State) : let u := s.linkStop
    u.tempo.link.state = .silent ∧ u.tempo.link.badRun = 0 ∧ u.tempo.link.assembly = s.tempo.link.assembly
    ∧ (∀ q, (u.port q).hasFlag .linkLost = (s.port q).hasFlag .linkLost)
    ∧ (s.tempo.link.state = .locked → u.tempo.source = u.tempo.choice) := by
  have ports : ∀ k q, ((s.setLink k).port q).hasFlag .linkLost = (s.port q).hasFlag .linkLost := fun _ q => by cases q <;> rfl
  unfold State.linkStop; dsimp only; split_ifs with h
  · rw [State.reevaluate_tempo, (TempoUnit.reevaluated_link _).1, TempoUnit.reevaluated_source, TempoUnit.reevaluated_choice]
    exact ⟨rfl, rfl, rfl, fun q => (State.reevaluate_hasFlag _ (by decide) (by decide) q).trans (ports _ q), fun _ => rfl⟩
  · exact ⟨rfl, rfl, rfl, ports _, fun hlocked => absurd hlocked h⟩

/-- R89: leaving LOCKED for LOST. -/
theorem State.linkLost_spec (s : State) : s.linkLost.tempo.link.state = .lost ∧ s.linkLost.tempo.link.badRun = 0
    ∧ s.linkLost.flagged .linkLost ∧ s.linkLost.tempo.source = s.linkLost.tempo.choice
    ∧ s.linkLost.outsideTempo = s.outsideTempo := by
  refine ⟨?_, ?_, State.reevaluate_flagged _ (State.flagged_raiseBoth _ _), ?_, s.linkLost_outsideTempo⟩
  · unfold State.linkLost; rw [State.reevaluate_tempo, (TempoUnit.reevaluated_link _).1]; rfl
  · unfold State.linkLost; rw [State.reevaluate_tempo, (TempoUnit.reevaluated_link _).1]; rfl
  · unfold State.linkLost
    rw [State.reevaluate_tempo, TempoUnit.reevaluated_source, TempoUnit.reevaluated_choice]

/-- R87: the third bad frame of a run loses a LOCKED receiver. -/
theorem State.linkBad_third (h : s.tempo.link.state = .locked) (hrun : 2 ≤ s.tempo.link.badRun) : s.linkBad = s.linkLost := by
  unfold State.linkBad; rw [h]; exact if_pos (by omega)

/-- R87: the ones before it are counted. -/
theorem State.linkBad_counted (h : s.tempo.link.state = .locked) (hrun : s.tempo.link.badRun < 2) :
    s.linkBad = s.setLink { s.tempo.link with badRun := s.tempo.link.badRun + 1 } := by
  have run : min 3 (s.tempo.link.badRun + 1) = s.tempo.link.badRun + 1 := by omega
  unfold State.linkBad; rw [h]; dsimp only
  rw [run]; exact if_neg (by omega)

/-- R86, R89: a break in LOCKED is the loss, whether or not a frame was begun. -/
theorem State.linkBytes_break (hpower : s.power ≠ .starting) (hcut : s.tempo.link.cutByte = false) (h : s.tempo.link.state = .locked) :
    s.linkBytes [{ value := 0, framingError := true }] time =
      (if s.tempo.link.assembly.isEmpty then s else s.assembling []).linkLost := by
  unfold State.linkBytes State.linkByte
  rw [if_neg hpower, List.foldl_cons, List.foldl_nil, if_neg (by rw [hcut]; simp)]
  unfold State.linkHunt State.linkAssemble; dsimp only
  simp only [h, and_self, if_true]
  split_ifs <;> rfl

end

/-- Settles O28: a whole frame is checked by R87 and taken as R88 and R89 say; a byte cut by READY is not taken. -/
theorem linkFrames : Obligations.LinkFrames := by
  intro s hi lo position crc zero time hpower hassembly
  refine ⟨fun hcut b rest => ?cut, fun hcut hcrc hlo hhi hposition => ?tempo, fun hcut hcrc hzero => ?stop⟩
  case cut => exact congrArg Host.Outcome.next (State.linkBytes_cut hpower hcut b rest)
  case tempo =>
    have taken : exec (.linkTempoFrame hi lo position crc time) s = .next (s.linkTempo (word16 hi lo) position.toNat time) :=
      congrArg Host.Outcome.next ((State.linkBytes_frame hpower hcut hassembly (.inl rfl) (by simp) rfl).trans
        (if_pos ⟨hcrc, hlo, hhi, hposition⟩))
    obtain ⟨assembly, badRun⟩ := s.linkTempo_run (word16 hi lo) position.toNat time
    refine ⟨_, taken, State.linkTempo_outsideTempo s _ _ _, assembly.trans hassembly, badRun, fun hidle => ?_,
      fun ref hseeking href hlate => ?_, fun hlocks => ?_⟩
    · rw [State.linkTempo_idle hidle]; exact ⟨rfl, rfl, rfl⟩
    · rw [State.linkTempo_late hseeking href hlate]; exact ⟨rfl, rfl⟩
    · obtain ⟨link, linkTempo, source, applied, resync⟩ := s.linkLocked_spec (word16 hi lo) position.toNat time
      rw [State.linkTempo_locks hlocks, link]
      exact ⟨rfl, linkTempo, rfl, source, applied, fun hzero => resync (by rw [hzero]; rfl)⟩
  case stop =>
    have taken : exec (.linkStopFrame zero crc time) s = .next s.linkStop :=
      congrArg Host.Outcome.next ((State.linkBytes_frame hpower hcut hassembly (.inr rfl) (by simp) rfl).trans
        (if_pos ⟨by rw [hcrc, hzero], hzero⟩))
    obtain ⟨state, badRun, assembly, flags, source⟩ := s.linkStop_spec
    exact ⟨_, taken, state, badRun, assembly.trans hassembly, s.linkStop_outsideTempo, flags, source⟩

/-- Settles O29: the third bad frame, a break and the silence each take LOCKED to LOST; the bad frames before are counted. -/
theorem linkLoss : Obligations.LinkLoss := by
  intro s hi lo position crc time hpower hlocked hcut lost
  have loses : lost s.linkLost := s.linkLost_spec
  refine ⟨fun hassembly hcrc => ?bad, ?breaks, fun hsilent => ?silence⟩
  case bad =>
    intro bytes
    have checked : exec (.linkBadFrame bytes time) s = .next s.linkBad :=
      congrArg Host.Outcome.next ((State.linkBytes_frame hpower hcut hassembly (.inl rfl) (by simp) rfl).trans
        (if_neg fun h => hcrc h.1))
    refine ⟨fun hrun => ?_, fun hrun => ⟨_, checked, ?_⟩⟩
    · rw [checked, State.linkBad_counted hlocked hrun]; rfl
    · rw [State.linkBad_third hlocked hrun]; exact loses
  case breaks =>
    refine ⟨_, congrArg Host.Outcome.next (State.linkBytes_break hpower hcut hlocked), ?_⟩
    split_ifs
    · exact loses
    · exact (s.assembling []).linkLost_spec
  case silence => exact ⟨_, if_pos ⟨hpower, hlocked, hsilent⟩, loses⟩

end Sys2Proof.Machine

namespace Sys2Proof.Machine

/-! ### A propagation to the slots (R92) -/

/-! #### Flags that stand stay -/

section
variable {s : State} {f : Flag}

theorem State.startGrowth_flagged (n : SlotId) (l : LineId) (k : Nat) (h : s.flagged f) : (s.startGrowth n l k).flagged f := by
  unfold State.startGrowth; split
  · split
    · exact h
    · split
      · exact h
      · exact State.flagged_of_ports rfl rfl (State.flagged_raiseBoth_of s .poolShort h)
  · exact h

theorem State.replaceRegion_flagged (n : SlotId) (l : LineId) (k : Nat) (h : s.flagged f) : (s.replaceRegion n l k).flagged f := by
  unfold State.replaceRegion; split
  · split
    · exact h
    · exact State.emptySlot_flagged _ (State.recallFailed_flagged _ _ (State.flagged_raiseBoth_of _ _ h))
  · exact h

theorem State.evalNeed_flagged (n : SlotId) (l : LineId) (h : s.flagged f) : (s.evalNeed n l).flagged f := by
  have above : ∀ ln k, (s.needAbove n l ln k).flagged f := fun ln k => by
    unfold State.needAbove; split_ifs
    · exact State.replaceRegion_flagged n l k h
    · exact State.startGrowth_flagged n l k h
    · exact h
    · exact h
  unfold State.evalNeed; split_ifs
  · split
    · split_ifs
      · exact State.flagged_of_ports rfl rfl (above _ _)
      · exact h
    · exact h
  · exact h

theorem State.evalWritten_flagged (n : SlotId) (ixs : List ParamIx) (h : s.flagged f) : (s.evalWritten n ixs).flagged f := by
  unfold State.evalWritten; split
  · exact foldl_holds (fun t => t.flagged f) _ (fun t l ht => State.evalNeed_flagged n l ht) _ s h
  · exact h

theorem State.endMorphing_flagged (n : SlotId) (ixs : List ParamIx) (h : s.flagged f) : (s.endMorphing n ixs).flagged f := by
  unfold State.endMorphing; split
  · exact h
  · dsimp only; split_ifs
    · unfold State.removeMorph; split
      · exact h
      · exact State.leaveWaiting_flagged _ _ h
    · exact h

theorem State.propagateTo_flagged (tempo : Nat) (n : SlotId) (h : s.flagged f) : (s.propagateTo tempo n).flagged f := by
  unfold State.propagateTo; split_ifs
  · split
    · exact State.evalWritten_flagged n _ (State.endMorphing_flagged n _ h)
    · exact h
  · exact h

end

/-! #### One slot's turn -/

/-- R92: the propagation to some slots, in the order given. -/
def State.propagateAll (s : State) (tempo : Nat) (ns : List SlotId) : State := ns.foldl (State.propagateTo tempo) s

section
variable {s : State} {tempo : Nat} {n : SlotId}

theorem State.propagateAll_slotView {ns : List SlotId} (h : n ∉ ns) : (s.propagateAll tempo ns).slotView n = s.slotView n := by
  have others : ∀ t : State, t.slotView n = s.slotView n → ∀ m ∈ ns, (t.propagateTo tempo m).slotView n = s.slotView n :=
    fun t ht m hm => (t.propagateTo_slotView (fun e : m = n => h (e ▸ hm)) tempo).trans ht
  exact List.foldlRecOn (motive := fun t => t.slotView n = s.slotView n) ns (State.propagateTo tempo) rfl others

theorem State.propagateAll_surroundings (s : State) (tempo : Nat) (ns : List SlotId) :
    (s.propagateAll tempo ns).surroundings = s.surroundings :=
  foldl_keeps State.surroundings (State.propagateTo tempo) (fun t m => t.propagateTo_surroundings m tempo) ns s

theorem State.propagateAll_flagged {f : Flag} (ns : List SlotId) (h : s.flagged f) : (s.propagateAll tempo ns).flagged f :=
  foldl_holds (fun t => t.flagged f) _ (fun _ m ht => State.propagateTo_flagged tempo m ht) ns s h

/-- The slots before a slot, the slot and the slots after it. -/
theorem allSlots_split (n : SlotId) :
    allSlots = allSlots.take n.val ++ n :: allSlots.drop (n.val + 1) ∧ n ∉ allSlots.take n.val ∧ n ∉ allSlots.drop (n.val + 1) := by
  unfold allSlots; revert n; decide

/-- The state when the propagation comes to a slot. -/
def State.atTurn (s : State) (tempo : Nat) (n : SlotId) : State := s.propagateAll tempo (allSlots.take n.val)

/-- Up to its turn a slot is as it was. -/
theorem State.atTurn_slotView (s : State) (tempo : Nat) (n : SlotId) : (s.atTurn tempo n).slotView n = s.slotView n :=
  State.propagateAll_slotView (allSlots_split n).2.1

theorem State.propagateAll_eq (s : State) (tempo : Nat) (n : SlotId) : s.propagateAll tempo allSlots =
    ((s.atTurn tempo n).propagateTo tempo n).propagateAll tempo (allSlots.drop (n.val + 1)) := by
  conv_lhs => rw [(allSlots_split n).1]
  exact List.foldl_append.trans rfl

/-- After its turn it is as its turn leaves it. -/
theorem State.propagated_slotView (s : State) (tempo : Nat) (n : SlotId) :
    (s.propagateAll tempo allSlots).slotView n = ((s.atTurn tempo n).propagateTo tempo n).slotView n := by
  rw [s.propagateAll_eq tempo n, State.propagateAll_slotView (allSlots_split n).2.2]

theorem State.propagated_flagged {f : Flag} (h : ((s.atTurn tempo n).propagateTo tempo n).flagged f) :
    (s.propagateAll tempo allSlots).flagged f := by
  rw [s.propagateAll_eq tempo n]; exact State.propagateAll_flagged _ h

theorem State.propagateTo_of_follows {a : Alg} (h : s.slots[n].followsTempo = true) (ha : s.slots[n].algorithm = some a) :
    s.propagateTo tempo n =
      ((s.writeShadow n (s.slots[n].shadow.set timeIx (derivedTime a tempo s.slots[n].shadow.division))).endMorphing n
        [timeIx]).evalWritten n [timeIx] := by
  unfold State.propagateTo; rw [if_pos h, ha]

theorem State.propagateTo_of_not_follows (h : s.slots[n].followsTempo = false) : s.propagateTo tempo n = s :=
  if_neg (by rw [h]; exact Bool.false_ne_true)

/-- R26, R92: what follows the tempo is a slot in use whose shadow bank is tempo-locked. -/
theorem Slot.followsTempo_iff (sl : Slot) : sl.followsTempo = true ↔
    (sl.state = .preparing ∨ sl.state = .running ∨ sl.state = .muted)
    ∧ ∃ a, sl.algorithm = some a ∧ (a = .tape ∨ a = .pingpong) ∧ sl.shadow[2].toNat ≠ 0 := by
  unfold Slot.followsTempo
  cases h : sl.algorithm with
  | none => simp
  | some a =>
    have locked : (some a).elim false (fun a => a.locked sl.shadow) = a.locked sl.shadow := rfl
    rw [locked, Bool.and_eq_true, Alg.locked_iff]
    simp [or_assoc]

/-- R26, R92: the slots that a propagation leaves alone. -/
theorem Slot.followsTempo_false {sl : Slot} (h : sl.state = .empty ∨ sl.state = .fading ∨ sl.algorithm = some .plate
      ∨ sl.algorithm = some .hall ∨ sl.algorithm = some .chorus ∨ sl.algorithm = some .flanger ∨ sl.shadow[2].toNat = 0) :
    sl.followsTempo = false := by
  rw [← Bool.not_eq_true, Slot.followsTempo_iff]
  rintro ⟨hstate, a, ha, halg, hdivision⟩
  rcases h with h | h | h | h | h | h | h
  · simp [h] at hstate
  · simp [h] at hstate
  · cases h.symm.trans ha; simp at halg
  · cases h.symm.trans ha; simp at halg
  · cases h.symm.trans ha; simp at halg
  · cases h.symm.trans ha; simp at halg
  · exact hdivision h

/-- R126: the time written is taken out of a morph, and a morph left with nothing goes. -/
theorem State.endMorphing_time {m : Morph} (h : s.morphs[n] = some m) :
    (m.morphing &&& ~~~1#12 = 0 → (s.endMorphing n [0]).morphs[n] = none)
    ∧ (m.morphing &&& ~~~1#12 ≠ 0 → (s.endMorphing n [0]).morphs[n] = some { m with morphing := m.morphing &&& ~~~1#12 }) := by
  have left : m.without [0] = m.morphing &&& ~~~1#12 := rfl
  rw [State.endMorphing_of_some h, left]
  refine ⟨fun hnone => ?_, fun hsome => ?_⟩
  · rw [if_pos hnone, State.removeMorph_morph]
  · rw [if_neg hsome, State.setMorph_morphs, table_get_set_self]

end

/-- Settles O30: each locked slot is written in its turn, with nothing before or after its turn touching it. -/
theorem propagationWritesLockedSlots : Obligations.PropagationWritesLockedSlots := by
  intro s tempo rest hqueue taken atTurn
  let u := (taken.propagateAll tempo allSlots).startClearing
  have run : exec .slotPropagation s = .next u := by
    show execSlotPropagation s = _
    unfold execSlotPropagation; rw [hqueue]; rfl
  have frame : u.surroundings = taken.surroundings := State.propagateAll_surroundings taken tempo allSlots
  have turn : ∀ n : SlotId, (atTurn n).slotView n = s.slotView n := State.atTurn_slotView taken tempo
  have left : ∀ n : SlotId, u.slotView n = ((atTurn n).propagateTo tempo n).slotView n := State.propagated_slotView taken tempo
  refine ⟨u, run, tempo_of_surroundings frame, rfl, fun n a hstate halg htime hdivision => ?written, fun n h => ?unwritten,
    (congrArg State.audio frame :), (congrArg State.modulation frame :), (congrArg State.holds frame :),
    (congrArg State.scenes frame :)⟩
  case unwritten =>
    have slot : (atTurn n).slots[n] = s.slots[n] := congrArg (·.1) (turn n)
    have view : u.slotView n = s.slotView n := by
      rw [left, State.propagateTo_of_not_follows (by rw [slot]; exact Slot.followsTempo_false h), turn]
    exact ⟨congrArg (·.1) view, congrArg (·.2.1) view⟩
  case written =>
    intro v bank w
    have slot : v.slots[n] = s.slots[n] := congrArg (·.1) (turn n)
    have morph : (v.writeShadow n bank).morphs[n] = s.morphs[n] := congrArg (·.2.1) (turn n)
    have follows : v.slots[n].followsTempo = true := by
      rw [slot]; exact (Slot.followsTempo_iff _).mpr ⟨hstate, a, halg, htime, hdivision⟩
    have step : v.propagateTo tempo n = w.evalWritten n [0] := by
      rw [State.propagateTo_of_follows follows (slot ▸ halg), slot]; rfl
    have written : v.ShadowWritten w n bank := .morphEnded v n bank [0]
    refine ⟨step, fun hplaced => ?_, fun _ hfails => ?_⟩
    · have hnot : ¬ w.evaluationFails n [0] := hplaced.elim
        (fun h => State.not_evaluationFails (by rw [written.slot]; exact slot ▸ h)) id
      obtain ⟨hslot, hmorph, -, -⟩ := written.evaluated hnot
      have leftSlot : u.slots[n] = (w.evalWritten n [0]).slots[n] := step ▸ congrArg (·.1) (left n)
      have leftMorph : u.morphs[n] = (w.evalWritten n [0]).morphs[n] := step ▸ congrArg (·.2.1) (left n)
      rw [leftSlot, leftMorph.trans hmorph]
      refine ⟨hslot.trans (by rw [slot]), fun h => State.endMorphing_of_none (morph.trans h), fun m h => ?_⟩
      exact State.endMorphing_time (morph.trans h)
    · obtain ⟨hslot, hshort, hempty⟩ := written.emptied hfails
      rw [← step] at hslot hshort hempty
      have leftSlot : u.slots[n] = (v.propagateTo tempo n).slots[n] := congrArg (·.1) (left n)
      exact ⟨leftSlot.trans (by rw [hslot, slot]), State.propagated_flagged (s := taken) hshort,
        State.propagated_flagged (s := taken) hempty⟩

end Sys2Proof.Machine

namespace Sys2Proof.Machine

/-! ### Start-up (R73, R162, R177, R178, R181) -/

/-- The state but for the supply, its gain and the event flags. -/
def State.outsideSupply (s : State) : State :=
  { s with supply := .normal, supplyGain := GainFade.reset, portA := s.portA.quiet, portB := s.portB.quiet }

/-- R178: the state with every page swept. -/
def State.pagesSwept (s : State) : State := { s with sweep := none, pool := { s.pool with written := [] } }

section
variable (s : State)

/-- R178: the sweeps touch the pages, the records and the event flags alone. -/
theorem State.sweptUp_outsideScenes : s.sweptUp.outsideScenes = s.pagesSwept.outsideScenes := by
  unfold State.sweptUp; dsimp only; split_ifs
  · exact State.storeSweep_outsideScenes _
  · rfl

/-- R110, R178: only a PIN start sweeps the records. -/
theorem State.sweptUp_scenes_power (h : s.startKind = .power) : s.sweptUp.scenes = s.scenes := by
  unfold State.sweptUp; dsimp only; rw [if_neg (by rw [h]; decide)]

theorem State.sweptUp_scene_pin (h : s.startKind = .pin) (k : SceneId) : s.sweptUp.scenes[k] =
    if s.scenes[k].state = .valid ∧ s.scenes[k].check ≠ s.scenes[k].freshCheck then { s.scenes[k] with state := .corrupt }
    else s.scenes[k] := by
  have swept : s.sweptUp = s.pagesSwept.storeSweep := if_pos h
  rw [swept, State.storeSweep_scene]
  exact if_congr (Scene.mismatched_iff _) rfl rfl

/-- R181: from 2.80 V up the first judgement touches the supply, its gain and the event flags alone. -/
theorem State.firstJudgement_outsideSupply {mv : Nat} (h : 2800 ≤ mv) : (s.firstJudgement mv).outsideSupply = s.outsideSupply := by
  unfold State.firstJudgement
  rw [if_neg (Nat.not_lt.mpr h)]; split_ifs
  · rw [State.supplyFalls, State.fadeSupply_eq]; rfl
  · rfl

/-- R181: below 3.05 V the supply falls LOW, and is reported. -/
theorem State.firstJudgement_low {mv : Nat} (h : 2800 ≤ mv) (hlow : mv < 3050) :
    (s.firstJudgement mv).supply = .low ∧ (s.firstJudgement mv).flagged .supplyLow := by
  unfold State.firstJudgement
  rw [if_neg (Nat.not_lt.mpr h), if_pos hlow, State.supplyFalls, State.fadeSupply_eq]
  exact ⟨rfl, State.flagged_of_ports rfl rfl (State.flagged_raiseBoth { s with supply := .low } .supplyLow)⟩

theorem State.firstJudgement_normal {mv : Nat} (h : 3050 ≤ mv) : s.firstJudgement mv = s := by
  unfold State.firstJudgement
  rw [if_neg (by omega), if_neg (by omega)]

/-- R178, R181: but for the records, the supply and the event flags, a start-up leaves the swept state with its pins sampled. -/
theorem State.startUp_frame (pins : StartPins) {mv : Nat} (h : 2800 ≤ mv) :
    ((s.sweptUp.pinsSampled pins).firstJudgement mv).outsideSupply.outsideScenes
      = (s.pagesSwept.pinsSampled pins).outsideSupply.outsideScenes := by
  have sampled : (s.sweptUp.outsideScenes.pinsSampled pins).outsideSupply.outsideScenes
      = (s.pagesSwept.outsideScenes.pinsSampled pins).outsideSupply.outsideScenes := by rw [s.sweptUp_outsideScenes]
  rw [State.firstJudgement_outsideSupply _ h]; exact sampled

/-- R94: some LFOs rewritten, each from its own state. -/
theorem foldl_setLfo (g : Lfo → Lfo) (k : LfoId) (ks : List LfoId) : ∀ m : ModulationUnit, ks.Nodup →
    (ks.foldl (fun (u : ModulationUnit) (j : LfoId) => { u with lfos := u.lfos.set j (g u.lfos[j]) }) m).lfos[k]
      = if k ∈ ks then g m.lfos[k] else m.lfos[k] := by
  induction ks with
  | nil => intro m _; rfl
  | cons j ks ih =>
    intro m hnodup
    obtain ⟨hj, hks⟩ := List.nodup_cons.mp hnodup
    rw [List.foldl_cons, ih _ hks]
    by_cases h : k = j
    · subst h; simp [hj]
    · have other : (m.lfos.set j (g m.lfos[j]))[k] = m.lfos[k] := (table_get_set _ _ _ _).trans (if_neg (Ne.symm h))
      exact if_congr (by simp [h]) (congrArg g other) other

theorem ModulationUnit.mapLfos_lfo (m : ModulationUnit) (g : Lfo → Lfo) (k : LfoId) : (m.mapLfos g).lfos[k] = g m.lfos[k] :=
  (foldl_setLfo g k allLfos m (by unfold allLfos; decide)).trans (if_pos (mem_allLfos k))

/-- R178: the LFOs at the rate just fixed. -/
theorem ModulationUnit.started_lfo (m : ModulationUnit) (r : Rate) (k : LfoId) : (m.started r).lfos[k] =
    { m.lfos[k] with increment := lfoIncrement r m.lfos[k].rate m.lfos[k].division m.lfoTempo } := m.mapLfos_lfo _ k

/-- R177: a power-on reset keeps the page contents, the counter of free values and the queue alone. -/
theorem State.powerOn_eq {s t : State} (hpages : t.pool.written = s.pool.written) (hfresh : t.fresh = s.fresh)
    (hpending : t.pending = s.pending) : t.powerOn = s.poweredOn := by
  unfold State.powerOn State.enterStarting State.poweredOn
  rw [hpages, hfresh, hpending]; rfl

end

/-- Settles O50: the sweep, its page times and its end, with the first judgement of the supply. -/
theorem startUp : Obligations.StartUp := by
  intro s hpower
  refine ⟨fun mv hmv hsweep => if_pos ⟨hpower, rfl, hmv, hsweep⟩, fun k hpending hsweep hk => ?page,
    fun hsweep pins hmv => ?ends, fun hsweep pins hmv => ?resets⟩
  case page =>
    unfold step; rw [hpending]; dsimp only
    unfold State.pageTime State.sweepPage; rw [hsweep]; dsimp only
    rw [if_pos hk, hpending]
  case ends =>
    let w := s.sweptUp.pinsSampled pins
    let u := w.firstJudgement pins.supplyMillivolts
    have run : exec (.startUpSweepEnd pins) s = .next u := if_pos ⟨hpower, hsweep⟩
    have swept := s.sweptUp_outsideScenes
    have frame := s.startUp_frame pins hmv
    have scenes : u.scenes = s.sweptUp.scenes := (congrArg State.scenes (w.firstJudgement_outsideSupply hmv) :)
    have rate : u.rate = pinRate pins.rate := (congrArg State.rate frame :)
    have modulation : u.modulation = s.modulation.started (pinRate pins.rate) := (congrArg State.modulation frame :)
    refine ⟨u, run, (congrArg State.power frame :), (congrArg State.sweep frame :), (congrArg State.pool frame :), ?_, ?_,
      (congrArg (fun t => t.portA.ownAddress) frame :), (congrArg (fun t => t.portB.ownAddress) frame :), fun k => ?_, fun hkind => ?_,
      fun hkind k => ?_, fun hlow => w.firstJudgement_low hmv hlow, fun hnormal => ?_, (congrArg State.slots frame :),
      (congrArg State.holds frame :), (congrArg State.audio frame :), (congrArg State.tempo frame :)⟩
    · rw [rate]; cases pins.rate <;> rfl
    · rw [rate]; cases pins.rate <;> rfl
    · rw [rate, modulation]; exact s.modulation.started_lfo _ k
    · rw [scenes]; exact s.sweptUp_scenes_power hkind
    · rw [scenes]; exact s.sweptUp_scene_pin hkind k
    · have same : u = w := w.firstJudgement_normal hnormal
      rw [same]; exact ⟨(congrArg State.supply swept :), (congrArg State.supplyGain swept :)⟩
  case resets =>
    have swept := s.sweptUp_outsideScenes
    have judged : (s.sweptUp.pinsSampled pins).firstJudgement pins.supplyMillivolts = (s.sweptUp.pinsSampled pins).powerOn := if_pos hmv
    refine (if_pos ⟨hpower, hsweep⟩ : exec (.startUpSweepEnd pins) s = _).trans (congrArg Host.Outcome.next (judged.trans ?_))
    exact State.powerOn_eq (congrArg (fun t => t.pool.written) swept :) (congrArg State.fresh swept :) (congrArg State.pending swept :)

end Sys2Proof.Machine

namespace Sys2Proof.Machine

/-! ### SET LFO (R100, R140) -/

section
variable {s : State} {k : LfoId}

theorem State.mem_boundTo {n : SlotId} : n ∈ s.boundTo k ↔ s.slots[n].boundLfo = some k := by
  unfold State.boundTo; simp [mem_allSlots]

/-- R135, R140: what stands in the way of SET LFO. -/
theorem State.boundTo_held_iff {p : Port} : (s.boundTo k).any (s.heldByOther p) = true ↔
    ∃ n : SlotId, s.slots[n].boundLfo = some k ∧ s.holds[n].holder = some p.other := by
  unfold State.heldByOther; simp [State.mem_boundTo]

/-- R135, R140: the conflict list is that of the bound slots. -/
theorem State.conflicts_boundTo (s : State) (p : Port) (k : LfoId) : s.conflicts p (s.boundTo k)
    = slotSet fun n => s.slots[n].boundLfo == some k && s.holds[n].holder == some p.other := by
  have bound (n : SlotId) : (s.boundTo k).contains n = (s.slots[n].boundLfo == some k) := by
    rw [Bool.eq_iff_iff, List.contains_iff_mem, State.mem_boundTo, beq_iff_eq]
  exact congrArg slotSet (funext fun n => congrArg (· && s.heldByOther p n) (bound n))

/-- R100: the entry SET LFO leaves, field by field. -/
theorem Lfo.set_eq (f : Lfo) (r : Rate) (tempo : Nat) (shape : Shape) (rate division offset : Nat) :
    f.set r tempo shape rate division offset = { f with
      shape := shape, rate := rate, division := division, offset := offset
      phase := if shape ≠ f.shape ∨ offset ≠ f.offset then offsetPhase offset else f.phase
      restartPending := if shape ≠ f.shape ∨ offset ≠ f.offset then true else f.restartPending
      previous := if shape ≠ f.shape then 0 else f.previous
      current := if shape ≠ f.shape then 0 else f.current
      increment := if division ≠ f.division ∨ division = 0 ∧ rate ≠ f.rate then lfoIncrement r rate division tempo
        else f.increment } := by
  unfold Lfo.set; dsimp only; split_ifs <;> rfl

/-- R100, R140: SET LFO with its fields in range. -/
theorem setLfoDecision_of_fields {b0 b1 b2 b3 b4 b5 b6 : Byte} {shape : Shape} (p : Port) (hk : lfoField b0 = some k)
    (hshape : shapeField b1 = some shape) (hrate : 1 ≤ word16 b2 b3 ∧ word16 b2 b3 ≤ 2000) (hdivision : b4.toNat ≤ 9)
    (hoffset : word16 b5 b6 ≤ 359) :
    setLfoDecision p [b0, b1, b2, b3, b4, b5, b6] s =
      if (s.boundTo k).any (s.heldByOther p) then s.refuseHeld p (s.boundTo k)
      else (s.setModulation { s.modulation with
        lfos := s.modulation.lfos.set k
          (s.modulation.lfos[k].set s.rate s.modulation.lfoTempo shape (word16 b2 b3) b4.toNat (word16 b5 b6)) }).answerDone := by
  have rate : within 1 2000 (word16 b2 b3) = some (word16 b2 b3) := if_pos hrate
  have division : within 0 9 b4.toNat = some b4.toNat := if_pos ⟨Nat.zero_le _, hdivision⟩
  have offset : within 0 359 (word16 b5 b6) = some (word16 b5 b6) := if_pos ⟨Nat.zero_le _, hoffset⟩
  unfold setLfoDecision; dsimp only; rw [hk, hshape, rate, division, offset]

end

/-- Settles O31: the entry is written as R100 says when no bound slot is in the way. -/
theorem setLfoWrites : Obligations.SetLfoWrites := by
  intro s t p tag b0 b1 b2 b3 b4 b5 b6 k shape ht hk hshape hlow hhigh hdivision hoffset f
  have decides := setLfoDecision_of_fields (s := t) p hk hshape ⟨hlow, hhigh⟩ hdivision hoffset
  refine ⟨fun free => ?written, fun held => ?held⟩
  case written =>
    have admitted : ¬ (t.boundTo k).any (t.heldByOther p) = true := fun h => by
      obtain ⟨n, hbound, hheld⟩ := State.boundTo_held_iff.mp h
      exact free n hbound hheld
    rw [if_neg admitted, Lfo.set_eq] at decides
    refine ⟨_, taken_ownCommand ht decides, rfl, rfl, rfl, rfl, rfl, fun h => ⟨if_pos h, if_pos h⟩, fun hs ho => ?_,
      fun h => ⟨if_pos h, if_pos h⟩, fun hs => ⟨if_neg (not_not.mpr hs), if_neg (not_not.mpr hs)⟩, fun h => if_pos h,
      fun hd hr => if_neg ?_⟩
    · have kept : ¬ (shape ≠ f.shape ∨ word16 b5 b6 ≠ f.offset) := by simp [hs, ho]
      exact ⟨if_neg kept, if_neg kept⟩
    · rintro (h | ⟨hfree, hrate⟩)
      · exact h hd
      · exact hr.elim (· hfree) hrate
  case held =>
    rw [if_pos (State.boundTo_held_iff.mpr held), State.refuseHeld, State.conflicts_boundTo] at decides
    exact taken_ownCommand ht decides

end Sys2Proof.Machine

namespace Sys2Proof.Machine

/-! ### Propagation and RESYNC at the Modulation Unit (R98, R99) -/

/-- R94: a change of every LFO changes the LFOs alone. -/
theorem ModulationUnit.mapLfos_frame (m : ModulationUnit) (g : Lfo → Lfo) : m.mapLfos g = { m with lfos := (m.mapLfos g).lfos } :=
  foldl_holds (fun u : ModulationUnit => u = { m with lfos := u.lfos })
    (fun (u : ModulationUnit) (k : LfoId) => { u with lfos := u.lfos.set k (g u.lfos[k]) })
    (fun u k hu => by rw [hu]) allLfos m rfl

/-- Settles O32: every LFO is rewritten from its own state, and nothing else of the Modulation Unit but the LFO tempo. -/
theorem propagationAndResyncReachTheLfos : Obligations.PropagationAndResyncReachTheLfos := by
  intro s rest
  refine ⟨fun tempo hqueue => ?propagation, fun hqueue => ?resync⟩
  case propagation =>
    let m := s.modulation.propagated s.rate tempo
    have run : exec .lfoPropagation s = .next { s with tempo := { s.tempo with toModulation := rest }, modulation := m } := by
      show execLfoPropagation s = _
      unfold execLfoPropagation; rw [hqueue]; rfl
    have frame : m = { s.modulation with lfoTempo := tempo, lfos := m.lfos } := ModulationUnit.mapLfos_frame _ _
    exact ⟨m, run, (congrArg ModulationUnit.lfoTempo frame :), (congrArg ModulationUnit.lfsr frame :),
      (congrArg ModulationUnit.mixing frame :), (congrArg ModulationUnit.mode frame :), ModulationUnit.mapLfos_lfo _ _⟩
  case resync =>
    let m := s.modulation.resynced
    have run : exec .resync s = .next { s with tempo := { s.tempo with toModulation := rest }, modulation := m } := by
      show execResync s = _
      unfold execResync; rw [hqueue]; rfl
    have frame : m = { s.modulation with lfos := m.lfos } := ModulationUnit.mapLfos_frame _ _
    exact ⟨m, run, (congrArg ModulationUnit.lfoTempo frame :), (congrArg ModulationUnit.lfsr frame :),
      (congrArg ModulationUnit.mixing frame :), (congrArg ModulationUnit.mode frame :), ModulationUnit.mapLfos_lfo _ _⟩

end Sys2Proof.Machine

namespace Sys2Proof.Machine

/-! ### The step of an LFO (R95 to R97) -/

/-- R95: the phase an LFO's step reaches. -/
theorem Lfo.advance_phase (f : Lfo) : f.advance.1.phase = if f.restartPending then f.phase
    else if 4294967296 ≤ f.phase + f.increment then f.phase + f.increment - 4294967296 else f.phase + f.increment := by
  unfold Lfo.advance; split_ifs <;> rfl

/-- R95: , and changes the phase at most beside. -/
theorem Lfo.advance_lfo (f : Lfo) : f.advance.1 = { f with phase := f.advance.1.phase, restartPending := false } := by
  unfold Lfo.advance
  split_ifs with hrestart
  · rfl
  all_goals rw [← Bool.eq_false_of_not_eq_true hrestart]

/-- R95: the steps that are cycle starts. -/
theorem Lfo.advance_start_iff (f : Lfo) : f.advance.2 = true ↔ f.restartPending = true ∨ 4294967296 ≤ f.phase + f.increment := by
  unfold Lfo.advance; split_ifs <;> simp [*]

theorem Shape.random_iff (sh : Shape) : sh.random = true ↔ sh = .stepRandom ∨ sh = .smoothRandom := by
  cases sh <;> decide

/-- R97: whether the LFO's step makes a draw. -/
def Lfo.draws (f : Lfo) : Bool := f.advance.2 && f.shape.random

theorem Lfo.draws_iff (f : Lfo) : f.draws = true ↔
    (f.restartPending = true ∨ 4294967296 ≤ f.phase + f.increment) ∧ (f.shape = .stepRandom ∨ f.shape = .smoothRandom) := by
  rw [Lfo.draws, Bool.and_eq_true, Lfo.advance_start_iff, Shape.random_iff]

/-- R102: the value drawn. -/
theorem ModulationUnit.drawn_eq (m : ModulationUnit) : m.drawn =
    if m.mode = .live then Nat.repeat lfsrShift 16 m.lfsr ^^^ m.mixing else Nat.repeat lfsrShift 16 m.lfsr := by
  unfold ModulationUnit.drawn; cases m.mode <;> rfl

section
variable (m : ModulationUnit) (k : LfoId)

/-- R97: the LFO after its step's draw, if it makes one. -/
def ModulationUnit.lfoDrawn : Lfo :=
  if m.lfos[k].draws then m.lfos[k].advance.1.take m.drawn else m.lfos[k].advance.1

/-- R95: an LFO's step writes the LFO, with the draw it makes and the output it reaches, and shifts the LFSR if it draws. -/
theorem ModulationUnit.stepLfo_eq : m.stepLfo k = { m with
    lfsr := if m.lfos[k].draws then lfsrDraw m.lfsr else m.lfsr
    lfos := m.lfos.set k { m.lfoDrawn k with output := (m.lfoDrawn k).shapeOutput } } := by
  have draws : m.lfos[k].draws = (m.lfos[k].advance.2 && m.lfos[k].advance.1.shape.random) := by
    rw [Lfo.draws, show m.lfos[k].advance.1.shape = m.lfos[k].shape by rw [Lfo.advance_lfo]]
  rw [ModulationUnit.lfoDrawn, draws]
  unfold ModulationUnit.stepLfo; dsimp only
  split_ifs <;> rfl

/-- R95: the LFO that its step leaves. -/
theorem ModulationUnit.stepLfo_lfo : (m.stepLfo k).lfos[k] = { m.lfos[k] with
    phase := m.lfos[k].advance.1.phase
    restartPending := false
    previous := if m.lfos[k].draws then m.lfos[k].current else m.lfos[k].previous
    current := if m.lfos[k].draws then m.drawn.toInt else m.lfos[k].current
    output := ((m.stepLfo k).lfos[k]).output } := by
  have written : (m.stepLfo k).lfos[k] = { m.lfoDrawn k with output := (m.lfoDrawn k).shapeOutput } := by
    rw [ModulationUnit.stepLfo_eq]; exact table_get_set_self _ _ _
  rw [written, ModulationUnit.lfoDrawn]
  by_cases hdraws : m.lfos[k].draws = true
  · simp only [if_pos hdraws]; rw [Lfo.advance_lfo]; rfl
  · simp only [if_neg hdraws]; rw [Lfo.advance_lfo]

end

/-- R96: the fraction of a cycle, with the counts of a cycle written out. -/
theorem Lfo.fraction_eq (f : Lfo) : f.fraction = (f.phase : Rat) / 4294967296 := by
  unfold Lfo.fraction; norm_num

/-- R96: the output of an LFO whose shape is known. -/
theorem Lfo.shapeOutput_of_shape {f : Lfo} {sh : Shape} (h : f.shape = sh) : f.shapeOutput = { f with shape := sh }.shapeOutput := by
  rw [← h]

/-- Settles O33: the phase, the draw and the output of a step, each by its own rule. -/
theorem lfoStep : Obligations.LfoStep := by
  intro m k f g start random turn
  have stepped : g = _ := m.stepLfo_lfo k
  have written := m.stepLfo_eq k
  have phase : g.phase = f.advance.1.phase := (congrArg Lfo.phase stepped :)
  have shape : g.shape = f.shape := (congrArg Lfo.shape stepped :)
  have previous : g.previous = if f.draws then f.current else f.previous := (congrArg Lfo.previous stepped :)
  have current : g.current = if f.draws then m.drawn.toInt else f.current := (congrArg Lfo.current stepped :)
  have lfsr : (m.stepLfo k).lfsr = if f.draws then lfsrDraw m.lfsr else m.lfsr := (congrArg ModulationUnit.lfsr written :)
  have fraction : g.fraction = turn := g.fraction_eq
  have output {sh : Shape} (h : f.shape = sh) : g.output = { g with shape := sh }.shapeOutput :=
    (m.stepLfo_output k).trans (Lfo.shapeOutput_of_shape (shape.trans h))
  have triangle (h : f.shape = .triangle) : g.output =
      .exact (if turn < 1 / 4 then 4 * turn else if turn < 3 / 4 then 2 - 4 * turn else 4 * turn - 4) := fraction ▸ output h
  refine ⟨(congrArg Lfo.restartPending stepped :), phase.trans f.advance_phase, fun h => ?draws, fun h => ?rests, output,
    fun h low => ?rising, fun h low high => ?falling, fun h high => ?returning, fun h => fraction ▸ output h,
    fun h => fraction ▸ output h, output, fun h => fraction ▸ output h, ?frame, fun j hj => ?others,
    (congrArg ModulationUnit.mixing written :)⟩
  case draws =>
    have draws : f.draws = true := f.draws_iff.mpr h
    rw [if_pos draws] at lfsr previous current
    exact ⟨lfsr, previous, current.trans (congrArg BitVec.toInt m.drawn_eq)⟩
  case rests =>
    have rests : ¬ f.draws = true := fun hd => h (f.draws_iff.mp hd)
    rw [if_neg rests] at lfsr previous current
    exact ⟨lfsr, previous, current⟩
  case rising => rw [triangle h, if_pos low]
  case falling => rw [triangle h, if_neg (not_lt.mpr low), if_pos high]
  case returning =>
    have quarter : (1 : Rat) / 4 ≤ turn := le_trans (by norm_num) high
    rw [triangle h, if_neg (not_lt.mpr quarter), if_neg (not_lt.mpr high)]
  case frame => rw [stepped]
  case others => rw [written]; exact (table_get_set _ _ _ _).trans (if_neg (Ne.symm hj))

end Sys2Proof.Machine

namespace Sys2Proof.Machine

/-! ### Scene records written and read (R109, R111 to R114) -/

theorem sceneField_of_toNat {b : Byte} {k : SceneId} (h : b.toNat = k.val) : sceneField b = some k := by
  unfold sceneField; rw [dif_pos (h ▸ k.isLt)]; exact congrArg some (Fin.ext h)

theorem sceneField_of_le {b : Byte} (h : 32 ≤ b.toNat) : sceneField b = none := dif_neg (not_lt.mpr h)

section
variable {t : State} {k : SceneId}

theorem State.captureEntry_of_algorithm {n : SlotId} {a : Alg} (hs : t.slots[n].state ≠ .empty) (ha : t.slots[n].algorithm = some a) :
    t.captureEntry n = some { slot := n, algorithm := a, sendSet := t.slots[n].sendSet, returnPair := t.slots[n].returnPair,
                              mute := t.slots[n].muteWanted, params := a.listedOnly t.slots[n].active } := by
  unfold State.captureEntry; rw [ha]; split
  · exact absurd ‹_› hs
  · exact nomatch ‹some a = none›
  · cases ‹some a = some _›; rfl

theorem State.captureEntry_of_empty {n : SlotId} (hs : t.slots[n].state = .empty) : t.captureEntry n = none := by
  unfold State.captureEntry; rw [hs]

/-- R108: a record just sealed in the Scene Store is VALID and carries the check value of its contents. -/
theorem State.setScene_sealed (t : State) (k : SceneId) (v : Scene) : (t.setScene k v.sealed).scenes =
    t.scenes.set k { v with state := .valid, check := ((t.setScene k v.sealed).scenes[k]).freshCheck } := by
  rw [State.setScene_scenes, table_get_set_self]; rfl

/-- R108, R145: what a command that seals a record leaves. -/
theorem sealingCommand_spec {s : State} {p : Port} {tag code : Byte} {body b : List Byte} {d : State → Verdict} {v : Scene}
    (htake : s.takeCommand p (ownCommand tag code body) = some t) (hd : d t = (t.setScene k v.sealed).answerDone b) :
    ∃ u, runCommand p (ownCommand tag code body) d s = .next u ∧ u.flagsOf = t.flagsOf ∧ u.scenes[k].entries = v.entries
      ∧ u.scenes = t.scenes.set k { v with state := .valid, check := u.scenes[k].freshCheck }
      ∧ u.outsideScenes = (t.placeResult p ⟨tag, code, .done, b⟩).outsideScenes := by
  refine ⟨_, taken_ownCommand htake hd, State.placeResult_flagsOf _ p _, ?_, ?_, ?_⟩
  · rw [State.placeResult_scenes, State.setScene_scenes, table_get_set_self]; rfl
  · rw [State.placeResult_scenes]; exact t.setScene_sealed k v
  · cases p <;> rfl

/-! #### The decisions with their fields in range -/

theorem storeSceneDecision_of_fields {b0 hi lo flag tHi tLo : Byte} {keep : Bool} {time : Nat} (hk : sceneField b0 = some k)
    (hkeep : boolField flag = some keep) (htime : morphField tHi tLo = some time) :
    storeSceneDecision [b0, hi, lo, flag, tHi, tLo] t =
      let slots := slotsOf (bits16 hi lo)
      let entries := slots.filterMap t.captureEntry
      if entries.isEmpty then t.refuse .empty
      else
        (t.setScene k (Scene.sealed
          { state := .valid, entries := entries, tempo := if keep then some t.tempo.applied else none, morphTime := time,
            check := 0 })).answerDone (byte1 entries.length ++ byte1 (slots.length - entries.length)) := by
  unfold storeSceneDecision; dsimp only; rw [hk, hkeep, htime]

/-- R109: a VALID record that matches its check value passes its verification. -/
theorem Scene.not_mismatched {v : Scene} (h : v.check = v.freshCheck) : ¬ v.mismatched = true :=
  fun hm => (v.mismatched_iff.mp hm).2 h

theorem writeSceneEntryDecision_of_sound {b0 vHi vLo tHi tLo : Byte} {rest : List Byte} {tempo : Option Nat} {time : Nat} {e : SceneEntry}
    (hlength : rest.length = 29) (hk : sceneField b0 = some k) (htempo : sceneTempoField vHi vLo = some tempo)
    (htime : morphField tHi tLo = some time) (he : entryField rest = some e)
    (hsound : t.scenes[k].state = .empty ∨ t.scenes[k].state = .valid ∧ t.scenes[k].check = t.scenes[k].freshCheck) :
    writeSceneEntryDecision (b0 :: vHi :: vLo :: tHi :: tLo :: rest) t = t.writeEntry k tempo time e := by
  unfold writeSceneEntryDecision; dsimp only
  rw [if_pos hlength, hk, htempo, htime, he]; dsimp only
  rcases hsound with hempty | ⟨hvalid, hcheck⟩
  · rw [hempty]
  · rw [hvalid]; exact if_neg (Scene.not_mismatched hcheck)

/-- R185: the position of READ SCENE. -/
theorem within_of_le {n m : Nat} (h : m ≤ n) : within 0 n m = some m := if_pos ⟨Nat.zero_le m, h⟩

section
variable {b0 b1 : Byte} (hk : sceneField b0 = some k) (hposition : b1.toNat ≤ 15)
include hk hposition

theorem readSceneDecision_of_empty (hs : t.scenes[k].state = .empty) :
    readSceneDecision [b0, b1] t = t.answerDone t.scenes[k].header := by
  unfold readSceneDecision; dsimp only; rw [hk, within_of_le hposition]; dsimp only; rw [hs]

theorem readSceneDecision_of_sound (hs : t.scenes[k].state = .valid) (hc : t.scenes[k].check = t.scenes[k].freshCheck) :
    readSceneDecision [b0, b1] t =
      t.answerDone (t.scenes[k].header ++ (t.scenes[k].entries[b1.toNat]?).elim [] SceneEntry.bytes) := by
  unfold readSceneDecision; dsimp only; rw [hk, within_of_le hposition]; dsimp only; rw [hs]
  exact if_neg (Scene.not_mismatched hc)

end

/-! #### A record found CORRUPT (R109) -/

/-- R109: the state in which a record has been found CORRUPT: STORE_FAULT stands in both ports if it was VALID until now. -/
def State.foundCorrupt (t : State) (k : SceneId) : State :=
  { t with
    scenes := t.scenes.set k { t.scenes[k] with state := .corrupt },
    portA := { t.portA with flags := t.portA.flags ||| (if t.scenes[k].state = SceneState.valid then 0x100 else 0) },
    portB := { t.portB with flags := t.portB.flags ||| (if t.scenes[k].state = SceneState.valid then 0x100 else 0) } }

theorem State.foundCorrupt_of_corrupt (h : t.scenes[k].state = .corrupt) : t.foundCorrupt k = t := by
  have scene : { t.scenes[k] with state := SceneState.corrupt } = t.scenes[k] := by rw [← h]
  have flag : (if t.scenes[k].state = SceneState.valid then (0x100 : BitVec 14) else 0) = 0 := if_neg (by rw [h]; decide)
  unfold State.foundCorrupt; rw [scene, table_set_self, flag]
  simp

theorem State.foundCorrupt_of_mismatched (h : t.scenes[k].mismatched = true) : t.foundCorrupt k = t.verifyScene k := by
  have flag : (if t.scenes[k].state = SceneState.valid then (0x100 : BitVec 14) else 0) = Flag.storeFault.bit :=
    if_pos ((Scene.mismatched_iff _).mp h).1
  unfold State.foundCorrupt State.verifyScene; rw [flag, if_pos h]; rfl

/-- R109: a record is found CORRUPT because it stands so, or by its verification. -/
theorem State.foundCorrupt_cases
    (hbad : t.scenes[k].state = .corrupt ∨ t.scenes[k].state = .valid ∧ t.scenes[k].check ≠ t.scenes[k].freshCheck) :
    t.scenes[k].state = .corrupt ∧ t.foundCorrupt k = t
      ∨ t.scenes[k].state = .valid ∧ t.scenes[k].mismatched = true ∧ t.foundCorrupt k = t.verifyScene k := by
  rcases hbad with hcorrupt | hmismatch
  · exact .inl ⟨hcorrupt, State.foundCorrupt_of_corrupt hcorrupt⟩
  · have mismatched := (Scene.mismatched_iff _).mpr hmismatch
    exact .inr ⟨hmismatch.1, mismatched, State.foundCorrupt_of_mismatched mismatched⟩

section
variable {b0 : Byte} (hk : sceneField b0 = some k)
  (hbad : t.scenes[k].state = .corrupt ∨ t.scenes[k].state = .valid ∧ t.scenes[k].check ≠ t.scenes[k].freshCheck)
include hk hbad

theorem readSceneDecision_of_bad {b1 : Byte} (hposition : b1.toNat ≤ 15) :
    readSceneDecision [b0, b1] t = (t.foundCorrupt k).refuseCorrupt := by
  unfold readSceneDecision; dsimp only; rw [hk, within_of_le hposition]; dsimp only
  obtain ⟨hcorrupt, hfound⟩ | ⟨hvalid, hmismatched, hfound⟩ := State.foundCorrupt_cases hbad
  · rw [hfound, hcorrupt]
  · rw [hfound, hvalid]; exact if_pos hmismatched

theorem writeSceneEntryDecision_of_bad {vHi vLo tHi tLo : Byte} {rest : List Byte} {tempo : Option Nat} {time : Nat} {e : SceneEntry}
    (hlength : rest.length = 29) (htempo : sceneTempoField vHi vLo = some tempo)
    (htime : morphField tHi tLo = some time) (he : entryField rest = some e) :
    writeSceneEntryDecision (b0 :: vHi :: vLo :: tHi :: tLo :: rest) t = (t.foundCorrupt k).refuse .corrupt := by
  unfold writeSceneEntryDecision; dsimp only
  rw [if_pos hlength, hk, htempo, htime, he]; dsimp only
  obtain ⟨hcorrupt, hfound⟩ | ⟨hvalid, hmismatched, hfound⟩ := State.foundCorrupt_cases hbad
  · rw [hfound, hcorrupt]
  · rw [hfound, hvalid]; exact if_pos hmismatched

theorem recallDecision_of_bad {p : Port} {g : Bool} {b1 b2 : Byte} {time : Option Nat} (hq : t.power ≠ .quiet)
    (htime : recallMorphField b1 b2 = some time) :
    recallDecision p g [b0, b1, b2] t = (t.foundCorrupt k).refuse .corrupt := by
  unfold recallDecision; dsimp only
  rw [if_neg hq, hk, htime]; dsimp only
  obtain ⟨hcorrupt, hfound⟩ | ⟨hvalid, hmismatched, hfound⟩ := State.foundCorrupt_cases hbad
  · rw [hfound, hcorrupt]
  · rw [hfound, hvalid]; exact if_pos hmismatched

end

end

/-- Settles O17: a list that yields entries seals their record, and one that yields none is refused. -/
theorem storeSceneCaptures : Obligations.StoreSceneCaptures := by
  intro s t p tag b0 hi lo flag tHi tLo k keep time htake hk hkeep htime listed entries
  have decides := storeSceneDecision_of_fields (t := t) (hi := hi) (lo := lo) hk hkeep htime
  refine ⟨fun n a => State.captureEntry_of_algorithm, fun n => State.captureEntry_of_empty, fun hsome => ?stored, fun hnone => ?refused⟩
  case stored =>
    have filled : ¬ entries.isEmpty = true := fun h => hsome (List.isEmpty_iff.mp h)
    obtain ⟨u, hrun, hflags, -, hscenes, houtside⟩ := sealingCommand_spec htake (decides.trans (if_neg filled))
    exact ⟨u, hrun, hflags, hscenes, houtside⟩
  case refused => exact taken_ownCommand htake (decides.trans (if_pos (List.isEmpty_iff.mpr hnone)))

/-- Settles O18: the entry takes its place in slot order and the record is sealed. -/
theorem writeSceneEntryPlaces : Obligations.WriteSceneEntryPlaces := by
  intro s t p tag b0 vHi vLo tHi tLo rest k tempo time e htake hlength hk htempo htime he hstate hordered
  have sound := hstate.imp_left And.left
  obtain ⟨u, hrun, hflags, hentries, hscenes, houtside⟩ :=
    sealingCommand_spec htake (writeSceneEntryDecision_of_sound hlength hk htempo htime he sound)
  obtain ⟨members, ordered⟩ := mem_placeEntry e t.scenes[k].entries hordered
  refine ⟨u, hrun, hflags, ?_, ?_, ?_, ?_⟩
  all_goals rw [hentries]
  · exact members
  · exact ordered
  · exact hscenes
  · exact houtside

/-- Settles O19: the record takes its reset value whatever it was. -/
theorem eraseSceneEmpties : Obligations.EraseSceneEmpties := by
  intro s t p tag b0 htake
  refine ⟨fun k hk => taken_ownCommand htake ?_, fun hrange => taken_ownCommand htake ?_⟩
  · unfold eraseSceneDecision; dsimp only; rw [sceneField_of_toNat hk]; rfl
  · unfold eraseSceneDecision; dsimp only; rw [sceneField_of_le hrange]; rfl

/-- Settles O20: the header, with the entry at the position where a sound record has one. -/
theorem readSceneReturns : Obligations.ReadSceneReturns := by
  intro s t p tag b0 b1 k htake hk hposition header
  refine ⟨fun hempty => taken_ownCommand htake (readSceneDecision_of_empty hk hposition hempty), fun hvalid hcheck => ?_⟩
  have decides := readSceneDecision_of_sound hk hposition hvalid hcheck
  refine ⟨fun e he => ?entry, fun hpast => ?past⟩
  case entry =>
    rw [he] at decides
    exact ⟨taken_ownCommand htake decides, e.bytes_length⟩
  case past =>
    rw [List.getElem?_eq_none hpast, Option.elim_none, List.append_nil] at decides
    exact taken_ownCommand htake decides

/-- Settles O21: each of the three commands finds the record CORRUPT and refuses. -/
theorem corruptRecordRefused : Obligations.CorruptRecordRefused := by
  intro s t p tag b0 b1 b2 vHi vLo tHi tLo rest g k hk hbad found
  refine ⟨fun htake hposition => ?read, fun htake hlength htempo htime he => ?write, fun htake hq htime => ?recalled⟩
  case read => exact taken_ownCommand htake (readSceneDecision_of_bad hk hbad hposition)
  case write =>
    obtain ⟨tempo, htempo⟩ := Option.isSome_iff_exists.mp htempo
    obtain ⟨time, htime⟩ := Option.isSome_iff_exists.mp htime
    obtain ⟨e, he⟩ := Option.isSome_iff_exists.mp he
    exact taken_ownCommand htake (writeSceneEntryDecision_of_bad hk hbad hlength htempo htime he)
  case recalled =>
    obtain ⟨time, htime⟩ := Option.isSome_iff_exists.mp htime
    exact taken_as htake (recallDecision_of_bad hk hbad hq htime)

end Sys2Proof.Machine

namespace Sys2Proof.Machine

/-! ### Morph entries removed (R127, R129) -/

section
variable (s : State) (n : SlotId)

theorem State.removeMorph_morphs : (s.removeMorph n).morphs = s.morphs.set n none := by
  unfold State.removeMorph; split
  · rename_i hnone; rw [← hnone, table_set_self]
  · rw [State.leaveWaiting_morphs, State.setMorph_morphs]

/-- R127: what the removal of morph entries leaves of each slot's place in the Morph Table. -/
theorem State.abortMorphs_morph (ns : List SlotId) : ∀ s : State, (s.abortMorphs ns).morphs[n] = if n ∈ ns then none else s.morphs[n] := by
  induction ns with
  | nil => intro s; exact (if_neg List.not_mem_nil).symm
  | cons m ns ih =>
    intro s
    have first : s.abortMorphs (m :: ns) = (s.removeMorph m).abortMorphs ns := rfl
    rw [first, ih, State.removeMorph_morphs, table_get_set]
    by_cases h : m = n
    · simp [h]
    · simp [h, Ne.symm h]

theorem State.abortMorphs_slots (ns : List SlotId) : (s.abortMorphs ns).slots = s.slots :=
  foldl_keeps State.slots State.removeMorph State.removeMorph_slots ns s

theorem State.abortMorphs_entries (ns : List SlotId) : (s.abortMorphs ns).entries = s.entries :=
  foldl_keeps State.entries State.removeMorph State.removeMorph_entries ns s

theorem State.abortMorphs_voices (ns : List SlotId) : (s.abortMorphs ns).voices = s.voices :=
  foldl_keeps State.voices State.removeMorph State.removeMorph_voices ns s

theorem State.abortMorphs_pool (ns : List SlotId) : (s.abortMorphs ns).pool = s.pool :=
  foldl_keeps State.pool State.removeMorph State.removeMorph_pool ns s

theorem State.abortMorphs_surroundings (ns : List SlotId) : (s.abortMorphs ns).surroundings = s.surroundings :=
  foldl_keeps State.surroundings State.removeMorph State.removeMorph_surroundings ns s

/-- R123: with no recall RUNNING the removal concerns the Morph Table alone. -/
theorem State.removeMorph_of_not_running (h : s.recallRecord.state ≠ .running) : s.removeMorph n = s.setMorph n none := by
  unfold State.removeMorph; split
  · rename_i hnone
    unfold State.setMorph; rw [← hnone, table_set_self]
  · exact if_neg fun hw => h hw.1

theorem State.abortMorphs_of_not_running (h : s.recallRecord.state ≠ .running) (ns : List SlotId) :
    s.abortMorphs ns = { s with morphs := (s.abortMorphs ns).morphs } :=
  foldl_holds (fun u : State => u = { s with morphs := u.morphs }) State.removeMorph
    (fun u m hu => by
      have still : u.recallRecord.state ≠ .running := by rw [hu]; exact h
      rw [u.removeMorph_of_not_running m still, hu]; rfl)
    ns s rfl

end

/-! ### ABORT MORPH (R127) -/

theorem mem_slotsOf {w : SlotSet} {n : SlotId} : n ∈ slotsOf w ↔ slotIn w n = true := by
  unfold slotsOf; simp [mem_allSlots]

/-- R136: what stands in the way of a command on the slots of a set. -/
theorem State.slotsOf_held_iff {s : State} {p : Port} {w : SlotSet} : (slotsOf w).any (s.heldByOther p) = true ↔
    ∃ n : SlotId, slotIn w n = true ∧ s.holds[n].holder = some p.other := by
  unfold State.heldByOther; simp [mem_slotsOf]

/-- R135: the conflict list of the slots of a set. -/
theorem State.conflicts_slotsOf (s : State) (p : Port) (w : SlotSet) : s.conflicts p (slotsOf w)
    = slotSet fun n => slotIn w n && s.holds[n].holder == some p.other := by
  have listed (n : SlotId) : (slotsOf w).contains n = slotIn w n := by
    rw [Bool.eq_iff_iff, List.contains_iff_mem, mem_slotsOf]
  exact congrArg slotSet (funext fun n => congrArg (· && s.heldByOther p n) (listed n))

/-- R137: the renewal of holds concerns the Hold Table alone. -/
theorem State.renewAll_eq (s : State) (p : Port) (ns : List SlotId) : s.renewAll p ns = { s with holds := (s.renewAll p ns).holds } :=
  foldl_holds (fun u : State => u = { s with holds := u.holds }) (fun u n => u.renew p n)
    (fun u n hu => by
      unfold State.renew; split_ifs
      · rw [hu]; rfl
      · exact hu) ns s rfl

/-- Settles O23: the listed slots lose their morph entries when none of them is held by the other port. -/
theorem abortMorphRemoves : Obligations.AbortMorphRemoves := by
  intro s t p tag hi lo htake
  let slots := slotsOf (bits16 hi lo)
  have decides : abortMorphDecision p [hi, lo] t = if slots.any (t.heldByOther p) then t.refuseHeld p slots
      else ((t.abortMorphs slots).renewAll p slots).answerDone (byte1 (slots.filter fun n => t.morphs[n].isSome).length) := rfl
  refine ⟨fun free => ?removed, fun held => ?refused⟩
  case removed =>
    have admitted : ¬ slots.any (t.heldByOther p) = true := fun h => by
      obtain ⟨n, hlisted, hheld⟩ := State.slotsOf_held_iff.mp h
      exact free n hlisted hheld
    let v := t.abortMorphs slots
    have renewed := v.renewAll_eq p slots
    have results := State.results_of_surroundings (t.abortMorphs_surroundings slots) p
    refine ⟨_, taken_ownCommand htake (decides.trans (if_neg admitted)), fun n => ?_, ?_, ?_, ?_, ?_, ?_⟩
    all_goals rw [renewed]
    · rw [State.placeResult_morphs]
      exact (State.abortMorphs_morph n slots t).trans (if_congr mem_slotsOf rfl rfl)
    · exact (State.placeResult_slots _ p _).trans (t.abortMorphs_slots slots)
    · exact (State.placeResult_voices _ p _).trans (t.abortMorphs_voices slots)
    · exact (State.placeResult_pool _ p _).trans (t.abortMorphs_pool slots)
    · exact (State.placeResult_entries _ p _).trans (t.abortMorphs_entries slots)
    · rw [State.placeResult_port_same, ← results]; cases p <;> rfl
  case refused =>
    rw [if_pos (State.slotsOf_held_iff.mpr held), State.refuseHeld, State.conflicts_slotsOf] at decides
    exact taken_ownCommand htake decides

/-! ### QUIET (R129, R159) -/

section
variable (s : State)

theorem State.abortRecall_tables : s.abortRecall.tables = s.tables := by
  unfold State.abortRecall; split_ifs <;> rfl

/-- R129: a RUNNING recall is aborted, and any other record left. -/
theorem State.abortRecall_record : s.abortRecall.recallRecord =
    if s.recallRecord.state = .running then
      { s.recallRecord with state := .aborted, lastAborted := s.recallRecord.scene } else s.recallRecord := by
  unfold State.abortRecall; split_ifs <;> rfl

theorem State.abortRecall_not_running : s.abortRecall.recallRecord.state ≠ .running := by
  rw [State.abortRecall_record]; split_ifs with h
  · exact nofun
  · exact h

/-- R129, R159: what QUIET leaves but for the quiet fade: the recall aborted and the Morph Table empty. -/
def State.quieted : State := { s.abortRecall with morphs := s.abortRecall.removeMorphs.morphs, power := .quiet }

theorem State.enterQuiet_eq : s.enterQuiet = s.quieted.startQuietFade := by
  have removed : s.abortRecall.removeMorphs = { s.abortRecall with morphs := s.abortRecall.removeMorphs.morphs } :=
    State.abortMorphs_of_not_running _ s.abortRecall_not_running allSlots
  unfold State.enterQuiet; rw [removed]; rfl

theorem State.quieted_morph (n : SlotId) : s.quieted.morphs[n] = none :=
  (State.abortMorphs_morph n allSlots s.abortRecall).trans (if_pos (mem_allSlots n))

theorem State.quieted_audio : s.quieted.audio = s.audio := (audio_of_surroundings s.abortRecall_surroundings :)

/-- R69: the start of the quiet fade concerns the quiet gain, its report and the stop alone. -/
theorem State.startQuietFade_frame : s.startQuietFade = { s with
    quietGain := s.startQuietFade.quietGain, quietReport := s.startQuietFade.quietReport, stopped := s.startQuietFade.stopped } := by
  unfold State.startQuietFade; split_ifs <;> rfl

/-- R159: what QUIET leaves alone. -/
theorem State.enterQuiet_frame : s.enterQuiet.slots = s.slots ∧ s.enterQuiet.entries = s.entries ∧ s.enterQuiet.pool = s.pool
    ∧ s.enterQuiet.voices = s.voices ∧ s.enterQuiet.holds = s.holds ∧ s.enterQuiet.tempo = s.tempo
    ∧ s.enterQuiet.modulation = s.modulation ∧ s.enterQuiet.scenes = s.scenes ∧ s.enterQuiet.audio = s.audio
    ∧ ∀ q : Port, (s.enterQuiet.port q).results = (s.port q).results := by
  have tables := s.abortRecall_tables
  have around := s.abortRecall_surroundings
  have results (q : Port) : (s.quieted.startQuietFade.port q).results = (s.abortRecall.port q).results := by
    rw [State.startQuietFade_frame]; cases q <;> rfl
  rw [State.enterQuiet_eq]
  refine ⟨?_, ?_, ?_, ?_, ?_, ?_, ?_, ?_, ?_, fun q => (results q).trans (State.results_of_surroundings around q)⟩
  all_goals rw [State.startQuietFade_frame]
  · exact (congrArg (·.1) tables :)
  · exact (congrArg (·.2.2.1) tables :)
  · exact s.abortRecall_pool
  · exact (congrArg (·.2.2.2.1) tables :)
  · exact (congrArg State.holds around :)
  · exact (tempo_of_surroundings around :)
  · exact (congrArg State.modulation around :)
  · exact (scenes_of_surroundings around :)
  · exact (audio_of_surroundings around :)

/-- R129: the record and the flags of QUIET are those of the recall's abort. -/
theorem State.enterQuiet_record : s.enterQuiet.recallRecord = s.abortRecall.recallRecord := by
  rw [State.enterQuiet_eq, State.startQuietFade_frame]; rfl

theorem State.enterQuiet_flagged {f : Flag} (h : s.abortRecall.flagged f) : s.enterQuiet.flagged f := by
  rw [State.enterQuiet_eq, State.startQuietFade_frame]; exact h

theorem State.enterQuiet_power : s.enterQuiet.power = .quiet := by
  rw [State.enterQuiet_eq, State.startQuietFade_frame]; rfl

theorem State.enterQuiet_morph (n : SlotId) : s.enterQuiet.morphs[n] = none := by
  rw [State.enterQuiet_eq, State.startQuietFade_frame]; exact s.quieted_morph n

/-- R69: with the clock PRESENT the quiet fade starts from the present quiet gain. -/
theorem State.enterQuiet_of_present (h : s.audio.clock = .present) : s.enterQuiet.stopped = s.stopped
    ∧ s.enterQuiet.quietGain = { value := s.quietGain.value, fade := some (newFade s.quietGain.value 0 16) } := by
  have around := s.abortRecall_surroundings
  have gain : s.quieted.quietGain = s.quietGain := (quietGain_of_surroundings around :)
  have faded : s.enterQuiet =
      { s.quieted with quietGain := { s.quietGain with fade := some (newFade s.quietGain.value 0 16) } } := by
    rw [← gain, State.enterQuiet_eq]; exact if_neg (by rw [State.quieted_audio, h]; decide)
  rw [faded]; exact ⟨(congrArg State.stopped around :), rfl⟩

/-- R72: with the clock LOST it ends at once. -/
theorem State.enterQuiet_of_lost (h : s.audio.clock = .lost) : s.enterQuiet = s.quieted.endQuietFade := by
  rw [State.enterQuiet_eq]; exact if_pos (by rw [State.quieted_audio, h])

end

/-- Settles O47: the recall is aborted, the Morph Table emptied, and the quiet fade started or, with the clock LOST, ended. -/
theorem quietDecisionHolds : Obligations.QuietDecision := by
  intro s t p tag htake
  refine ⟨fun hready => ?ready, fun hquiet => taken_ownCommand htake (if_pos hquiet)⟩
  have awake : t.power ≠ .quiet := by rw [hready]; decide
  have decides : quietDecision [] t = t.enterQuiet.answerDone := if_neg awake
  obtain ⟨slots, entries, pool, voices, holds, tempo, modulation, scenes, audio, results⟩ := t.enterQuiet_frame
  have record := t.enterQuiet_record.trans t.abortRecall_record
  refine ⟨_, taken_ownCommand htake decides, ?_⟩
  simp only [State.placeResult_power, State.placeResult_morphs, State.placeResult_slots, State.placeResult_entries,
    State.placeResult_pool, State.placeResult_voices, State.placeResult_holds, State.placeResult_tempo, State.placeResult_modulation,
    State.placeResult_scenes, State.placeResult_audio, State.placeResult_recallRecord, State.placeResult_stopped,
    State.placeResult_quietGain, State.placeResult_quietReport, State.placeResult_port_same]
  refine ⟨t.enterQuiet_power, t.enterQuiet_morph, slots, entries, pool, voices, holds, tempo, modulation, scenes, audio,
    fun hrunning => ?aborted, fun hidle => record.trans (if_neg hidle), State.enterQuiet_of_present t, fun hlost => ?silent, ?answer⟩
  case aborted =>
    have flagged := t.enterQuiet_flagged (State.abortRecall_flagged hrunning)
    rw [record, if_pos hrunning]
    exact ⟨rfl, rfl, State.placeResult_flagged _ p _ flagged⟩
  case silent => rw [State.enterQuiet_of_lost t hlost]; exact ⟨rfl, rfl, rfl⟩
  case answer => rw [results p]

end Sys2Proof.Machine

namespace Sys2Proof.Machine

/-! ### The Hold Table and the lease lengths kept in range (R130) -/

/-- What the range of the Hold Table and of the lease lengths is said of. -/
def State.holdsView (s : State) : Vector Hold 16 × Nat × Nat := (s.holds, s.portA.lease, s.portB.lease)

/-- From the first state to the second the Hold Table and the lease lengths stay in range. -/
def State.KeepsHolds (s t : State) : Prop := s.holdsOk → t.holdsOk

section
variable {s t u : State}

theorem holdsView_of_surroundings (h : t.surroundings = s.surroundings) : t.holdsView = s.holdsView :=
  (congrArg State.holdsView h : t.surroundings.holdsView = s.surroundings.holdsView)
theorem holdsView_of_outsideTempo (h : t.outsideTempo = s.outsideTempo) : t.holdsView = s.holdsView :=
  (congrArg State.holdsView h : t.outsideTempo.holdsView = s.outsideTempo.holdsView)
theorem holdsView_of_outsideScenes (h : t.outsideScenes = s.outsideScenes) : t.holdsView = s.holdsView :=
  (congrArg State.holdsView h : t.outsideScenes.holdsView = s.outsideScenes.holdsView)

theorem State.KeepsHolds.of_view (h : t.holdsView = s.holdsView) : s.KeepsHolds t := by
  have holds : t.holds = s.holds := congrArg (·.1) h
  have lease (p : Port) : (t.port p).lease = (s.port p).lease := by
    cases p with
    | a => exact congrArg (·.2.1) h
    | b => exact congrArg (·.2.2) h
  unfold State.KeepsHolds State.holdsOk
  simp only [holds, lease, imp_self]

theorem State.KeepsHolds.refl (s : State) : s.KeepsHolds s := id

theorem State.KeepsHolds.trans (h : s.KeepsHolds t) (k : t.KeepsHolds u) : s.KeepsHolds u := k ∘ h

/-- A change outside the view before an operation. -/
theorem State.KeepsHolds.after (k : t.KeepsHolds u) (h : t.holdsView = s.holdsView) : s.KeepsHolds u := (of_view h).trans k

/-- A change outside the view after an operation. -/
theorem State.KeepsHolds.before (h : s.KeepsHolds t) (k : u.holdsView = t.holdsView) : s.KeepsHolds u := h.trans (of_view k)

theorem State.KeepsHolds.foldl {α : Type} {f : State → α → State} (h : ∀ (t : State) (a : α), t.KeepsHolds (f t a)) (ls : List α)
    (s : State) : s.KeepsHolds (ls.foldl f s) :=
  foldl_holds (fun t => s.KeepsHolds t) f (fun t a ht => ht.trans (h t a)) ls s (.refl s)

theorem State.KeepsHolds.of_surroundings (h : t.surroundings = s.surroundings) : s.KeepsHolds t := .of_view (holdsView_of_surroundings h)
theorem State.KeepsHolds.of_outsideTempo (h : t.outsideTempo = s.outsideTempo) : s.KeepsHolds t := .of_view (holdsView_of_outsideTempo h)
theorem State.KeepsHolds.of_outsideScenes (h : t.outsideScenes = s.outsideScenes) : s.KeepsHolds t :=
  .of_view (holdsView_of_outsideScenes h)

end

/-! #### Ports -/

section
variable (s : State) (p : Port)

/-- A port's record replaced with the lease length as it was. -/
theorem State.setPort_holdsView {v : PortState} (h : v.lease = (s.port p).lease) : (s.setPort p v).holdsView = s.holdsView := by
  cases p with
  | a => exact congrArg (fun k => (s.holds, k, s.portB.lease)) h
  | b => exact congrArg (fun k => (s.holds, s.portA.lease, k)) h

@[simp] theorem State.raise_holdsView (f : Flag) : (s.raise p f).holdsView = s.holdsView := s.setPort_holdsView p rfl
@[simp] theorem State.placeResult_holdsView (r : Result) : (s.placeResult p r).holdsView = s.holdsView := s.setPort_holdsView p rfl

/-- A port's record replaced with a lease length in range. -/
theorem State.setPort_keepsHolds {v : PortState} (h : 4 ≤ v.lease ∧ v.lease ≤ 240) : s.KeepsHolds (s.setPort p v) := by
  rintro ⟨holds, leases⟩
  refine ⟨fun n => by rw [State.setPort_holds]; exact holds n, fun q => ?_⟩
  rw [State.setPort_port]; split_ifs
  · exact h
  · exact leases q

theorem PortState.takeBytes_lease (v : PortState) (bytes : List Byte) : (v.takeBytes bytes).lease = v.lease :=
  foldl_keeps PortState.lease PortState.takeByte (fun v b => by unfold PortState.takeByte; split_ifs <;> rfl) bytes v

theorem PortState.endMessage_lease (v : PortState) : v.endMessage.lease = v.lease := by
  unfold PortState.endMessage; split <;> rfl

theorem PortState.endTransaction_lease (v : PortState) : v.endTransaction.lease = v.lease := by
  unfold PortState.endTransaction; split_ifs
  · exact v.endMessage_lease
  · rfl

theorem PortState.sendBytes_lease (v : PortState) (acks : List Bool) : (v.sendBytes acks).lease = v.lease :=
  (congrArg PortState.lease (v.sendBytes_frame acks) :)

theorem State.judgeAddress_holdsView (a : BitVec 7) (d : Direction) : (s.judgeAddress p a d).holdsView = s.holdsView := by
  unfold State.judgeAddress; cases d with
  | write =>
    dsimp only; split_ifs
    · exact s.setPort_holdsView p rfl
    · exact s.setPort_holdsView p rfl
    · exact s.setPort_holdsView p rfl
    · exact (State.raise_holdsView _ p _).trans (s.setPort_holdsView p rfl)
    · exact s.setPort_holdsView p rfl
  | read =>
    dsimp only; split_ifs
    · exact s.setPort_holdsView p rfl
    · exact s.setPort_holdsView p rfl

end

/-! #### Hold entries -/

section
variable (s : State) (p : Port) (n : SlotId)

theorem Hold.none_ok : Hold.none.ok := ⟨fun _ => rfl, fun h => absurd rfl h, Nat.zero_le _⟩

/-- R130, R132, R137: an entry taken or renewed at a lease length in range. -/
theorem Hold.ok_of_lease {k : Nat} (h : 4 ≤ k ∧ k ≤ 240) : Hold.ok { holder := some p, count := k } :=
  ⟨nofun, fun _ => Nat.le_trans (by decide) h.1, h.2⟩

/-- R131: an entry with more than one unit left loses one. -/
theorem Hold.ok_of_tick {h : Hold} (hok : h.ok) (hheld : h.holder ≠ Option.none) (hcount : ¬ h.count ≤ 1) :
    Hold.ok { h with count := h.count - 1 } := by
  obtain ⟨_, _, below⟩ := hok
  refine ⟨fun e => absurd e hheld, fun _ => ?_, ?_⟩ <;> dsimp only <;> omega

theorem State.setHold_keepsHolds {v : Hold} (h : s.holdsOk → v.ok) : s.KeepsHolds (s.setHold n v) := by
  intro hs
  refine ⟨fun m => ?_, hs.2⟩
  rw [State.setHold_holds, table_get_set]; split_ifs
  · exact h hs
  · exact hs.1 m

theorem State.takeHold_keepsHolds : s.KeepsHolds (s.setHold n { holder := some p, count := (s.port p).lease }) :=
  s.setHold_keepsHolds n fun hs => Hold.ok_of_lease p (hs.2 p)

theorem State.releaseHoldOf_keepsHolds : s.KeepsHolds (s.releaseHoldOf n) := s.setHold_keepsHolds n fun _ => Hold.none_ok

theorem State.renew_keepsHolds : s.KeepsHolds (s.renew p n) := by
  unfold State.renew; split_ifs
  · exact s.takeHold_keepsHolds p n
  · exact .refl s

theorem State.expireHold_keepsHolds : s.KeepsHolds (s.expireHold n) := by
  unfold State.expireHold; split
  · exact (s.releaseHoldOf_keepsHolds n).before (State.raise_holdsView _ _ _)
  · exact .refl s

theorem State.tickHold_keepsHolds : s.KeepsHolds (s.tickHold n) := by
  unfold State.tickHold; split_ifs with hfree hlast
  · exact .refl s
  · exact s.expireHold_keepsHolds n
  · exact s.setHold_keepsHolds n fun hs => Hold.ok_of_tick (hs.1 n) hfree hlast

theorem State.releaseHolds_keepsHolds (ns : List SlotId) : s.KeepsHolds (s.releaseHolds p ns) :=
  .foldl (fun t n => by split_ifs; exacts [t.releaseHoldOf_keepsHolds n, .refl t]) ns s

theorem State.takeHolds_keepsHolds (ns : List SlotId) : s.KeepsHolds (s.takeHolds p ns) :=
  .foldl (fun t n => t.takeHold_keepsHolds p n) ns s

theorem State.renewAll_keepsHolds (ns : List SlotId) : s.KeepsHolds (s.renewAll p ns) :=
  .foldl (fun t n => t.renew_keepsHolds p n) ns s

end

/-! #### Decisions that name slots -/

section
variable {s : State} (p : Port)

theorem State.KeepsHolds.renewed {v : Verdict} (h : s.KeepsHolds v.state) (n : SlotId) : s.KeepsHolds (v.renewed p n).state := by
  unfold Verdict.renewed; split_ifs
  · exact h.trans (State.renew_keepsHolds _ p n)
  · exact h

variable (s) (b : List Byte)

theorem assignDecision_keepsHolds : s.KeepsHolds (assignDecision p b s).state := by
  unfold assignDecision; split
  · split_ifs
    · exact .refl s
    · split
      · split_ifs
        · exact .refl s
        · exact (State.KeepsHolds.of_surroundings (s.assignByState_losesMorphs _ _).surroundings).renewed p _
      · exact .refl s
  · exact .refl s

theorem clearDecision_keepsHolds : s.KeepsHolds (clearDecision p b s).state := by
  unfold clearDecision; split
  · split_ifs
    · exact .refl s
    · split
      · split_ifs
        · exact .refl s
        · exact (State.KeepsHolds.of_surroundings (s.clearByState_losesMorphs _).surroundings).renewed p _
      · exact .refl s
  · exact .refl s

theorem State.paramsByState_surroundings (n : SlotId) (prs : List (ParamIx × Int)) :
    (s.paramsByState n prs).state.surroundings = s.surroundings := by
  unfold State.paramsByState; split
  · rfl
  · rfl
  · rfl
  · split_ifs
    · exact s.writeParams_surroundings n _ prs
    · rfl

theorem paramsDecision_keepsHolds : s.KeepsHolds (paramsDecision p b s).state := by
  unfold paramsDecision; split
  · split
    · split_ifs
      · exact .refl s
      · exact (State.KeepsHolds.of_surroundings (s.paramsByState_surroundings _ _)).renewed p _
    · exact .refl s
  · exact .refl s

theorem muteChecks_keepsHolds {f : State → SlotId → State} (hf : ∀ (t : State) n, (f t n).surroundings = t.surroundings) :
    s.KeepsHolds (muteChecks p b f s).state := by
  unfold muteChecks; split
  · split
    · split_ifs
      · exact .refl s
      · exact State.KeepsHolds.renewed p (.of_surroundings (hf s _)) _
      · exact .refl s
    · exact .refl s
  · exact .refl s

theorem routeDecision_keepsHolds : s.KeepsHolds (routeDecision p b s).state := by
  unfold routeDecision; split
  · split
    · split_ifs
      · exact .refl s
      · exact .refl s
      · exact State.KeepsHolds.renewed p (.of_surroundings (s.routeSlot_surroundings _ _ _)) _
    · exact .refl s
  · exact .refl s

theorem abortMorphDecision_keepsHolds : s.KeepsHolds (abortMorphDecision p b s).state := by
  unfold abortMorphDecision; split
  · dsimp only; split_ifs
    · exact .refl s
    · exact (State.KeepsHolds.of_surroundings (s.abortMorphs_surroundings _)).trans (State.renewAll_keepsHolds _ p _)
  · exact .refl s

/-- R117, R139: an entry of a recall. -/
theorem State.recallEntry_keepsHolds (g : Bool) (k : Nat) (e : SceneEntry) : s.KeepsHolds (State.recallEntry p g k s e) := by
  have entry : s.KeepsHolds (s.recallByState e k).1 := .of_surroundings (s.recallByState_surroundings e k)
  have renewed := entry.trans (State.renew_keepsHolds _ p e.slot)
  unfold State.recallEntry; dsimp only; split_ifs
  · exact .of_view rfl
  · exact entry.before rfl
  · exact renewed.before rfl
  · exact entry.before rfl
  · exact renewed.before rfl

theorem State.carryOutRecall_keepsHolds (g : Bool) (k : SceneId) (time : Option Nat) :
    s.KeepsHolds (s.carryOutRecall p g k time).state := by
  have opened : s.KeepsHolds (s.abortRecall.openRecall k (recallOrigin p g)) := .of_surroundings (by simp)
  have offered := opened.trans (.of_outsideTempo (State.offerTempo_outsideTempo _ s.scenes[k].tempo))
  have settled := offered.trans
    (.foldl (fun t e => t.recallEntry_keepsHolds p g (s.rate.blocks (time.getD s.scenes[k].morphTime)) e) s.scenes[k].entries _)
  unfold State.carryOutRecall; dsimp only; split_ifs
  · exact settled.before rfl
  · exact settled.before rfl

theorem recallDecision_keepsHolds (g : Bool) : s.KeepsHolds (recallDecision p g b s).state := by
  unfold recallDecision; split
  · split_ifs
    · exact .refl s
    · split
      · split
        · exact .refl s
        · split_ifs
          · exact .of_outsideScenes (s.verifyScene_outsideScenes _)
          · exact s.carryOutRecall_keepsHolds p g _ _
        · exact .refl s
      · exact .refl s
  · exact .refl s

/-! #### The hold commands and PORT RESET -/

theorem takeHoldDecision_keepsHolds : s.KeepsHolds (takeHoldDecision p b s).state := by
  unfold takeHoldDecision; split
  · dsimp only; split_ifs
    · exact .refl s
    · exact s.takeHolds_keepsHolds p _
  · exact .refl s

theorem releaseHoldDecision_keepsHolds : s.KeepsHolds (releaseHoldDecision p b s).state := by
  unfold releaseHoldDecision; split
  · exact s.releaseHolds_keepsHolds p _
  · exact .refl s

/-- A field is taken within its bounds alone. -/
theorem within_bounds {lo hi v n : Nat} (h : within lo hi v = some n) : lo ≤ n ∧ n ≤ hi := by
  unfold within at h; split_ifs at h with hv
  cases h; exact hv

theorem setLeaseDecision_keepsHolds : s.KeepsHolds (setLeaseDecision p b s).state := by
  unfold setLeaseDecision; split
  · split
    · exact s.setPort_keepsHolds p (within_bounds (by assumption))
    · exact .refl s
  · exact .refl s

theorem portResetDecision_keepsHolds : s.KeepsHolds (portResetDecision p b s).state := by
  unfold portResetDecision; split
  · exact (s.releaseHolds_keepsHolds p allSlots).trans (State.setPort_keepsHolds _ p (by decide : 4 ≤ 40 ∧ 40 ≤ 240))
  · exact .refl s

/-! #### Decisions that leave the view as it is -/

theorem readSlotDecision_holdsView : (readSlotDecision p b s).state.holdsView = s.holdsView := by
  unfold readSlotDecision State.clearClip; split
  · split
    · dsimp only; split_ifs <;> rfl
    · rfl
  · rfl

theorem readPoolDecision_holdsView : (readPoolDecision b s).state.holdsView = s.holdsView := by
  unfold readPoolDecision; split <;> rfl

theorem storeSceneDecision_holdsView : (storeSceneDecision b s).state.holdsView = s.holdsView := by
  unfold storeSceneDecision; split
  · split
    · dsimp only; split_ifs <;> rfl
    · rfl
  · rfl

theorem State.verifyScene_holdsView (k : SceneId) : (s.verifyScene k).holdsView = s.holdsView :=
  holdsView_of_outsideScenes (s.verifyScene_outsideScenes k)

theorem writeSceneEntryDecision_holdsView : (writeSceneEntryDecision b s).state.holdsView = s.holdsView := by
  unfold writeSceneEntryDecision; split
  · split_ifs
    · split
      · split
        · rfl
        · split_ifs
          · exact s.verifyScene_holdsView _
          · rfl
        · rfl
      · rfl
    · rfl
  · rfl

theorem eraseSceneDecision_holdsView : (eraseSceneDecision b s).state.holdsView = s.holdsView := by
  unfold eraseSceneDecision; split
  · split <;> rfl
  · rfl

theorem readSceneDecision_holdsView : (readSceneDecision b s).state.holdsView = s.holdsView := by
  unfold readSceneDecision; split
  · split
    · split
      · rfl
      · split_ifs
        · exact s.verifyScene_holdsView _
        · rfl
      · rfl
    · rfl
  · rfl

theorem readRecallDecision_holdsView : (readRecallDecision b s).state.holdsView = s.holdsView := by
  unfold readRecallDecision; split <;> rfl

theorem setTempoDecision_holdsView : (setTempoDecision b s).state.holdsView = s.holdsView := by
  unfold setTempoDecision; split
  · split
    · exact holdsView_of_outsideTempo (s.writeControl_outsideTempo _)
    · rfl
  · rfl

theorem setTempoSourceDecision_holdsView : (setTempoSourceDecision b s).state.holdsView = s.holdsView := by
  unfold setTempoSourceDecision; split
  · split
    · exact holdsView_of_outsideTempo ((State.reevaluate_outsideTempo _).trans rfl)
    · rfl
  · rfl

theorem tapDecision_holdsView (time : Nat) : (tapDecision b time s).state.holdsView = s.holdsView := by
  unfold tapDecision; split
  · exact holdsView_of_outsideTempo (s.enterTap_outsideTempo time)
  · rfl

theorem readTempoDecision_holdsView : (readTempoDecision b s).state.holdsView = s.holdsView := by
  unfold readTempoDecision; split <;> rfl

theorem setTapOptionsDecision_holdsView : (setTapOptionsDecision b s).state.holdsView = s.holdsView := by
  unfold setTapOptionsDecision; split
  · split <;> rfl
  · rfl

theorem setLfoDecision_holdsView : (setLfoDecision p b s).state.holdsView = s.holdsView := by
  unfold setLfoDecision; split
  · split
    · split_ifs <;> rfl
    · rfl
  · rfl

theorem seedRandomDecision_holdsView : (seedRandomDecision b s).state.holdsView = s.holdsView := by
  unfold seedRandomDecision; split
  · split_ifs <;> rfl
  · rfl

theorem setRandomModeDecision_holdsView : (setRandomModeDecision b s).state.holdsView = s.holdsView := by
  unfold setRandomModeDecision; split
  · split <;> rfl
  · rfl

theorem readEventsDecision_holdsView : (readEventsDecision p b s).state.holdsView = s.holdsView := by
  unfold readEventsDecision; split
  · exact s.setPort_holdsView p rfl
  · rfl

theorem setEventMaskDecision_holdsView : (setEventMaskDecision p b s).state.holdsView = s.holdsView := by
  unfold setEventMaskDecision; split
  · split
    · exact s.setPort_holdsView p rfl
    · rfl
  · rfl

theorem quietDecision_holdsView : (quietDecision b s).state.holdsView = s.holdsView := by
  unfold quietDecision; split
  · split_ifs
    · rfl
    · rw [State.enterQuiet_eq, State.startQuietFade_frame]
      exact (holdsView_of_surroundings s.abortRecall_surroundings :)
  · rfl

theorem State.wakeUp_holdsView : s.wakeUp.holdsView = s.holdsView := by
  have swept : s.storeSweep.holdsView = s.holdsView := holdsView_of_outsideScenes s.storeSweep_outsideScenes
  have ended : s.storeSweep.endQuietPeriod.holdsView = s.storeSweep.holdsView :=
    (holdsView_of_surroundings (State.forceFadeEnds_surroundings _) :)
  have rezeroed (t : State) : t.rezeroSlots.holdsView = t.holdsView :=
    foldl_keeps State.holdsView State.rezeroSlot (fun u n => holdsView_of_surroundings (u.rezeroSlot_surroundings n)) allSlots t
  have restarted (t : State) : t.restartSound.holdsView = t.holdsView := (congrArg State.holdsView t.restartSound_spec.1).trans rfl
  exact (restarted _).trans ((rezeroed _).trans (ended.trans swept))

theorem wakeDecision_holdsView : (wakeDecision b s).state.holdsView = s.holdsView := by
  unfold wakeDecision; split
  · split_ifs
    · exact s.wakeUp_holdsView
    · rfl
  · rfl

end

/-! #### The rows -/

section
variable {s t : State}

theorem State.takeCommand_holdsView {p : Port} {c : Command} (h : s.takeCommand p c = some t) : t.holdsView = s.holdsView := by
  rcases State.takeCommand_spec h with ⟨_, _, ⟨rfl, _⟩ | ⟨rfl, _⟩⟩
  · exact s.setPort_holdsView p rfl
  · rfl

/-- A decision that keeps the Hold Table in range makes its row keep it. -/
theorem runCommand_keepsHolds {p : Port} {c : Command} {d : State → Verdict} (hd : ∀ u : State, u.KeepsHolds (d u).state)
    (he : runCommand p c d s = .next t) : s.KeepsHolds t := by
  rcases runCommand_spec he with ⟨_, rfl⟩ | ⟨u, hu, rfl⟩
  · exact .refl _
  · exact .before (.after (hd u) (State.takeCommand_holdsView hu)) (State.placeResult_holdsView _ p _)

/-- The same for a decision that leaves the view as it is. -/
theorem runCommand_keepsHolds_of_view {p : Port} {c : Command} {d : State → Verdict}
    (hd : ∀ u, (d u).state.holdsView = u.holdsView) (he : runCommand p c d s = .next t) : s.KeepsHolds t :=
  runCommand_keepsHolds (fun u => .of_view (hd u)) he

/-- R130, R177: at the entry to STARTING no slot is held and both lease lengths are 40. -/
theorem State.enterStarting_keepsHolds (s : State) (k : StartKind) (v : Vector Scene 32) : s.KeepsHolds (s.enterStarting k v) := by
  refine fun _ => ⟨fun n => ?_, fun q => ?_⟩
  · have free : (s.enterStarting k v).holds[n] = Hold.none := Vector.getElem_replicate ..
    rw [free]; exact Hold.none_ok
  · have default : ((s.enterStarting k v).port q).lease = 40 := by cases q <;> rfl
    rw [default]; decide

theorem execRestart_keepsHolds {p : Port} {tag : Byte} {b : List Byte} (he : execRestart p tag b s = .next t) :
    s.KeepsHolds t := by
  unfold execRestart at he; split at he
  · cases he; exact .refl s
  · rename_i u hu
    have taken := State.takeCommand_holdsView hu
    split_ifs at he <;> cases he
    · exact .after (u.enterStarting_keepsHolds _ _) taken
    · exact .of_view ((State.placeResult_holdsView _ p _).trans taken)

theorem execI2cAddress_holdsView {p : Port} {a : BitVec 7} {d : Direction} (he : execI2cAddress p a d s = .next t) :
    t.holdsView = s.holdsView := by
  unfold execI2cAddress at he; split_ifs at he <;> cases he
  · exact s.setPort_holdsView p rfl
  · exact (State.judgeAddress_holdsView _ p a d).trans (s.setPort_holdsView p (s.port p).endTransaction_lease)

theorem execMessageEnd_holdsView {p : Port} {bs : List Byte} (he : execMessageEnd p bs s = .next t) : t.holdsView = s.holdsView := by
  unfold execMessageEnd at he; split_ifs at he <;> cases he
  · exact s.setPort_holdsView p ((PortState.endMessage_lease _).trans ((s.port p).takeBytes_lease bs))
  · rfl

theorem execResultSent_holdsView {r : LastByte} (he : execResultSent r s = .next t) : t.holdsView = s.holdsView := by
  unfold execResultSent at he; split at he <;> cases he
  · exact s.setPort_holdsView r.port rfl
  · rfl

theorem execReadEnd_holdsView {r : ReadClocks} (he : execReadEnd r s = .next t) : t.holdsView = s.holdsView := by
  unfold execReadEnd at he; split_ifs at he <;> cases he
  · exact s.setPort_holdsView r.port ((s.port r.port).sendBytes_lease r.acks)
  · rfl

theorem execBusStop_holdsView {r : ReadClocks} (he : execBusStop r s = .next t) : t.holdsView = s.holdsView := by
  cases he
  exact s.setPort_holdsView r.port ((PortState.endTransaction_lease _).trans ((s.port r.port).sendBytes_lease r.acks))

theorem execBusTimeout_holdsView {p : Port} {bs : List Byte} (he : execBusTimeout p bs s = .next t) : t.holdsView = s.holdsView := by
  unfold execBusTimeout at he; dsimp only at he; split_ifs at he <;> cases he
  · rfl
  · exact s.setPort_holdsView p ((s.port p).takeBytes_lease bs)
  · exact s.setPort_holdsView p rfl

theorem State.blockEnd_holdsView (s : State) (sends : List (Vector Sample 8)) : (s.blockEnd sends).holdsView = s.holdsView := by
  have handed (t : State) : t.handOff.holdsView = t.holdsView := (holdsView_of_surroundings t.handOff_surroundings :)
  have processed (t : State) : (t.soundingBlockEnd sends).holdsView = t.handOff.holdsView :=
    ((t.soundingBlockEnd_keeps sends State.holdsView (fun _ => rfl) (fun _ => rfl) (fun _ => rfl)).trans
      (State.finishFades_keeps _ State.holdsView (fun _ _ _ => rfl) (fun _ _ => rfl) (fun _ _ => rfl))).trans
      (State.takeUp_keeps _ State.holdsView (fun _ _ _ => rfl) (fun _ _ _ => rfl) (fun _ => rfl))
  unfold State.blockEnd; dsimp only; split_ifs
  · rfl
  · exact (processed _).trans (handed _)

theorem execFrameSync_holdsView (he : execFrameSync s = .next t) : t.holdsView = s.holdsView := by
  unfold execFrameSync at he; split_ifs at he
  · cases he; rfl
  · split at he <;> cases he <;> rfl

theorem execFrameTaken_holdsView {w : Vector AudioWord 16} (he : execFrameTaken w s = .next t) : t.holdsView = s.holdsView := by
  unfold execFrameTaken at he; dsimp only at he; split_ifs at he <;> cases he
  · rfl
  · exact State.blockEnd_holdsView _ _
  · rfl

theorem execClockLost_holdsView (he : execClockLost s = .next t) : t.holdsView = s.holdsView := by
  have drop : s.dropModulation.holdsView = s.holdsView := foldl_keeps State.holdsView State.dropModulationOf (fun _ _ => rfl) _ _
  unfold execClockLost at he; dsimp only at he; split_ifs at he <;> cases he
  · exact drop
  · exact drop
  · rfl

theorem execFadeEnd_holdsView {n : SlotId} (he : execFadeEnd n s = .next t) : t.holdsView = s.holdsView := by
  unfold execFadeEnd at he; dsimp only at he; split_ifs at he <;> cases he
  · exact (holdsView_of_surroundings (State.fadeEnded_surroundings _ n) :)
  · rfl
  · rfl

theorem execRegionLive_holdsView {e : EntryId} (he : execRegionLive e s = .next t) : t.holdsView = s.holdsView := by
  have acted (q : Pool) (n : SlotId) (l : LineId) (ln : Line) : ((s.setPool q).takeLiveReport n l ln).holdsView = s.holdsView :=
    (holdsView_of_surroundings (State.takeLiveReport_surroundings _ n l ln) :)
  unfold execRegionLive at he; dsimp only at he
  split_ifs at he
  · split at he
    · split at he
      · cases he; split_ifs
        · exact acted _ _ _ _
        · rfl
      · cases he; rfl
    · cases he; rfl
  · cases he; rfl

theorem execExtensionComplete_holdsView (he : execExtensionComplete s = .next t) : t.holdsView = s.holdsView := by
  unfold execExtensionComplete at he; split at he <;> cases he
  · unfold State.extensionEnded; split
    · exact (holdsView_of_surroundings (State.growthEnd_surroundings _ _ _) :)
    · rfl
  · rfl

theorem execSlotPropagation_holdsView (he : execSlotPropagation s = .next t) : t.holdsView = s.holdsView := by
  unfold execSlotPropagation at he; split at he <;> cases he
  · exact foldl_keeps State.holdsView _ (fun t n => holdsView_of_surroundings (t.propagateTo_surroundings n _)) _ _
  · rfl

theorem execTapRelease_holdsView {time : Nat} (he : execTapRelease time s = .next t) : t.holdsView = s.holdsView := by
  unfold execTapRelease at he; dsimp only at he; split_ifs at he <;> cases he
  · rfl
  · exact (holdsView_of_outsideTempo (State.enterTap_outsideTempo _ _) :)
  · rfl
  · rfl

theorem State.linkBytes_keepsHolds (s : State) (bytes : List LinkByte) (time : Nat) : s.KeepsHolds (s.linkBytes bytes time) :=
  .of_outsideTempo (s.linkBytes_outsideTempo bytes time)

theorem State.fadeSupply_holdsView (s : State) (g : Rat) (k : Nat) : (s.fadeSupply g k).holdsView = s.holdsView := by
  unfold State.fadeSupply; split_ifs <;> rfl

/-- R178, R181: the start-up, whatever the pins and the supply. -/
theorem State.startUp_keepsHolds (s : State) (pins : StartPins) (mv : Nat) :
    s.KeepsHolds ((s.sweptUp.pinsSampled pins).firstJudgement mv) := by
  have swept : s.sweptUp.holdsView = s.holdsView := by
    unfold State.sweptUp; dsimp only; split_ifs
    · exact (holdsView_of_outsideScenes (State.storeSweep_outsideScenes _) :)
    · rfl
  have sampled : (s.sweptUp.pinsSampled pins).holdsView = s.holdsView := swept
  unfold State.firstJudgement; split_ifs
  · exact .after (State.enterStarting_keepsHolds _ _ _) sampled
  · exact .of_view ((State.fadeSupply_holdsView _ _ _).trans sampled)
  · exact .of_view sampled

end

/-- R130: every command keeps the Hold Table and the lease lengths in range. -/
theorem exec_keepsHolds {i : Instr} {s t : State} (he : exec i s = .next t) : s.KeepsHolds t := by
  cases i <;> unfold exec at he <;> dsimp only at he
  case assign p tag b => exact runCommand_keepsHolds (assignDecision_keepsHolds · p b) he
  case clear p tag b => exact runCommand_keepsHolds (clearDecision_keepsHolds · p b) he
  case params p tag b => exact runCommand_keepsHolds (paramsDecision_keepsHolds · p b) he
  case mute p tag b => exact runCommand_keepsHolds (fun u => muteChecks_keepsHolds u p b State.muteSlot_surroundings) he
  case unmute p tag b => exact runCommand_keepsHolds (fun u => muteChecks_keepsHolds u p b State.unmuteSlot_surroundings) he
  case route p tag b => exact runCommand_keepsHolds (routeDecision_keepsHolds · p b) he
  case readSlot p tag b => exact runCommand_keepsHolds_of_view (readSlotDecision_holdsView · p b) he
  case readPool p tag b => exact runCommand_keepsHolds_of_view (readPoolDecision_holdsView · b) he
  case takeHold p tag b => exact runCommand_keepsHolds (takeHoldDecision_keepsHolds · p b) he
  case releaseHold p tag b => exact runCommand_keepsHolds (releaseHoldDecision_keepsHolds · p b) he
  case setLease p tag b => exact runCommand_keepsHolds (setLeaseDecision_keepsHolds · p b) he
  case storeScene p tag b => exact runCommand_keepsHolds_of_view (storeSceneDecision_holdsView · b) he
  case writeSceneEntry p tag b => exact runCommand_keepsHolds_of_view (writeSceneEntryDecision_holdsView · b) he
  case eraseScene p tag b => exact runCommand_keepsHolds_of_view (eraseSceneDecision_holdsView · b) he
  case readScene p tag b => exact runCommand_keepsHolds_of_view (readSceneDecision_holdsView · b) he
  case recallScene p tag g b => exact runCommand_keepsHolds (recallDecision_keepsHolds · p b g) he
  case abortMorph p tag b => exact runCommand_keepsHolds (abortMorphDecision_keepsHolds · p b) he
  case readRecall p tag b => exact runCommand_keepsHolds_of_view (readRecallDecision_holdsView · b) he
  case setTempo p tag b => exact runCommand_keepsHolds_of_view (setTempoDecision_holdsView · b) he
  case setTempoSource p tag b => exact runCommand_keepsHolds_of_view (setTempoSourceDecision_holdsView · b) he
  case tap p tag g b v => exact runCommand_keepsHolds_of_view (tapDecision_holdsView · b v) he
  case readTempo p tag b => exact runCommand_keepsHolds_of_view (readTempoDecision_holdsView · b) he
  case setTapOptions p tag b => exact runCommand_keepsHolds_of_view (setTapOptionsDecision_holdsView · b) he
  case setLfo p tag b => exact runCommand_keepsHolds_of_view (setLfoDecision_holdsView · p b) he
  case seedRandom p tag b => exact runCommand_keepsHolds_of_view (seedRandomDecision_holdsView · b) he
  case setRandomMode p tag b => exact runCommand_keepsHolds_of_view (setRandomModeDecision_holdsView · b) he
  case readEvents p tag b => exact runCommand_keepsHolds_of_view (readEventsDecision_holdsView · p b) he
  case setEventMask p tag b => exact runCommand_keepsHolds_of_view (setEventMaskDecision_holdsView · p b) he
  case portReset p tag b => exact runCommand_keepsHolds (portResetDecision_keepsHolds · p b) he
  case quiet p tag b => exact runCommand_keepsHolds_of_view (quietDecision_holdsView · b) he
  case wake p tag b => exact runCommand_keepsHolds_of_view (wakeDecision_holdsView · b) he
  case restart p tag b => exact execRestart_keepsHolds he
  case unknownCommand p tag c b =>
    unfold execUnknownCommand at he; split_ifs at he
    · cases he; exact .refl s
    · exact runCommand_keepsHolds .refl he
  case i2cAddress p a d => exact .of_view (execI2cAddress_holdsView he)
  case messageEnd p bs => exact .of_view (execMessageEnd_holdsView he)
  case resultSent r => exact .of_view (execResultSent_holdsView he)
  case readEnd r => exact .of_view (execReadEnd_holdsView he)
  case busTimeout p bs => exact .of_view (execBusTimeout_holdsView he)
  case busStop r => exact .of_view (execBusStop_holdsView he)
  case frameSync => exact .of_view (execFrameSync_holdsView he)
  case frameTaken w => exact .of_view (execFrameTaken_holdsView he)
  case clockLost => exact .of_view (execClockLost_holdsView he)
  case fadeEnd n => exact .of_view (execFadeEnd_holdsView he)
  case crossfadeEnd n l =>
    unfold execCrossfadeEnd at he; split_ifs at he <;> cases he
    · exact .of_surroundings (State.crossfadeEnded_surroundings _ n l :)
    · exact .refl s
  case quietFadeEnd =>
    unfold execQuietFadeEnd at he; split_ifs at he <;> cases he
    · exact .of_view (holdsView_of_surroundings (State.forceFadeEnds_surroundings _) :)
    · exact .refl s
  case regionJobComplete => cases he; exact .of_view rfl
  case regionLive e => exact .of_view (execRegionLive_holdsView he)
  case extensionComplete => exact .of_view (execExtensionComplete_holdsView he)
  case abandonedPageEnd => cases he; exact .of_view rfl
  case slotPropagation => exact .of_view (execSlotPropagation_holdsView he)
  case lfoPropagation => unfold execLfoPropagation at he; split at he <;> cases he <;> exact .of_view rfl
  case resync => unfold execResync at he; split at he <;> cases he <;> exact .of_view rfl
  case tapPress v => unfold execTapPress at he; split_ifs at he <;> cases he <;> exact .of_view rfl
  case tapRelease v => exact .of_view (execTapRelease_holdsView he)
  case longPress v => unfold execLongPress at he; split_ifs at he <;> cases he <;> exact .of_view rfl
  case stuckSwitch v => unfold execStuckSwitch at he; split_ifs at he <;> cases he <;> exact .of_view rfl
  case tapHighSample v => unfold execTapHighSample at he; split_ifs at he <;> cases he <;> exact .of_view rfl
  case tapFreshExpiry v =>
    unfold execTapFreshExpiry at he; split_ifs at he <;> cases he
    · exact .of_outsideTempo (State.reevaluate_outsideTempo _ :)
    · exact .refl s
  case tapHistoryClear v => unfold execTapHistoryClear at he; split_ifs at he <;> cases he <;> exact .of_view rfl
  case linkTempoFrame a b c d v => cases he; exact s.linkBytes_keepsHolds _ _
  case linkStopFrame a b v => cases he; exact s.linkBytes_keepsHolds _ _
  case linkBadFrame bs v => cases he; exact s.linkBytes_keepsHolds _ _
  case linkBreak v => cases he; exact s.linkBytes_keepsHolds _ _
  case linkSilenceTimeout v =>
    unfold execLinkSilenceTimeout at he; split_ifs at he <;> cases he
    · exact .of_outsideTempo s.linkLost_outsideTempo
    · exact .refl s
  case leaseTick =>
    unfold execLeaseTick at he; split_ifs at he <;> cases he
    · exact .refl s
    · exact .foldl State.tickHold_keepsHolds allSlots s
  case holdExpiry n =>
    unfold execHoldExpiry at he; split_ifs at he <;> cases he
    · exact s.expireHold_keepsHolds n
    · exact .refl s
  case supplyLow v =>
    unfold execSupplyLow at he; split_ifs at he <;> cases he
    · exact s.enterStarting_keepsHolds _ _
    · exact .of_view ((State.fadeSupply_holdsView _ _ _).trans rfl)
    · exact .refl s
  case supplyNormal v =>
    unfold execSupplyNormal at he; split_ifs at he <;> cases he
    · exact .of_view ((State.fadeSupply_holdsView _ _ _).trans rfl)
    · exact .refl s
  case powerOnReset => cases he; exact s.enterStarting_keepsHolds _ _
  case resetLow => cases he; exact s.enterStarting_keepsHolds _ _
  case startUpSweep r v => unfold execStartUpSweep at he; split_ifs at he <;> cases he <;> exact .of_view rfl
  case startUpSweepEnd pins =>
    unfold execStartUpSweepEnd at he; split_ifs at he <;> cases he
    · exact s.startUp_keepsHolds pins _
    · exact .refl s

/-- And every step keeps them in range. -/
theorem step_keepsHolds {s t : State} (he : step s = .next t) : s.KeepsHolds t := by
  unfold step at he; split at he
  · exact .after (exec_keepsHolds he) rfl
  · cases he
    exact .of_view ((congrArg State.holdsView s.pageTime_frame).trans rfl)

/-- Settles O55: an entry is taken and renewed at a lease length in range, a tick takes one unit of more than one, and no other command
writes an entry or a lease length. -/
theorem stepKeepsHolds : Obligations.StepKeepsHolds := fun _ _ h he => step_keepsHolds he h

end Sys2Proof.Machine

namespace Sys2Proof.Machine

/-! ### Slots held by the other port (R136) -/

section
variable {t : State} {p : Port} {n : SlotId}

/-- The set of one slot. -/
theorem slotSet_single (n : SlotId) : slotSet (· == n) = slotBit n := by
  unfold slotSet allSlots; revert n; decide

/-- R135: the conflict list of a command that names one slot. -/
theorem State.conflicts_single (h : t.holds[n].holder = some p.other) : t.conflicts p [n] = slotBit n := by
  have listed : (fun m : SlotId => [n].contains m && t.heldByOther p m) = (· == n) := funext fun m => by
    by_cases hm : m = n
    · subst hm; simp [State.heldByOther_of_eq h]
    · simp [hm]
  unfold State.conflicts; rw [listed]; exact slotSet_single n

/-- R136: a command that its decision refuses with HELD changes nothing and answers the conflict list. -/
theorem heldSlot_refuses {s : State} {tag code : Byte} {body : List Byte} {d : State → Verdict}
    (ht : s.takeCommand p (ownCommand tag code body) = some t) (hh : t.holds[n].holder = some p.other)
    (hd : d t = t.refuseHeld p [n]) :
    runCommand p (ownCommand tag code body) d s = .next (t.placeResult p ⟨tag, code, .held, maskBytes (1#16 <<< n.val)⟩) :=
  taken_ownCommand ht (by rw [hd, State.refuseHeld, State.conflicts_single hh]; rfl)

variable {b0 b1 b2 : Byte}

theorem assignDecision_of_held {a : Alg} (hq : t.power ≠ .quiet) (hn : slotField b0 = some n) (ha : algField b1 = some a)
    (hh : t.holds[n].holder = some p.other) : assignDecision p [b0, b1] t = t.refuseHeld p [n] := by
  simp only [assignDecision, if_neg hq, hn, ha, State.heldByOther_of_eq hh, if_true]

theorem clearDecision_of_held (hq : t.power ≠ .quiet) (hn : slotField b0 = some n) (hh : t.holds[n].holder = some p.other) :
    clearDecision p [b0] t = t.refuseHeld p [n] := by
  simp only [clearDecision, if_neg hq, hn, State.heldByOther_of_eq hh, if_true]

theorem paramsDecision_of_held {body : List Byte} {raw : List (Byte × Int)} {prs : List (ParamIx × Int)}
    (hb : paramsBody body = some (b0, raw)) (hp : indexedPairs raw = some prs) (hn : slotField b0 = some n)
    (hh : t.holds[n].holder = some p.other) : paramsDecision p body t = t.refuseHeld p [n] := by
  simp only [paramsDecision, hb, hn, hp, State.heldByOther_of_eq hh, if_true]

theorem muteChecks_of_held {change : State → SlotId → State} (hn : slotField b0 = some n)
    (hh : t.holds[n].holder = some p.other) : muteChecks p [b0] change t = t.refuseHeld p [n] := by
  simp only [muteChecks, hn, State.heldByOther_of_eq hh, if_true]

theorem routeDecision_of_held {r : PairId} (hn : slotField b0 = some n) (hr : pairField b2 = some r)
    (hh : t.holds[n].holder = some p.other) : routeDecision p [b0, b1, b2] t = t.refuseHeld p [n] := by
  simp only [routeDecision, hn, hr, State.heldByOther_of_eq hh, if_true]

end

/-- Settles O12: past the earlier checks each of the six commands comes to the hold check, which refuses it. -/
theorem heldSlotRefusesTheOtherPort : Obligations.HeldSlotRefusesTheOtherPort := by
  intro s t p tag b0 b1 b2 n hn hh
  refine ⟨fun ht hq ha => ?assign, fun ht hq => ?clear, fun body raw ht hb hp => ?params, fun ht => ?mute, fun ht => ?unmute,
    fun ht hr => ?route⟩
  case assign =>
    obtain ⟨a, ha⟩ := Option.isSome_iff_exists.mp ha
    exact heldSlot_refuses ht hh (assignDecision_of_held hq hn ha hh)
  case clear => exact heldSlot_refuses ht hh (clearDecision_of_held hq hn hh)
  case params =>
    obtain ⟨prs, hp⟩ := Option.isSome_iff_exists.mp hp
    exact heldSlot_refuses ht hh (paramsDecision_of_held hb hp hn hh)
  case mute => exact heldSlot_refuses ht hh (muteChecks_of_held hn hh)
  case unmute => exact heldSlot_refuses ht hh (muteChecks_of_held hn hh)
  case route =>
    obtain ⟨r, hr⟩ := Option.isSome_iff_exists.mp hr
    exact heldSlot_refuses ht hh (routeDecision_of_held hn hr hh)

end Sys2Proof.Machine

namespace Sys2Proof.Machine

/-! ### The hold commands: what their answers leave outside the Hold Table (R132 to R135) -/

section
variable (s : State) (p : Port)

theorem State.placeResult_outsideHolds (r : Result) : (s.placeResult p r).outsideHolds = s.outsideHolds.placeResult p r := by
  cases p <;> rfl

/-- The hold report reads nothing of a result queue. -/
theorem State.placeResult_holdReport (q : Port) (r : Result) : (s.placeResult q r).holdReport p = s.holdReport p := by
  cases p <;> cases q <;> rfl

theorem State.takeHolds_flagsOf (ns : List SlotId) : (s.takeHolds p ns).flagsOf = s.flagsOf :=
  (congrArg State.flagsOf (State.takeHolds_spec p ns s).2 :)

theorem State.releaseHolds_flagsOf (ns : List SlotId) : (s.releaseHolds p ns).flagsOf = s.flagsOf :=
  (congrArg State.flagsOf (State.releaseHolds_spec p ns s).2 :)

variable {s p} {u : State}

/-- A result placed after a change of the Hold Table. -/
theorem State.answered_outsideHolds (h : u.outsideHolds = s.outsideHolds) (r : Result) :
    (u.placeResult p r).outsideHolds = (s.placeResult p r).outsideHolds := by
  rw [State.placeResult_outsideHolds, State.placeResult_outsideHolds, h]

end

/-- Settles O14: with no listed slot in the other port's hands all are taken, and otherwise none. -/
theorem takeHoldAllOrNone : Obligations.TakeHoldAllOrNone := by
  intro s t p tag hi lo ht
  let slots := slotsOf (bits16 hi lo)
  have decides : takeHoldDecision p [hi, lo] t = if slots.any (t.heldByOther p) then t.refuseHeld p slots
      else (t.takeHolds p slots).answerDone ((t.takeHolds p slots).holdReport p) := rfl
  refine ⟨fun free => ?taken, fun held => ?refused⟩
  case taken =>
    have admitted : ¬ slots.any (t.heldByOther p) = true := fun h => by
      obtain ⟨n, hlisted, hheld⟩ := State.slotsOf_held_iff.mp h
      exact free n hlisted hheld
    refine ⟨_, taken_ownCommand ht (decides.trans (if_neg admitted)),
      (State.placeResult_flagsOf _ p _).trans (t.takeHolds_flagsOf p slots), fun n => ?_, ?_⟩
    · rw [State.placeResult_holds, (State.takeHolds_spec p slots t).1 n]
      exact if_congr mem_slotsOf rfl rfl
    · rw [State.placeResult_holdReport]
      exact State.answered_outsideHolds (t.takeHolds_outsideHolds p slots) _
  case refused =>
    rw [if_pos (State.slotsOf_held_iff.mpr held), State.refuseHeld, State.conflicts_slotsOf] at decides
    exact taken_ownCommand ht decides

/-! ### RELEASE HOLD and SET LEASE (R133, R134) -/

/-- The elements of a list that fail a test are those that are left of its length. -/
theorem length_sub_filter {α : Type} (f : α → Bool) (l : List α) :
    l.length - (l.filter f).length = (l.filter fun a => !f a).length := by
  have parts := List.length_eq_length_filter_add (l := l) f
  omega

/-- Settles O15: RELEASE HOLD concerns the port's own entries, SET LEASE the length at the next taking. -/
theorem releaseHoldAndSetLease : Obligations.ReleaseHoldAndSetLease := by
  intro s t p tag hi lo units
  refine ⟨fun ht => ?release, fun ht => ⟨fun hrange => ?written, fun hrange => ?refused⟩⟩
  case release =>
    let slots := slotsOf (bits16 hi lo)
    have decides : releaseHoldDecision p [hi, lo] t = (t.releaseHolds p slots).answerDone
        (byte1 (t.heldOf p slots).length ++ byte1 (slots.length - (t.heldOf p slots).length)
          ++ (t.releaseHolds p slots).holdReport p) := rfl
    unfold State.heldOf at decides
    rw [length_sub_filter] at decides
    refine ⟨_, taken_ownCommand ht decides,
      (State.placeResult_flagsOf _ p _).trans (t.releaseHolds_flagsOf p slots), fun n => ?_, ?_⟩
    · rw [State.placeResult_holds, (State.releaseHolds_spec p slots t).1 n]
      refine if_congr ?_ rfl rfl
      rw [Bool.and_eq_true, beq_iff_eq, mem_slotsOf]
    · rw [State.placeResult_holdReport]
      exact State.answered_outsideHolds (t.releaseHolds_outsideHolds p slots) _
  case written =>
    have admitted : within 4 240 units.toNat = some units.toNat := if_pos hrange
    refine taken_ownCommand ht ?_
    unfold setLeaseDecision; dsimp only; rw [admitted]
    have report : (t.setPort p { t.port p with lease := units.toNat }).holdReport p =
        maskBytes (slotSet fun n => t.holds[n].holder == some p) ++ maskBytes (slotSet fun n => t.holds[n].holder == some p.other)
          ++ [units] := by
      unfold State.holdReport byte1
      rw [State.setPort_port_same, State.setPort_holds, BitVec.ofNat_toNat, BitVec.setWidth_eq]
    rw [← report]; rfl
  case refused =>
    have rejected : within 4 240 units.toNat = none := if_neg (by omega)
    refine taken_ownCommand ht ?_
    unfold setLeaseDecision; dsimp only; rw [rejected]; rfl

end Sys2Proof.Machine

namespace Sys2Proof.Machine

/-! ### The lease tick (R131) -/

/-- R131: an entry after a tick. -/
def Hold.ticked (h : Hold) : Hold :=
  if h.holder = Option.none then h else if h.count ≤ 1 then Hold.none else { h with count := h.count - 1 }

/-- R131: whether an entry is a hold of the port that expires at a tick. -/
def Hold.expires (h : Hold) (q : Port) : Bool := h.holder == some q && h.count ≤ 1

theorem Hold.expires_of_free {h : Hold} (hfree : h.holder = Option.none) {q : Port} : h.expires q = false := by
  unfold Hold.expires; rw [hfree]; rfl

theorem Hold.expires_of_held {h : Hold} {p : Port} (hp : h.holder = some p) (q : Port) :
    h.expires q = (decide (q = p) && decide (h.count ≤ 1)) := by
  unfold Hold.expires; rw [hp]; cases p <;> cases q <;> rfl

section
variable (s : State) (n : SlotId) {p : Port}

theorem State.expireHold_of_held (h : s.holds[n].holder = some p) : s.expireHold n = (s.releaseHoldOf n).raise p .holdLost := by
  unfold State.expireHold; rw [h]

theorem State.expireHold_holds (h : s.holds[n].holder = some p) : (s.expireHold n).holds = s.holds.set n Hold.none := by
  rw [s.expireHold_of_held n h, State.raise_holds]; rfl

/-- R131: HOLD_LOST is set in the holder's port alone. -/
theorem State.expireHold_flags (h : s.holds[n].holder = some p) (q : Port) :
    ((s.expireHold n).port q).flags = (s.port q).flags ||| (if q = p then 0x200 else 0) := by
  rw [s.expireHold_of_held n h]
  have kept (q : Port) : (s.releaseHoldOf n).port q = s.port q := s.setHold_port n _ q
  rcases Port.eq_or_other p q with rfl | rfl
  · rw [State.raise_port_same, PortState.raise_flags, kept, if_pos rfl]; rfl
  · rw [State.raise_port_other, kept, if_neg (Port.other_ne p)]; exact BitVec.or_zero.symm

theorem State.tickHold_holds : (s.tickHold n).holds = s.holds.set n s.holds[n].ticked := by
  unfold State.tickHold Hold.ticked; split_ifs with hfree hlast
  · rw [table_set_self]
  · obtain ⟨p, hp⟩ := Option.ne_none_iff_exists'.mp hfree
    exact s.expireHold_holds n hp
  · rfl

theorem State.tickHold_flags (q : Port) :
    ((s.tickHold n).port q).flags = (s.port q).flags ||| (if s.holds[n].expires q then 0x200 else 0) := by
  cases hp : s.holds[n].holder with
  | none =>
    have free : s.tickHold n = s := if_pos hp
    rw [free, Hold.expires_of_free hp]; exact BitVec.or_zero.symm
  | some p =>
    have held : s.holds[n].holder ≠ none := by rw [hp]; exact nofun
    rw [Hold.expires_of_held hp q]
    by_cases hlast : s.holds[n].count ≤ 1
    · have last : s.tickHold n = s.expireHold n := (if_neg held).trans (if_pos hlast)
      rw [last, s.expireHold_flags n hp, decide_eq_true hlast]
      simp
    · have running : s.tickHold n = s.setHold n { s.holds[n] with count := s.holds[n].count - 1 } :=
        (if_neg held).trans (if_neg hlast)
      rw [running, decide_eq_false hlast, Bool.and_false]
      rw [State.setHold_port]; exact BitVec.or_zero.symm

theorem State.tickHold_holds_of_ne {m : SlotId} (h : m ≠ n) : (s.tickHold m).holds[n] = s.holds[n] := by
  rw [State.tickHold_holds, table_get_set, if_neg h]

theorem State.tickAll_holds : (allSlots.foldl State.tickHold s).holds[n] = s.holds[n].ticked := by
  obtain ⟨t, before, after⟩ := foldl_allSlots_at (fun t => t.holds[n]) State.tickHold n (fun t _ => t.tickHold_holds_of_ne n) s
  rw [after, State.tickHold_holds, table_get_set_self, before]

/-- R131: the port's one flag records all its holds that expire at a tick. -/
theorem State.ticks_flags (q : Port) (ns : List SlotId) (hns : ns.Nodup) : ∀ s : State,
    ((ns.foldl State.tickHold s).port q).flags
      = (s.port q).flags ||| (if ns.any (fun m => s.holds[m].expires q) then 0x200 else 0) := by
  induction ns with
  | nil => intro s; exact BitVec.or_zero.symm
  | cons m ns ih =>
    intro s
    obtain ⟨hm, hns⟩ := List.nodup_cons.mp hns
    have later : (ns.any fun k => (s.tickHold m).holds[k].expires q) = ns.any fun k => s.holds[k].expires q := by
      rw [Bool.eq_iff_iff, List.any_eq_true, List.any_eq_true]
      exact exists_congr fun k => and_congr_right fun hk => by
        rw [s.tickHold_holds_of_ne k fun e : m = k => hm (e.symm ▸ hk)]
    rw [List.foldl_cons, ih hns, later, State.tickHold_flags, List.any_cons]
    cases s.holds[m].expires q <;> cases ns.any fun k => s.holds[k].expires q <;> simp [BitVec.or_assoc]

end

/-- Settles O16: a tick is each entry's own, and an entry's last unit is its expiry. -/
theorem leasesTickAndExpire : Obligations.LeasesTickAndExpire := by
  intro s hpower
  refine ⟨⟨_, if_neg hpower, ?_, fun n => ?_, fun q => State.ticks_flags q allSlots allSlots_nodup s⟩, fun n q hheld hlast => ?_⟩
  · exact foldl_keeps State.outsideHolds State.tickHold State.tickHold_outsideHolds _ _
  · exact s.tickAll_holds n
  · have expires : exec (.holdExpiry n) s = .next (s.expireHold n) := if_pos ⟨hpower, by rw [hheld]; exact nofun, hlast⟩
    refine ⟨_, expires, s.expireHold_outsideHolds n, s.expireHold_holds n hheld, ?_, ?_⟩
    · rw [s.expireHold_flags n hheld, if_pos rfl]
    · rw [s.expireHold_flags n hheld, if_neg (Port.other_ne q)]; exact BitVec.or_zero

/-! ### PORT RESET (R142, R157, R175) -/

section
variable (s : State) (p : Port)

/-- R142, R157: what PORT RESET decides. -/
def State.portCleared : State := (s.releaseHolds p allSlots).setPort p (s.port p).portReset

theorem State.releaseHolds_port (ns : List SlotId) (q : Port) : (s.releaseHolds p ns).port q = s.port q := by
  rw [(State.releaseHolds_spec p ns s).2]; cases q <;> rfl

theorem State.portCleared_holds (n : SlotId) :
    (s.portCleared p).holds[n] = if s.holds[n].holder = some p then Hold.none else s.holds[n] := by
  unfold State.portCleared
  rw [State.setPort_holds, (State.releaseHolds_spec p allSlots s).1 n]
  exact if_congr (and_iff_right (mem_allSlots n)) rfl rfl

/-- R142: the reset concerns the port's record and the Hold Table alone. -/
theorem State.portCleared_frame (r : Result) :
    { (s.portCleared p).placeResult p r with portA := s.portA, portB := s.portB, holds := s.holds } = s := by
  unfold State.portCleared; rw [(State.releaseHolds_spec p allSlots s).2]
  cases p <;> rfl

end

/-- Settles O36: the port's record takes its values anew, and the answer is placed in the emptied queue. -/
theorem portResetClearsThePort : Obligations.PortResetClearsThePort := by
  intro s t p tag ht
  have decides : portResetDecision p [] t = (t.portCleared p).answerDone := rfl
  have record : (t.portCleared p).port p = (t.port p).portReset := State.setPort_port_same _ p _
  refine ⟨_, taken_ownCommand ht decides, ?_, ?_, fun n => ?_, t.portCleared_frame p _⟩
  · rw [State.placeResult_port_same, record]; rfl
  · rw [State.placeResult_port_other, State.portCleared, State.setPort_port_other, State.releaseHolds_port]
  · rw [State.placeResult_holds]; exact t.portCleared_holds p n

end Sys2Proof.Machine

namespace Sys2Proof.Machine

/-! ### The step (R144) -/

/-- Settles O1: it is the step's arm for a queue that holds a command. -/
theorem stepRunsTheFrontCommand : Obligations.StepRunsTheFrontCommand := by
  intro s c rest front
  unfold step
  rw [front]

/-! ### The arbiter (R143, log 1) -/

section
variable {s : State} {p : Port} {c : Command}

/-- R143: the arbiter chooses no port just while both command queues are empty. -/
theorem State.arbiterPort_eq_none_iff : s.arbiterPort = none ↔ s.portA.commands = [] ∧ s.portB.commands = [] := by
  unfold State.arbiterPort
  cases s.portA.commands <;> cases s.portB.commands <;> simp

/-- R143: a port that holds a command is chosen when the other queue is empty or the other port was served last. -/
theorem State.arbiterPort_of_turn (waits : (s.port p).commands ≠ [])
    (turn : (s.port p.other).commands = [] ∨ s.lastServed = p.other) : s.arbiterPort = some p := by
  obtain ⟨c, cs, own⟩ := List.exists_cons_of_ne_nil waits
  rcases other : (s.port p.other).commands with _ | ⟨d, ds⟩
  · cases p <;> simp only [State.port, Port.other] at own other <;> simp only [State.arbiterPort, own, other]
  · have served : s.lastServed = p.other := turn.resolve_left (by rw [other]; exact List.cons_ne_nil d ds)
    cases p <;> simp only [State.port, Port.other] at own other served <;>
      simp only [State.arbiterPort, own, other, served, Port.other]

/-- R143: the port served last waits while the other queue holds a command. -/
theorem State.arbiterPort_of_served (other : (s.port p.other).commands ≠ []) (served : s.lastServed = p) :
    s.arbiterPort = some p.other :=
  State.arbiterPort_of_turn other (Or.inr (by rw [served, Port.other_other]))

theorem State.arbiterChoice_of_port (chosen : s.arbiterPort = some p) :
    s.arbiterChoice = (s.port p).commands.head?.map fun c => (p, c) := by
  unfold State.arbiterChoice; rw [chosen]

theorem State.arbiterChoice_of_none (idle : s.arbiterPort = none) : s.arbiterChoice = none := by
  unfold State.arbiterChoice; rw [idle]

/-- R163, R166, R167: what a whole transaction that reaches the queue asks for. -/
theorem State.wouldQueue_iff :
    s.wouldQueue p c = true ↔ (s.port p).link = .idle ∧ (s.port p).creditsInUse < 8 ∧ c.body.length ≤ 60
      ∧ (c.generalCall = true → (s.port p).callEnable = true ∧ (c.code = 0x24 ∨ c.code = 0x32)) := by
  simp [State.wouldQueue, PortState.creditsFree, generalCallCodes, and_assoc, imp_iff_not_or]

theorem State.takeCommand_of_starting (starting : s.power = .starting) : s.takeCommand p c = none := if_pos starting

/-- R143: the arbiter's choice leaves its queue. -/
theorem State.takeCommand_of_choice (power : s.power ≠ .starting) (choice : s.arbiterChoice = some (p, c)) :
    s.takeCommand p c = some (s.serve p) := by
  unfold State.takeCommand; rw [if_neg power, if_pos choice]

/-- With both queues empty only a whole transaction of its own is taken (log 1). -/
theorem State.takeCommand_of_idle (power : s.power ≠ .starting) (idle : s.arbiterPort = none) :
    s.takeCommand p c = if s.wouldQueue p c then some { s with lastServed := p } else none := by
  unfold State.takeCommand
  simp only [power, idle, State.arbiterChoice_of_none idle, reduceCtorEq, true_and, if_false]

/-- A command of a port that is not the arbiter's waits. -/
theorem State.takeCommand_of_other (chosen : s.arbiterPort = some p.other) : s.takeCommand p c = none := by
  have notChoice : s.arbiterChoice ≠ some (p, c) := by
    rw [State.arbiterChoice_of_port chosen]
    intro same
    obtain ⟨d, _, pair⟩ := Option.map_eq_some_iff.mp same
    exact Port.other_ne p (congrArg Prod.fst pair)
  unfold State.takeCommand
  simp only [notChoice, chosen, reduceCtorEq, false_and, if_false, ite_self]

end

/-- Settles O3: the queues decide which port the arbiter chooses, and the port alone whether a transaction reaches an empty queue. -/
theorem commandsAreTaken : Obligations.CommandsAreTaken := by
  intro s p c
  refine ⟨State.takeCommand_of_starting, fun power cs head => ⟨fun turn => ?taken, fun other served => ?waits⟩,
    fun power emptyA emptyB => ⟨fun link credit fits call => ?direct, fun busy => ?refused⟩⟩
  case taken =>
    have chosen : s.arbiterPort = some p := State.arbiterPort_of_turn (by rw [head]; exact List.cons_ne_nil c cs) turn
    have choice : s.arbiterChoice = some (p, c) := by rw [State.arbiterChoice_of_port chosen, head]; rfl
    rw [State.takeCommand_of_choice power choice, State.serve, head, List.tail_cons]
  case waits => exact State.takeCommand_of_other (State.arbiterPort_of_served other served)
  case direct =>
    rw [State.takeCommand_of_idle power (State.arbiterPort_eq_none_iff.mpr ⟨emptyA, emptyB⟩),
      if_pos (State.wouldQueue_iff.mpr ⟨link, credit, fits, call⟩)]
  case refused =>
    rw [State.takeCommand_of_idle power (State.arbiterPort_eq_none_iff.mpr ⟨emptyA, emptyB⟩), if_neg]
    intro queued
    obtain ⟨link, credit, _⟩ := State.wouldQueue_iff.mp queued
    exact busy.elim (· link) (Nat.not_le.mpr credit)

end Sys2Proof.Machine

namespace Sys2Proof.Machine

/-! ### The length check (R146, R147): each decision answers the bodies of its one length -/

/-- R147: a decision that refuses every body but those of `k` bytes with BADLEN, and changes nothing. -/
def TakesLength (k : Nat) (d : List Byte → State → Verdict) : Prop := ∀ body s, body.length ≠ k → d body s = s.refuse .badLen

/-- A decision that refuses a command leaves the state the take left, with the result placed. -/
theorem taken_refuses {p : Port} {tag code : Byte} {body : List Byte} {d : State → Verdict} {s t : State} {st : Status}
    (taken : s.takeCommand p (ownCommand tag code body) = some t) (refuses : d t = t.refuse st) :
    runCommand p (ownCommand tag code body) d s = .next (t.placeResult p ⟨tag, code, st, []⟩) := taken_ownCommand taken refuses

theorem TakesLength.refuses {k : Nat} {d : List Byte → State → Verdict} (hd : TakesLength k d) {p : Port} {tag code : Byte}
    {body : List Byte} {s t : State} (taken : s.takeCommand p (ownCommand tag code body) = some t) (wrong : body.length ≠ k) :
    runCommand p (ownCommand tag code body) (d body) s = .next (t.placeResult p ⟨tag, code, .badLen, []⟩) :=
  taken_refuses taken (hd body t wrong)

namespace TakesLength

variable {k : Nat} {d : List Byte → State → Verdict}

theorem zero (long : ∀ a l s, d (a :: l) s = s.refuse .badLen) : TakesLength 0 d := fun body s wrong => by
  cases body with
  | nil => exact absurd rfl wrong
  | cons a l => exact long a l s

theorem cons (empty : ∀ s, d [] s = s.refuse .badLen) (rest : ∀ a, TakesLength k fun body => d (a :: body)) :
    TakesLength (k + 1) d := fun body s wrong => by
  cases body with
  | nil => exact empty s
  | cons a l => exact rest a l s fun e => wrong (congrArg Nat.succ e)

theorem one (empty : ∀ s, d [] s = s.refuse .badLen) (long : ∀ a b l s, d (a :: b :: l) s = s.refuse .badLen) :
    TakesLength 1 d := cons empty fun a => zero (long a)

theorem two (empty : ∀ s, d [] s = s.refuse .badLen) (single : ∀ a s, d [a] s = s.refuse .badLen)
    (long : ∀ a b c l s, d (a :: b :: c :: l) s = s.refuse .badLen) : TakesLength 2 d := cons empty fun a => one (single a) (long a)

theorem three (empty : ∀ s, d [] s = s.refuse .badLen) (single : ∀ a s, d [a] s = s.refuse .badLen)
    (pair : ∀ a b s, d [a, b] s = s.refuse .badLen) (long : ∀ a b c e l s, d (a :: b :: c :: e :: l) s = s.refuse .badLen) :
    TakesLength 3 d := cons empty fun a => two (single a) (pair a) (long a)

end TakesLength

section
variable (p : Port)

theorem readPoolDecision_takesLength : TakesLength 0 readPoolDecision := .zero fun _ _ _ => rfl
theorem readRecallDecision_takesLength : TakesLength 0 readRecallDecision := .zero fun _ _ _ => rfl
theorem readTempoDecision_takesLength : TakesLength 0 readTempoDecision := .zero fun _ _ _ => rfl
theorem readEventsDecision_takesLength : TakesLength 0 (readEventsDecision p) := .zero fun _ _ _ => rfl
theorem portResetDecision_takesLength : TakesLength 0 (portResetDecision p) := .zero fun _ _ _ => rfl
theorem quietDecision_takesLength : TakesLength 0 quietDecision := .zero fun _ _ _ => rfl
theorem wakeDecision_takesLength : TakesLength 0 wakeDecision := .zero fun _ _ _ => rfl
theorem tapDecision_takesLength (time : Nat) : TakesLength 0 (tapDecision · time) := .zero fun _ _ _ => rfl
theorem clearDecision_takesLength : TakesLength 1 (clearDecision p) := .one (fun _ => rfl) (fun _ _ _ _ => rfl)
theorem readSlotDecision_takesLength : TakesLength 1 (readSlotDecision p) := .one (fun _ => rfl) (fun _ _ _ _ => rfl)
theorem setLeaseDecision_takesLength : TakesLength 1 (setLeaseDecision p) := .one (fun _ => rfl) (fun _ _ _ _ => rfl)
theorem eraseSceneDecision_takesLength : TakesLength 1 eraseSceneDecision := .one (fun _ => rfl) (fun _ _ _ _ => rfl)
theorem setTempoSourceDecision_takesLength : TakesLength 1 setTempoSourceDecision := .one (fun _ => rfl) (fun _ _ _ _ => rfl)
theorem setTapOptionsDecision_takesLength : TakesLength 1 setTapOptionsDecision := .one (fun _ => rfl) (fun _ _ _ _ => rfl)
theorem setRandomModeDecision_takesLength : TakesLength 1 setRandomModeDecision := .one (fun _ => rfl) (fun _ _ _ _ => rfl)

theorem muteChecks_takesLength (change : State → SlotId → State) : TakesLength 1 (muteChecks p · change) :=
  .one (fun _ => rfl) (fun _ _ _ _ => rfl)

theorem assignDecision_takesLength : TakesLength 2 (assignDecision p) :=
  .two (fun _ => rfl) (fun _ _ => rfl) (fun _ _ _ _ _ => rfl)

theorem takeHoldDecision_takesLength : TakesLength 2 (takeHoldDecision p) :=
  .two (fun _ => rfl) (fun _ _ => rfl) (fun _ _ _ _ _ => rfl)

theorem releaseHoldDecision_takesLength : TakesLength 2 (releaseHoldDecision p) :=
  .two (fun _ => rfl) (fun _ _ => rfl) (fun _ _ _ _ _ => rfl)

theorem readSceneDecision_takesLength : TakesLength 2 readSceneDecision :=
  .two (fun _ => rfl) (fun _ _ => rfl) (fun _ _ _ _ _ => rfl)

theorem abortMorphDecision_takesLength : TakesLength 2 (abortMorphDecision p) :=
  .two (fun _ => rfl) (fun _ _ => rfl) (fun _ _ _ _ _ => rfl)

theorem setTempoDecision_takesLength : TakesLength 2 setTempoDecision :=
  .two (fun _ => rfl) (fun _ _ => rfl) (fun _ _ _ _ _ => rfl)

theorem seedRandomDecision_takesLength : TakesLength 2 seedRandomDecision :=
  .two (fun _ => rfl) (fun _ _ => rfl) (fun _ _ _ _ _ => rfl)

theorem routeDecision_takesLength : TakesLength 3 (routeDecision p) :=
  .three (fun _ => rfl) (fun _ _ => rfl) (fun _ _ _ => rfl) (fun _ _ _ _ _ _ => rfl)

theorem setEventMaskDecision_takesLength : TakesLength 3 (setEventMaskDecision p) :=
  .three (fun _ => rfl) (fun _ _ => rfl) (fun _ _ _ => rfl) (fun _ _ _ _ _ _ => rfl)

theorem recallDecision_takesLength (generalCall : Bool) : TakesLength 3 (recallDecision p generalCall) :=
  .three (fun _ => rfl) (fun _ _ => rfl) (fun _ _ _ => rfl) (fun _ _ _ _ _ _ => rfl)

theorem storeSceneDecision_takesLength : TakesLength 6 storeSceneDecision := fun body s wrong => by
  unfold storeSceneDecision; split
  · exact absurd rfl wrong
  · rfl

theorem setLfoDecision_takesLength : TakesLength 7 (setLfoDecision p) := fun body s wrong => by
  unfold setLfoDecision; split
  · exact absurd rfl wrong
  · rfl

/-- Five bytes and an entry of 29. -/
theorem writeSceneEntryDecision_takesLength : TakesLength 34 writeSceneEntryDecision := fun body s wrong => by
  unfold writeSceneEntryDecision; split
  · exact if_neg fun entry => wrong (by simp only [List.length_cons, entry])
  · rfl

end

/-- R161: a RESTART with a body is refused as any other command is. -/
theorem execRestart_of_length {p : Port} {tag : Byte} {body : List Byte} {s t : State}
    (taken : s.takeCommand p (ownCommand tag 0x62 body) = some t) (wrong : body.length ≠ 0) :
    exec (.restart p tag body) s = .next (t.placeResult p ⟨tag, 0x62, .badLen, []⟩) := by
  show execRestart p tag body s = _
  obtain ⟨b, bs, rfl⟩ := List.exists_cons_of_length_pos (Nat.pos_of_ne_zero wrong)
  unfold execRestart; rw [taken]; rfl

/-- R147: a PARAMS body is a slot byte and 1 to 8 pairs of 3 bytes. -/
theorem paramsBody_of_length {body : List Byte} (wrong : body.length % 3 ≠ 1 ∨ body.length < 4 ∨ 25 < body.length) :
    paramsBody body = none := by
  rcases body with _ | ⟨slot, rest⟩
  · rfl
  · rcases pairs : pairsOf rest with _ | prs
    · simp only [paramsBody, pairs]
    · have length := pairsOf_length rest prs pairs
      have count : ¬ (1 ≤ prs.length ∧ prs.length ≤ 8) := by rw [List.length_cons] at wrong; omega
      simp only [paramsBody, pairs, if_neg count]

theorem paramsDecision_of_length {p : Port} {body : List Byte} {s : State}
    (wrong : body.length % 3 ≠ 1 ∨ body.length < 4 ∨ 25 < body.length) : paramsDecision p body s = s.refuse .badLen := by
  unfold paramsDecision; rw [paramsBody_of_length wrong]

/-! ### The power check (R148) -/

section
variable {p : Port} {body : List Byte} {t : State}

theorem assignDecision_of_quiet (quiet : t.power = .quiet) (length : body.length = 2) :
    assignDecision p body t = t.refuse .quiet := by
  obtain ⟨slot, alg, rfl⟩ := List.length_eq_two.mp length
  exact if_pos quiet

theorem clearDecision_of_quiet (quiet : t.power = .quiet) (length : body.length = 1) :
    clearDecision p body t = t.refuse .quiet := by
  obtain ⟨slot, rfl⟩ := List.length_eq_one_iff.mp length
  exact if_pos quiet

theorem recallDecision_of_quiet {generalCall : Bool} (quiet : t.power = .quiet) (length : body.length = 3) :
    recallDecision p generalCall body t = t.refuse .quiet := by
  obtain ⟨scene, timeHi, timeLo, rfl⟩ := List.length_eq_three.mp length
  exact if_pos quiet

end

/-- R147: a code outside the list is refused when its command is taken. -/
theorem execUnknownCommand_of_taken {p : Port} {tag code : Byte} {body : List Byte} {s t : State}
    (taken : s.takeCommand p (ownCommand tag code body) = some t) (unlisted : code ∉ commandCodes) :
    exec (.unknownCommand p tag code body) s = .next (t.placeResult p ⟨tag, code, .unknown, []⟩) := by
  show execUnknownCommand p tag code body s = _
  unfold execUnknownCommand
  rw [if_neg fun listed => unlisted (List.contains_iff_mem.mp listed)]
  exact taken_refuses (d := fun u => u.refuse .unknown) taken rfl

/-- Settles O34: each row's decision answers its first failing check before it looks at anything else. -/
theorem firstChecks : Obligations.FirstChecks := by
  intro s t p tag body
  refine ⟨fun code taken unlisted => execUnknownCommand_of_taken taken unlisted, ?lengths,
    fun taken wrong => taken_refuses taken (paramsDecision_of_length wrong),
    fun quiet => ⟨fun taken length => taken_refuses taken (assignDecision_of_quiet quiet length),
      fun taken length => taken_refuses taken (clearDecision_of_quiet quiet length),
      fun g taken length => taken_as taken (recallDecision_of_quiet quiet length)⟩⟩
  case lengths =>
    simp only [List.forall_mem_cons]
    exact ⟨(assignDecision_takesLength p).refuses, (clearDecision_takesLength p).refuses,
      (muteChecks_takesLength p _).refuses, (muteChecks_takesLength p _).refuses, (routeDecision_takesLength p).refuses,
      (readSlotDecision_takesLength p).refuses, readPoolDecision_takesLength.refuses, (takeHoldDecision_takesLength p).refuses,
      (releaseHoldDecision_takesLength p).refuses, (setLeaseDecision_takesLength p).refuses,
      storeSceneDecision_takesLength.refuses, writeSceneEntryDecision_takesLength.refuses,
      eraseSceneDecision_takesLength.refuses, readSceneDecision_takesLength.refuses,
      (recallDecision_takesLength p false).refuses, (abortMorphDecision_takesLength p).refuses,
      readRecallDecision_takesLength.refuses, setTempoDecision_takesLength.refuses,
      setTempoSourceDecision_takesLength.refuses, (tapDecision_takesLength 0).refuses, readTempoDecision_takesLength.refuses,
      setTapOptionsDecision_takesLength.refuses, (setLfoDecision_takesLength p).refuses,
      seedRandomDecision_takesLength.refuses, setRandomModeDecision_takesLength.refuses,
      (readEventsDecision_takesLength p).refuses, (setEventMaskDecision_takesLength p).refuses,
      (portResetDecision_takesLength p).refuses, quietDecision_takesLength.refuses, wakeDecision_takesLength.refuses,
      execRestart_of_length, List.forall_mem_nil _⟩

end Sys2Proof.Machine

namespace Sys2Proof.Machine

/-! ### The bits of the flags, the mask and the flag word (11.2, R172 to R174) -/

theorem Flag.position_lt (f : Flag) : f.position < 14 := by cases f <;> decide

/-- Every bit below 14 is a flag's. -/
theorem Flag.exists_position {i : Nat} (h : i < 14) : ∃ f : Flag, f.position = i := by
  interval_cases i
  exacts [⟨.slotReady, rfl⟩, ⟨.slotEmpty, rfl⟩, ⟨.recallDone, rfl⟩, ⟨.tempoChanged, rfl⟩, ⟨.tempoSource, rfl⟩, ⟨.tapFault, rfl⟩,
    ⟨.linkLost, rfl⟩, ⟨.poolShort, rfl⟩, ⟨.storeFault, rfl⟩, ⟨.holdLost, rfl⟩, ⟨.audioLost, rfl⟩, ⟨.clip, rfl⟩,
    ⟨.supplyLow, rfl⟩, ⟨.gcMissed, rfl⟩]

/-- A flag stands where its bit does. -/
theorem PortState.hasFlag_eq_getLsbD (v : PortState) (f : Flag) : v.hasFlag f = v.flags.getLsbD f.position := by
  have nonzero : BitVec.twoPow 14 f.position ≠ 0#14 := by cases f <;> decide
  show (v.flags &&& BitVec.twoPow 14 f.position != 0#14) = _
  rw [BitVec.and_twoPow]
  cases v.flags.getLsbD f.position
  · rfl
  · exact bne_iff_ne.mpr nonzero

/-- R174: the attention line is low just while a result waits or a masked flag stands. -/
theorem PortState.attentionLow_iff (v : PortState) :
    v.attentionLow = true ↔ v.results ≠ [] ∨ ∃ f : Flag, v.hasFlag f = true ∧ v.mask.getLsbD f.position = true := by
  have masked : v.flags &&& v.mask ≠ 0 ↔ ∃ f : Flag, v.hasFlag f = true ∧ v.mask.getLsbD f.position = true := by
    constructor
    · intro nonzero
      by_contra noFlag
      refine nonzero (BitVec.eq_of_getLsbD_eq fun i hi => ?_)
      obtain ⟨f, rfl⟩ := Flag.exists_position hi
      rw [BitVec.getLsbD_and, ← v.hasFlag_eq_getLsbD f]
      simpa using fun stands => eq_false_of_ne_true fun maskBit => noFlag ⟨f, stands, maskBit⟩
    · rintro ⟨f, stands, maskBit⟩ zero
      have bit : (v.flags &&& v.mask).getLsbD f.position = true := by
        rw [BitVec.getLsbD_and, ← v.hasFlag_eq_getLsbD f, stands, maskBit]; rfl
      rw [zero] at bit
      simp at bit
  rw [← masked]
  simp [PortState.attentionLow]

section
variable (t : State) (p : Port)

/-- 11.2: below position 15 the flag word is the port's flags. -/
theorem State.flagWord_getLsbD {i : Nat} (h : i < 15) : (t.flagWord p).getLsbD i = (t.port p).flags.getLsbD i := by
  have clockBit : (if t.audio.clock = .present then 0x8000 else 0 : BitVec 16).getLsbD i = false := by
    split
    · exact (BitVec.getLsbD_twoPow 15 i).trans (by simp; omega)
    · exact BitVec.getLsbD_zero
  rw [State.flagWord, BitVec.getLsbD_or, clockBit, Bool.or_false, BitVec.getLsbD_setWidth, decide_eq_true (by omega), Bool.true_and]

/-- 11.2: position 15 is the audio clock state. -/
theorem State.flagWord_clock : (t.flagWord p).getLsbD 15 = (t.audio.clock == .present) := by
  rw [State.flagWord, BitVec.getLsbD_or, BitVec.getLsbD_setWidth, BitVec.getLsbD_of_ge _ _ (by decide)]
  cases t.audio.clock <;> rfl

end

/-! ### SET EVENT MASK (R157, R173, R183) -/

section
variable {hi lo b2 : Byte}

/-- R182: a two-byte field is read alike as a number and as a bit pattern. -/
theorem bits16_toNat (hi lo : Byte) : (bits16 hi lo).toNat = word16 hi lo := by
  rw [bits16, BitVec.toNat_append, ← Nat.shiftLeft_add_eq_or_of_lt lo.isLt, Nat.shiftLeft_eq]; rfl

/-- Positions 14 and 15 are both 0 just below 2^14. -/
theorem upperBits_clear_iff (w : BitVec 16) : (w.getLsbD 14 || w.getLsbD 15) = false ↔ w.toNat < 2 ^ 14 := by
  have bound := w.isLt
  simp only [BitVec.getLsbD, Nat.testBit_eq_decide_div_mod_eq, Bool.or_eq_false_iff, decide_eq_false_iff_not]
  omega

/-- R183: a mask field within the fourteen flags is the mask. -/
theorem maskField_of_lt (h : (hi ++ lo : BitVec 16).toNat < 2 ^ 14) : maskField hi lo = some (BitVec.ofNat 14 (word16 hi lo)) := by
  have clear := (upperBits_clear_iff (bits16 hi lo)).mpr h
  rw [maskField, clear, ← bits16_toNat, BitVec.ofNat_toNat]; rfl

/-- R183: a mask field beyond the fourteen flags is out of range. -/
theorem maskField_of_ge (h : 2 ^ 14 ≤ (hi ++ lo : BitVec 16).toNat) : maskField hi lo = none :=
  if_pos (eq_true_of_ne_false fun clear => Nat.not_lt.mpr h ((upperBits_clear_iff (bits16 hi lo)).mp clear))

variable {t : State} {p : Port}

theorem setEventMaskDecision_of_fields {on : Bool} (mask : (hi ++ lo : BitVec 16).toNat < 2 ^ 14) (enable : boolField b2 = some on) :
    setEventMaskDecision p [hi, lo, b2] t
      = (t.setPort p { t.port p with mask := BitVec.ofNat 14 (word16 hi lo), callEnable := on }).answerDone := by
  simp only [setEventMaskDecision, maskField_of_lt mask, enable]

theorem setEventMaskDecision_of_range (wrong : 2 ^ 14 ≤ (hi ++ lo : BitVec 16).toNat ∨ boolField b2 = none) :
    setEventMaskDecision p [hi, lo, b2] t = t.refuse .range := by
  rcases wrong with mask | enable
  · simp only [setEventMaskDecision, maskField_of_ge mask]
  · cases m : maskField hi lo <;> simp only [setEventMaskDecision, m, enable]

end

/-- Settles O35: the clauses are the flag word's bits, the two fields of SET EVENT MASK, and the attention line's two reasons. -/
theorem eventsAndMask : Obligations.EventsAndMask := by
  intro s t p tag hi lo b2
  refine ⟨fun taken => ⟨?read, fun f => ?flags, ?unused, t.flagWord_clock p⟩,
    fun taken => ⟨fun on mask enable => ?written, fun wrong => ?refused⟩, (s.port p).attentionLow_iff⟩
  case read => exact taken_ownCommand (d := readEventsDecision p []) taken rfl
  case flags => rw [t.flagWord_getLsbD p (Nat.lt_succ_of_lt f.position_lt), PortState.hasFlag_eq_getLsbD]
  case unused => rw [t.flagWord_getLsbD p (by decide)]; exact BitVec.getLsbD_of_ge _ _ (by decide)
  case written => exact taken_ownCommand taken (setEventMaskDecision_of_fields mask enable)
  case refused => exact taken_refuses taken (setEventMaskDecision_of_range wrong)

end Sys2Proof.Machine

namespace Sys2Proof.Machine

/-! ### A port's write, its message, and what ends a transaction (R164 to R166) -/

section
variable (v : PortState)

/-- A write is in progress in ADDRESSED and in RECEIVING. -/
theorem PortState.writing_iff : v.writing = true ↔ v.link = .addressed ∨ v.link = .receiving := by
  simp [PortState.writing]

theorem PortState.writing_eq_false_iff : v.writing = false ↔ v.link ≠ .addressed ∧ v.link ≠ .receiving := by
  rw [← not_or, ← PortState.writing_iff, Bool.not_eq_true]

theorem PortState.endMessage_of_fault {v : PortState} {st : Status} (h : v.framingFault = some st) :
    v.endMessage = { v.atRest with results := v.results ++ [v.portResult st] } := by
  unfold PortState.endMessage; rw [h]

theorem PortState.endMessage_of_sound {v : PortState} (h : v.framingFault = none) :
    v.endMessage = { v.atRest with commands := v.commands ++ [v.heldCommand] } := by
  unfold PortState.endMessage; rw [h]

theorem PortState.endTransaction_of_writing {v : PortState} (h : v.writing = true) : v.endTransaction = v.endMessage := if_pos h

theorem PortState.endTransaction_of_not_writing {v : PortState} (h : v.writing = false) : v.endTransaction = v.atRest :=
  if_neg (by rw [h]; exact Bool.false_ne_true)

/-- A message that ended leaves the port at rest. -/
theorem PortState.endMessage_atRest : v.endMessage.atRest = v.endMessage := by
  unfold PortState.endMessage; split <;> rfl

theorem PortState.endMessage_not_writing : v.endMessage.writing = false := by
  unfold PortState.endMessage; split <;> rfl

/-- What is cut off beyond the first `n` elements is not among the first `n` of a longer list. -/
theorem take_take_append {α : Type} (n : Nat) (l m : List α) : (l.take n ++ m).take n = (l ++ m).take n := by
  have left : n - min n l.length = n - l.length := by omega
  rw [List.take_append, List.take_append, List.take_take, Nat.min_self, List.length_take, left]

/-- R165: what a data byte may change. -/
theorem PortState.takeByte_eq (b : Byte) (h : v.buffer.length ≤ 64) :
    v.takeByte b = { v with
      link := .receiving, buffer := (v.buffer ++ [b]).take 64, tooLong := v.tooLong || decide (64 < (v.buffer ++ [b]).length) } := by
  unfold PortState.takeByte
  split_ifs with room
  · rw [List.take_of_length_le (by simpa using room), decide_eq_false (by simpa using room), Bool.or_false]
  · have full : v.buffer.length = 64 := by omega
    rw [List.take_append_of_le_length full.ge, List.take_of_length_le h, decide_eq_true (by simp [full]), Bool.or_true]

/-- The same for the data bytes that a row carries (log 7): the first 64 are held, and any more make the mark. -/
theorem PortState.takeBytes_eq (bytes : List Byte) : ∀ v : PortState, v.buffer.length ≤ 64 →
    v.takeBytes bytes = { v with
      link := (v.takeBytes bytes).link, buffer := (v.buffer ++ bytes).take 64,
      tooLong := v.tooLong || decide (64 < (v.buffer ++ bytes).length) } := by
  induction bytes with
  | nil =>
    intro v h
    rw [List.append_nil, List.take_of_length_le h, decide_eq_false (Nat.not_lt.mpr h), Bool.or_false]; rfl
  | cons b bytes ih =>
    intro v h
    have first := v.takeByte_eq b h
    have rest := ih (v.takeByte b) (by rw [first]; exact List.length_take_le ..)
    show (v.takeByte b).takeBytes bytes = { v with
      link := ((v.takeByte b).takeBytes bytes).link, buffer := (v.buffer ++ b :: bytes).take 64,
      tooLong := v.tooLong || decide (64 < (v.buffer ++ b :: bytes).length) }
    rw [rest]
    have held : ((v.takeByte b).buffer ++ bytes).take 64 = (v.buffer ++ b :: bytes).take 64 := by
      rw [first, take_take_append, List.append_assoc]; rfl
    have mark : ((v.takeByte b).tooLong || decide (64 < ((v.takeByte b).buffer ++ bytes).length))
        = (v.tooLong || decide (64 < (v.buffer ++ b :: bytes).length)) := by
      rw [first]
      rw [Bool.or_assoc, ← Bool.decide_or]
      refine congrArg (v.tooLong || ·) (decide_eq_decide.mpr ?_)
      simp only [List.length_append, List.length_take, List.length_cons, List.length_nil]
      omega
    rw [held, mark, first]

theorem PortState.takeByte_writing (b : Byte) : (v.takeByte b).writing = true := by
  unfold PortState.takeByte; split_ifs <;> rfl

/-- A write goes on through its data bytes. -/
theorem PortState.takeBytes_writing (bytes : List Byte) {v : PortState} (h : v.writing = true) : (v.takeBytes bytes).writing = true :=
  foldl_holds (fun w => w.writing = true) PortState.takeByte (fun w b _ => w.takeByte_writing b) bytes v h

/-- Data bytes leave the port's queues alone. -/
theorem PortState.takeBytes_queues (bytes : List Byte) :
    ((v.takeBytes bytes).commands, (v.takeBytes bytes).results) = (v.commands, v.results) :=
  foldl_keeps (fun w => (w.commands, w.results)) PortState.takeByte
    (fun w b => by unfold PortState.takeByte; split_ifs <;> rfl) bytes v

end

end Sys2Proof.Machine


namespace Sys2Proof.Machine

/-! ### The credits in use (R167), and what eases them -/

/-- What R167 counts: the credits in use in each port. -/
def State.creditsView (s : State) : Nat × Nat := (s.portA.creditsInUse, s.portB.creditsInUse)

/-- From the first state to the second neither port takes a credit more. -/
def State.EasesCredits (s t : State) : Prop := ∀ p, (t.port p).creditsInUse ≤ (s.port p).creditsInUse

section
variable {s t u : State}

theorem creditsView_of_surroundings (h : t.surroundings = s.surroundings) : t.creditsView = s.creditsView :=
  (congrArg State.creditsView h : t.surroundings.creditsView = s.surroundings.creditsView)
theorem creditsView_of_outsideTempo (h : t.outsideTempo = s.outsideTempo) : t.creditsView = s.creditsView :=
  (congrArg State.creditsView h : t.outsideTempo.creditsView = s.outsideTempo.creditsView)
theorem creditsView_of_outsideHolds (h : t.outsideHolds = s.outsideHolds) : t.creditsView = s.creditsView :=
  (congrArg State.creditsView h : t.outsideHolds.creditsView = s.outsideHolds.creditsView)
theorem creditsView_of_outsideScenes (h : t.outsideScenes = s.outsideScenes) : t.creditsView = s.creditsView :=
  (congrArg State.creditsView h : t.outsideScenes.creditsView = s.outsideScenes.creditsView)

theorem State.EasesCredits.of_view (h : t.creditsView = s.creditsView) : s.EasesCredits t := fun p => by
  cases p with
  | a => exact (congrArg Prod.fst h).le
  | b => exact (congrArg Prod.snd h).le

theorem State.EasesCredits.refl (s : State) : s.EasesCredits s := fun _ => le_rfl

theorem State.EasesCredits.trans (h : s.EasesCredits t) (k : t.EasesCredits u) : s.EasesCredits u :=
  fun p => (k p).trans (h p)

/-- A change outside the view after an operation. -/
theorem State.EasesCredits.before (h : s.EasesCredits t) (k : u.creditsView = t.creditsView) : s.EasesCredits u := h.trans (of_view k)

theorem State.EasesCredits.foldl {α : Type} {f : State → α → State} (h : ∀ (t : State) (a : α), t.EasesCredits (f t a))
    (ls : List α) (s : State) : s.EasesCredits (ls.foldl f s) :=
  foldl_holds (fun t => s.EasesCredits t) f (fun t a ht => ht.trans (h t a)) ls s (.refl s)

theorem State.EasesCredits.of_surroundings (h : t.surroundings = s.surroundings) : s.EasesCredits t :=
  .of_view (creditsView_of_surroundings h)
theorem State.EasesCredits.of_outsideTempo (h : t.outsideTempo = s.outsideTempo) : s.EasesCredits t :=
  .of_view (creditsView_of_outsideTempo h)
theorem State.EasesCredits.of_outsideHolds (h : t.outsideHolds = s.outsideHolds) : s.EasesCredits t :=
  .of_view (creditsView_of_outsideHolds h)
theorem State.EasesCredits.of_outsideScenes (h : t.outsideScenes = s.outsideScenes) : s.EasesCredits t :=
  .of_view (creditsView_of_outsideScenes h)

/-- Credits within 8 stay so. -/
theorem State.EasesCredits.keeps (h : s.EasesCredits t) (hs : s.creditsOk) : t.creditsOk := fun p => (h p).trans (hs p)

end

/-! #### Ports -/

section
variable (s : State) (p : Port) (v : PortState)

/-- A port's record replaced by one that takes no credit more. -/
theorem State.setPort_easesCredits {v : PortState} (h : v.creditsInUse ≤ (s.port p).creditsInUse) :
    s.EasesCredits (s.setPort p v) := fun q => by
  rw [State.setPort_port]; split_ifs with hq
  · subst hq; exact h
  · exact le_rfl

/-- A port's record replaced by one within its credits. -/
theorem State.setPort_creditsOk {v : PortState} (hs : s.creditsOk) (h : v.creditsInUse ≤ 8) : (s.setPort p v).creditsOk := fun q => by
  rw [State.setPort_port]; split_ifs
  · exact h
  · exact hs q

/-- A result placed takes a credit that is free. -/
theorem State.placeResult_creditsOk (r : Result) (hs : s.creditsOk) (h : (s.port p).creditsInUse < 8) :
    (s.placeResult p r).creditsOk := by
  refine s.setPort_creditsOk p hs ?_
  unfold PortState.creditsInUse at h ⊢
  rw [List.length_append]; exact h

theorem State.raise_easesCredits (f : Flag) : s.EasesCredits (s.raise p f) := s.setPort_easesCredits p le_rfl

/-- R167: a port whose link is neither ADDRESSED nor RECEIVING reserves no credit. -/
theorem PortState.creditsInUse_of_not_writing {v : PortState} (h : v.writing = false) :
    v.creditsInUse = v.commands.length + v.results.length := by
  have reserved : v.reserved = 0 := by
    obtain ⟨notAddressed, notReceiving⟩ := v.writing_eq_false_iff.mp h
    unfold PortState.reserved; split
    · exact absurd ‹_› notAddressed
    · exact absurd ‹_› notReceiving
    · rfl
  rw [PortState.creditsInUse, reserved, Nat.zero_add]

/-- R167: a write in progress reserves one. -/
theorem PortState.creditsInUse_of_writing {v : PortState} (h : v.writing = true) :
    v.creditsInUse = v.commands.length + v.results.length + 1 := by
  have reserved : v.reserved = 1 := by
    unfold PortState.reserved
    rcases v.writing_iff.mp h with hk | hk <;> rw [hk]
  rw [PortState.creditsInUse, reserved]; omega

/-- The queues alone hold no more credits than the port. -/
theorem PortState.queued_le_creditsInUse : v.commands.length + v.results.length ≤ v.creditsInUse := by
  unfold PortState.creditsInUse; omega

/-- A link that reserves nothing takes no credit. -/
theorem PortState.withLink_creditsInUse_le {k : PortLink} (h : ({ v with link := k } : PortState).writing = false) :
    ({ v with link := k } : PortState).creditsInUse ≤ v.creditsInUse :=
  (PortState.creditsInUse_of_not_writing h).trans_le v.queued_le_creditsInUse

theorem PortState.atRest_creditsInUse : v.atRest.creditsInUse = v.commands.length + v.results.length :=
  PortState.creditsInUse_of_not_writing rfl

/-- R166: the reserved credit passes to the result or the command that the message becomes. -/
theorem PortState.endMessage_creditsInUse {v : PortState} (h : v.writing = true) : v.endMessage.creditsInUse = v.creditsInUse := by
  rw [PortState.creditsInUse_of_not_writing v.endMessage_not_writing, PortState.creditsInUse_of_writing h]
  cases hf : v.framingFault with
  | some st => rw [PortState.endMessage_of_fault hf, List.length_append]; rfl
  | none =>
    rw [PortState.endMessage_of_sound hf, List.length_append, List.length_singleton]
    exact Nat.add_right_comm ..

theorem PortState.endTransaction_creditsInUse_le : v.endTransaction.creditsInUse ≤ v.creditsInUse := by
  cases h : v.writing with
  | true => rw [PortState.endTransaction_of_writing h, PortState.endMessage_creditsInUse h]
  | false => rw [PortState.endTransaction_of_not_writing h]; exact v.atRest_creditsInUse.trans_le v.queued_le_creditsInUse

theorem PortState.takeBytes_creditsInUse (bytes : List Byte) {v : PortState} (h : v.writing = true) :
    (v.takeBytes bytes).creditsInUse = v.creditsInUse := by
  obtain ⟨commands, results⟩ := Prod.mk.inj (v.takeBytes_queues bytes)
  rw [PortState.creditsInUse_of_writing h, PortState.creditsInUse_of_writing (PortState.takeBytes_writing bytes h), commands, results]

/-- R171: the reserved credit passes to the result that a timeout makes of a write. -/
theorem PortState.aborted_creditsInUse {v : PortState} (h : v.writing = true) (r : Result) :
    ({ v.atRest with results := v.results ++ [r] } : PortState).creditsInUse = v.creditsInUse := by
  rw [PortState.creditsInUse_of_not_writing rfl, PortState.creditsInUse_of_writing h, List.length_append]; rfl

/-- R169: a byte clocked in a read frees a credit or none. -/
theorem PortState.sendByte_creditsInUse_le (acked : Bool) : (v.sendByte acked).creditsInUse ≤ v.creditsInUse := by
  have sent (k : Sending) (bytes : List Byte) (rs : List Result) (h : rs.length ≤ v.results.length) :
      ({ v with link := .sending k, sent := bytes, results := rs } : PortState).creditsInUse ≤ v.creditsInUse := by
    rw [PortState.creditsInUse_of_not_writing rfl]
    exact (Nat.add_le_add_left h _).trans v.queued_le_creditsInUse
  unfold PortState.sendByte; split
  · split_ifs
    · exact sent _ _ _ (by rw [List.length_tail]; exact Nat.sub_le ..)
    · exact sent _ _ _ le_rfl
  · exact sent _ _ _ le_rfl
  · exact sent _ _ _ le_rfl
  · exact sent _ _ _ le_rfl
  · exact le_rfl

theorem PortState.sendBytes_creditsInUse_le (acks : List Bool) : (v.sendBytes acks).creditsInUse ≤ v.creditsInUse :=
  foldl_holds (fun w => w.creditsInUse ≤ v.creditsInUse) PortState.sendByte
    (fun w acked h => (w.sendByte_creditsInUse_le acked).trans h) acks v le_rfl

/-- R175: a PORT RESET empties the queues, and leaves a write its reserved credit. -/
theorem PortState.portReset_creditsInUse_le : v.portReset.creditsInUse ≤ v.creditsInUse := by
  have reserved : v.portReset.reserved = v.reserved := by
    show ({ v with link := v.link.voided } : PortState).reserved = v.reserved
    unfold PortState.reserved; dsimp only
    cases v.link with
    | sending k => cases k <;> rfl
    | _ => rfl
  show v.portReset.reserved + 0 + 0 ≤ v.creditsInUse
  rw [reserved]; unfold PortState.creditsInUse; omega

end

/-! #### The address byte (R163) -/

section
variable {s : State} {p : Port}

/-- R163: a write is acknowledged while a credit is free, which it reserves. -/
theorem PortState.addressed_creditsInUse_le {v : PortState} (h : 0 < v.creditsFree) (mark : Bool) :
    (v.addressed mark).creditsInUse ≤ 8 := by
  rw [PortState.creditsInUse_of_writing rfl]
  have queued := v.queued_le_creditsInUse
  unfold PortState.creditsFree at h
  show v.commands.length + v.results.length + 1 ≤ 8
  omega

theorem State.judgeAddress_creditsOk (hs : s.creditsOk) (a : BitVec 7) (d : Direction) : (s.judgeAddress p a d).creditsOk := by
  have linked (k : PortLink) (sent : List Byte) (h : ({ s.port p with link := k, sent := sent } : PortState).writing = false) :
      s.EasesCredits (s.setPort p { s.port p with link := k, sent := sent }) :=
    s.setPort_easesCredits p ((PortState.creditsInUse_of_not_writing h).trans_le (s.port p).queued_le_creditsInUse)
  have ignored : s.EasesCredits (s.setPort p { s.port p with link := .ignoring }) := linked .ignoring (s.port p).sent rfl
  unfold State.judgeAddress; cases d with
  | write =>
    dsimp only; split_ifs with own free call free
    · exact s.setPort_creditsOk p hs (PortState.addressed_creditsInUse_le free false)
    · exact ignored.keeps hs
    · exact s.setPort_creditsOk p hs (PortState.addressed_creditsInUse_le free true)
    · exact (ignored.trans (State.raise_easesCredits _ p _)).keeps hs
    · exact ignored.keeps hs
  | read =>
    dsimp only; split_ifs
    · exact (linked _ [] rfl).keeps hs
    · exact ignored.keeps hs

end

end Sys2Proof.Machine

namespace Sys2Proof.Machine

/-! ### Decisions take no credit (R145, R167) -/

/-! #### Decisions on slots -/

section
variable {s : State} (p : Port)

theorem State.EasesCredits.renewed {v : Verdict} (h : s.EasesCredits v.state) (n : SlotId) : s.EasesCredits (v.renewed p n).state := by
  unfold Verdict.renewed; split_ifs
  · exact h.trans (.of_outsideHolds (State.renew_outsideHolds _ n p))
  · exact h

variable (s) (b : List Byte)

theorem assignDecision_easesCredits : s.EasesCredits (assignDecision p b s).state := by
  unfold assignDecision; split
  · split_ifs
    · exact .refl s
    · split
      · split_ifs
        · exact .refl s
        · exact State.EasesCredits.renewed p (.of_surroundings (s.assignByState_losesMorphs _ _).surroundings) _
      · exact .refl s
  · exact .refl s

theorem clearDecision_easesCredits : s.EasesCredits (clearDecision p b s).state := by
  unfold clearDecision; split
  · split_ifs
    · exact .refl s
    · split
      · split_ifs
        · exact .refl s
        · exact State.EasesCredits.renewed p (.of_surroundings (s.clearByState_losesMorphs _).surroundings) _
      · exact .refl s
  · exact .refl s

theorem paramsDecision_easesCredits : s.EasesCredits (paramsDecision p b s).state := by
  unfold paramsDecision; split
  · split
    · split_ifs
      · exact .refl s
      · exact State.EasesCredits.renewed p (.of_surroundings (s.paramsByState_surroundings _ _)) _
    · exact .refl s
  · exact .refl s

/-- MUTE and UNMUTE, whose changes leave the surroundings alone. -/
theorem muteChecks_easesCredits {f : State → SlotId → State} (hf : ∀ (t : State) n, (f t n).surroundings = t.surroundings) :
    s.EasesCredits (muteChecks p b f s).state := by
  unfold muteChecks; split
  · split
    · split_ifs
      · exact .refl s
      · exact State.EasesCredits.renewed p (.of_surroundings (hf s _)) _
      · exact .refl s
    · exact .refl s
  · exact .refl s

theorem routeDecision_easesCredits : s.EasesCredits (routeDecision p b s).state := by
  unfold routeDecision; split
  · split
    · split_ifs
      · exact .refl s
      · exact .refl s
      · exact State.EasesCredits.renewed p (.of_surroundings (s.routeSlot_surroundings _ _ _)) _
    · exact .refl s
  · exact .refl s

theorem readSlotDecision_easesCredits : s.EasesCredits (readSlotDecision p b s).state := by
  unfold readSlotDecision State.clearClip; split
  · split
    · dsimp only; split_ifs <;> exact .of_view rfl
    · exact .refl s
  · exact .refl s

/-! #### The pool report and the holds -/

theorem readPoolDecision_easesCredits : s.EasesCredits (readPoolDecision b s).state := by
  unfold readPoolDecision; split <;> exact .refl s

theorem takeHoldDecision_easesCredits : s.EasesCredits (takeHoldDecision p b s).state := by
  unfold takeHoldDecision; split
  · dsimp only; split_ifs
    · exact .refl s
    · exact .of_outsideHolds (s.takeHolds_outsideHolds p _)
  · exact .refl s

theorem releaseHoldDecision_easesCredits : s.EasesCredits (releaseHoldDecision p b s).state := by
  unfold releaseHoldDecision; split
  · exact .of_outsideHolds (s.releaseHolds_outsideHolds p _)
  · exact .refl s

theorem setLeaseDecision_easesCredits : s.EasesCredits (setLeaseDecision p b s).state := by
  unfold setLeaseDecision; split
  · split
    · exact s.setPort_easesCredits p le_rfl
    · exact .refl s
  · exact .refl s

/-! #### Scenes, recalls and morphs -/

theorem storeSceneDecision_easesCredits : s.EasesCredits (storeSceneDecision b s).state := by
  unfold storeSceneDecision; split
  · split
    · dsimp only; split_ifs <;> exact .of_view rfl
    · exact .refl s
  · exact .refl s

theorem writeSceneEntryDecision_easesCredits : s.EasesCredits (writeSceneEntryDecision b s).state := by
  unfold writeSceneEntryDecision; split
  · split_ifs
    · split
      · split
        · exact .refl s
        · split_ifs
          · exact .of_outsideScenes (s.verifyScene_outsideScenes _)
          · exact .of_view rfl
        · exact .of_view rfl
      · exact .refl s
    · exact .refl s
  · exact .refl s

theorem eraseSceneDecision_easesCredits : s.EasesCredits (eraseSceneDecision b s).state := by
  unfold eraseSceneDecision; split
  · split
    · exact .of_view rfl
    · exact .refl s
  · exact .refl s

theorem readSceneDecision_easesCredits : s.EasesCredits (readSceneDecision b s).state := by
  unfold readSceneDecision; split
  · split
    · split
      · exact .refl s
      · split_ifs
        · exact .of_outsideScenes (s.verifyScene_outsideScenes _)
        · exact .refl s
      · exact .refl s
    · exact .refl s
  · exact .refl s

/-- R117, R139: an entry of a recall. -/
theorem State.recallEntry_easesCredits (g : Bool) (k : Nat) (e : SceneEntry) : s.EasesCredits (State.recallEntry p g k s e) := by
  have entry : s.EasesCredits (s.recallByState e k).1 := .of_surroundings (s.recallByState_surroundings e k)
  have renewed := entry.trans (.of_outsideHolds (State.renew_outsideHolds _ e.slot p))
  unfold State.recallEntry; dsimp only; split_ifs
  · exact .of_view rfl
  · exact entry.before rfl
  · exact renewed.before rfl
  · exact entry.before rfl
  · exact renewed.before rfl

theorem State.carryOutRecall_easesCredits (g : Bool) (k : SceneId) (time : Option Nat) :
    s.EasesCredits (s.carryOutRecall p g k time).state := by
  have opened : s.EasesCredits (s.abortRecall.openRecall k (recallOrigin p g)) := .of_surroundings (by simp)
  have offered := opened.trans (.of_outsideTempo (State.offerTempo_outsideTempo _ s.scenes[k].tempo))
  have settled := offered.trans
    (.foldl (fun t e => t.recallEntry_easesCredits p g (s.rate.blocks (time.getD s.scenes[k].morphTime)) e) s.scenes[k].entries _)
  unfold State.carryOutRecall; dsimp only; split_ifs <;> exact settled.before rfl

theorem recallDecision_easesCredits (g : Bool) : s.EasesCredits (recallDecision p g b s).state := by
  unfold recallDecision; split
  · split_ifs
    · exact .refl s
    · split
      · split
        · exact .refl s
        · split_ifs
          · exact .of_outsideScenes (s.verifyScene_outsideScenes _)
          · exact s.carryOutRecall_easesCredits p g _ _
        · exact .refl s
      · exact .refl s
  · exact .refl s

theorem abortMorphDecision_easesCredits : s.EasesCredits (abortMorphDecision p b s).state := by
  unfold abortMorphDecision; split
  · dsimp only; split_ifs
    · exact .refl s
    · exact (State.EasesCredits.of_surroundings (s.abortMorphs_surroundings _)).trans
        (.of_outsideHolds (State.renewAll_outsideHolds _ p _))
  · exact .refl s

theorem readRecallDecision_easesCredits : s.EasesCredits (readRecallDecision b s).state := by
  unfold readRecallDecision; split <;> exact .refl s

/-! #### Tempo and modulation -/

theorem setTempoDecision_easesCredits : s.EasesCredits (setTempoDecision b s).state := by
  unfold setTempoDecision; split
  · split
    · exact .of_outsideTempo (s.writeControl_outsideTempo _)
    · exact .refl s
  · exact .refl s

theorem setTempoSourceDecision_easesCredits : s.EasesCredits (setTempoSourceDecision b s).state := by
  unfold setTempoSourceDecision; split
  · split
    · exact .of_outsideTempo ((State.reevaluate_outsideTempo _).trans rfl)
    · exact .refl s
  · exact .refl s

theorem tapDecision_easesCredits (time : Nat) : s.EasesCredits (tapDecision b time s).state := by
  unfold tapDecision; split
  · exact .of_outsideTempo (s.enterTap_outsideTempo time)
  · exact .refl s

theorem readTempoDecision_easesCredits : s.EasesCredits (readTempoDecision b s).state := by
  unfold readTempoDecision; split <;> exact .refl s

theorem setTapOptionsDecision_easesCredits : s.EasesCredits (setTapOptionsDecision b s).state := by
  unfold setTapOptionsDecision; split
  · split
    · exact .of_view rfl
    · exact .refl s
  · exact .refl s

theorem setLfoDecision_easesCredits : s.EasesCredits (setLfoDecision p b s).state := by
  unfold setLfoDecision; split
  · split
    · split_ifs <;> exact .of_view rfl
    · exact .refl s
  · exact .refl s

theorem seedRandomDecision_easesCredits : s.EasesCredits (seedRandomDecision b s).state := by
  unfold seedRandomDecision; split
  · split_ifs <;> exact .of_view rfl
  · exact .refl s

theorem setRandomModeDecision_easesCredits : s.EasesCredits (setRandomModeDecision b s).state := by
  unfold setRandomModeDecision; split
  · split
    · exact .of_view rfl
    · exact .refl s
  · exact .refl s

/-! #### The port commands, QUIET and WAKE -/

theorem readEventsDecision_easesCredits : s.EasesCredits (readEventsDecision p b s).state := by
  unfold readEventsDecision; split
  · exact s.setPort_easesCredits p le_rfl
  · exact .refl s

theorem setEventMaskDecision_easesCredits : s.EasesCredits (setEventMaskDecision p b s).state := by
  unfold setEventMaskDecision; split
  · split
    · exact s.setPort_easesCredits p le_rfl
    · exact .refl s
  · exact .refl s

theorem portResetDecision_easesCredits : s.EasesCredits (portResetDecision p b s).state := by
  unfold portResetDecision; split
  · have released : s.EasesCredits (s.releaseHolds p allSlots) := .of_outsideHolds (s.releaseHolds_outsideHolds p allSlots)
    refine released.trans (State.setPort_easesCredits _ p ?_)
    rw [State.releaseHolds_port]; exact (s.port p).portReset_creditsInUse_le
  · exact .refl s

theorem quietDecision_easesCredits : s.EasesCredits (quietDecision b s).state := by
  unfold quietDecision; split
  · split_ifs
    · exact .refl s
    · rw [State.enterQuiet_eq, State.startQuietFade_frame]
      exact .of_view (creditsView_of_surroundings s.abortRecall_surroundings :)
  · exact .refl s

theorem State.wakeUp_creditsView : s.wakeUp.creditsView = s.creditsView := by
  have swept : s.storeSweep.creditsView = s.creditsView := creditsView_of_outsideScenes s.storeSweep_outsideScenes
  have ended : s.storeSweep.endQuietPeriod.creditsView = s.storeSweep.creditsView :=
    (creditsView_of_surroundings (State.forceFadeEnds_surroundings _) :)
  have rezeroed (t : State) : t.rezeroSlots.creditsView = t.creditsView :=
    foldl_keeps State.creditsView State.rezeroSlot (fun u n => creditsView_of_surroundings (u.rezeroSlot_surroundings n)) allSlots t
  have restarted (t : State) : t.restartSound.creditsView = t.creditsView :=
    (congrArg State.creditsView t.restartSound_spec.1).trans rfl
  exact (restarted _).trans ((rezeroed _).trans (ended.trans swept))

theorem wakeDecision_easesCredits : s.EasesCredits (wakeDecision b s).state := by
  unfold wakeDecision; split
  · split_ifs
    · exact .of_view s.wakeUp_creditsView
    · exact .refl s
  · exact .refl s

end

end Sys2Proof.Machine

namespace Sys2Proof.Machine

/-! ### The rows and the credits (R167) -/

/-- From the first state to the second the credits in use stay within 8. -/
def State.KeepsCredits (s t : State) : Prop := s.creditsOk → t.creditsOk

section
variable {s t : State}

theorem State.KeepsCredits.of_eases (h : s.EasesCredits t) : s.KeepsCredits t := h.keeps
theorem State.KeepsCredits.of_view (h : t.creditsView = s.creditsView) : s.KeepsCredits t := (State.EasesCredits.of_view h).keeps
theorem State.KeepsCredits.refl (s : State) : s.KeepsCredits s := id

/-- A change outside the view before an operation. -/
theorem State.KeepsCredits.after {u : State} (k : t.KeepsCredits u) (h : t.creditsView = s.creditsView) : s.KeepsCredits u :=
  k ∘ of_view h

/-! #### Commands -/

/-- R143: the arbiter's choice stands at the head of its port's queue. -/
theorem State.arbiterChoice_head {p : Port} {c : Command} (h : s.arbiterChoice = some (p, c)) : (s.port p).commands.head? = some c := by
  unfold State.arbiterChoice at h; split at h
  · cases h
  · obtain ⟨d, hd, pair⟩ := Option.map_eq_some_iff.mp h
    cases pair; exact hd

theorem State.serve_port (p : Port) : (s.serve p).port p = { s.port p with commands := (s.port p).commands.tail } := by
  cases p <;> rfl

/-- R143: a command that leaves its queue leaves its credit. -/
theorem State.serve_credits {p : Port} {c : Command} (h : (s.port p).commands.head? = some c) :
    ((s.serve p).port p).creditsInUse + 1 = (s.port p).creditsInUse := by
  obtain ⟨cs, hcs⟩ := List.head?_eq_some_iff.mp h
  unfold PortState.creditsInUse
  rw [State.serve_port, hcs]
  exact (Nat.add_right_comm ..).symm

/-- R143: the arbiter leaves the port of the command it takes a credit free: the command's own, or the one that its transaction asks for
(log 1). -/
theorem State.takeCommand_credits {p : Port} {c : Command} (h : s.takeCommand p c = some t) (hs : s.creditsOk) :
    t.creditsOk ∧ (t.port p).creditsInUse < 8 := by
  rcases State.takeCommand_spec h with ⟨_, _, ⟨rfl, choice⟩ | ⟨rfl, _, queued⟩⟩
  · have left := State.serve_credits (State.arbiterChoice_head choice)
    have room : ((s.serve p).port p).creditsInUse < 8 := Nat.lt_of_succ_le (left.trans_le (hs p))
    have shorter : s.EasesCredits (s.serve p) := by
      refine .before (s.setPort_easesCredits p ?_) rfl
      rw [← State.serve_port]; exact Nat.le_of_succ_le left.le
    exact ⟨shorter.keeps hs, room⟩
  · obtain ⟨_, free, _⟩ := State.wouldQueue_iff.mp queued
    have kept : s.EasesCredits { s with lastServed := p } := .of_view rfl
    exact ⟨kept.keeps hs, (kept p).trans_lt free⟩

/-- A decision that takes no credit: its result takes the one left free. -/
theorem runCommand_keepsCredits {p : Port} {c : Command} {d : State → Verdict} (hd : ∀ u : State, u.EasesCredits (d u).state)
    (he : runCommand p c d s = .next t) : s.KeepsCredits t := by
  rcases runCommand_spec he with ⟨_, rfl⟩ | ⟨u, hu, rfl⟩
  · exact .refl _
  · intro hs
    obtain ⟨taken, room⟩ := State.takeCommand_credits hu hs
    exact State.placeResult_creditsOk _ p _ ((hd u).keeps taken) ((hd u p).trans_lt room)

/-- R162, R177: at the entry to STARTING no credit is in use. -/
theorem State.enterStarting_creditsOk (s : State) (k : StartKind) (v : Vector Scene 32) : (s.enterStarting k v).creditsOk := by
  intro q
  have none : ((s.enterStarting k v).port q).creditsInUse = 0 := by cases q <;> rfl
  rw [none]; exact Nat.zero_le 8

theorem execRestart_keepsCredits {p : Port} {tag : Byte} {b : List Byte} (he : execRestart p tag b s = .next t) :
    s.KeepsCredits t := by
  unfold execRestart at he; split at he
  · cases he; exact .refl s
  · rename_i u hu
    intro hs
    obtain ⟨taken, room⟩ := State.takeCommand_credits hu hs
    split_ifs at he <;> cases he
    · exact u.enterStarting_creditsOk _ _
    · exact u.placeResult_creditsOk p _ taken room

/-! #### The rows of the bus -/

theorem execI2cAddress_keepsCredits {p : Port} {a : BitVec 7} {d : Direction} (he : execI2cAddress p a d s = .next t) :
    s.KeepsCredits t := by
  unfold execI2cAddress at he; split_ifs at he <;> cases he
  · exact .of_eases (s.setPort_easesCredits p (PortState.withLink_creditsInUse_le _ rfl))
  · intro hs
    have ended : s.EasesCredits (s.setPort p (s.port p).endTransaction) :=
      s.setPort_easesCredits p (s.port p).endTransaction_creditsInUse_le
    exact State.judgeAddress_creditsOk (ended.keeps hs) a d

theorem execMessageEnd_easesCredits {p : Port} {bs : List Byte} (he : execMessageEnd p bs s = .next t) : s.EasesCredits t := by
  unfold execMessageEnd at he; split_ifs at he with writing <;> cases he
  · refine s.setPort_easesCredits p ?_
    rw [PortState.endMessage_creditsInUse (PortState.takeBytes_writing bs writing), PortState.takeBytes_creditsInUse bs writing]
  · exact .refl s

theorem execResultSent_easesCredits {r : LastByte} (he : execResultSent r s = .next t) : s.EasesCredits t := by
  unfold execResultSent at he; split at he <;> cases he
  · refine s.setPort_easesCredits r.port ?_
    rw [PortState.creditsInUse_of_not_writing rfl]
    refine le_trans (Nat.add_le_add_left ?_ _) (s.port r.port).queued_le_creditsInUse
    exact (List.length_tail (l := (s.port r.port).results)).trans_le (Nat.sub_le ..)
  · exact .refl s

theorem execReadEnd_easesCredits {r : ReadClocks} (he : execReadEnd r s = .next t) : s.EasesCredits t := by
  unfold execReadEnd at he; split_ifs at he <;> cases he
  · exact s.setPort_easesCredits r.port
      ((PortState.withLink_creditsInUse_le _ rfl).trans ((s.port r.port).sendBytes_creditsInUse_le r.acks))
  · exact .refl s

theorem execBusStop_easesCredits {r : ReadClocks} (he : execBusStop r s = .next t) : s.EasesCredits t := by
  cases he
  exact s.setPort_easesCredits r.port
    ((PortState.endTransaction_creditsInUse_le _).trans ((s.port r.port).sendBytes_creditsInUse_le r.acks))

theorem execBusTimeout_easesCredits {p : Port} {bs : List Byte} (he : execBusTimeout p bs s = .next t) : s.EasesCredits t := by
  unfold execBusTimeout at he; dsimp only at he; split_ifs at he with starting writing <;> cases he
  · exact .refl s
  · refine s.setPort_easesCredits p ?_
    rw [PortState.aborted_creditsInUse (PortState.takeBytes_writing bs writing), PortState.takeBytes_creditsInUse bs writing]
  · exact s.setPort_easesCredits p (PortState.withLink_creditsInUse_le _ rfl)

/-! #### The rows of the Voice Engine, the Audio Port and the pool -/

theorem State.blockEnd_creditsView (s : State) (sends : List (Vector Sample 8)) : (s.blockEnd sends).creditsView = s.creditsView := by
  have handed (t : State) : t.handOff.creditsView = t.creditsView := (creditsView_of_surroundings t.handOff_surroundings :)
  have processed (t : State) : (t.soundingBlockEnd sends).creditsView = t.handOff.creditsView :=
    ((t.soundingBlockEnd_keeps sends State.creditsView (fun _ => rfl) (fun _ => rfl) (fun _ => rfl)).trans
      (State.finishFades_keeps _ State.creditsView (fun _ _ _ => rfl) (fun _ _ => rfl) (fun _ _ => rfl))).trans
      (State.takeUp_keeps _ State.creditsView (fun _ _ _ => rfl) (fun _ _ _ => rfl) (fun _ => rfl))
  unfold State.blockEnd; dsimp only; split_ifs
  · rfl
  · exact (processed _).trans (handed _)

theorem execFrameSync_creditsView (he : execFrameSync s = .next t) : t.creditsView = s.creditsView := by
  unfold execFrameSync at he; split_ifs at he
  · cases he; rfl
  · split at he <;> cases he <;> rfl

theorem execFrameTaken_creditsView {w : Vector AudioWord 16} (he : execFrameTaken w s = .next t) : t.creditsView = s.creditsView := by
  unfold execFrameTaken at he; dsimp only at he; split_ifs at he <;> cases he
  · rfl
  · exact State.blockEnd_creditsView _ _
  · rfl

theorem execClockLost_creditsView (he : execClockLost s = .next t) : t.creditsView = s.creditsView := by
  have drop : s.dropModulation.creditsView = s.creditsView := foldl_keeps State.creditsView State.dropModulationOf (fun _ _ => rfl) _ _
  unfold execClockLost at he; dsimp only at he; split_ifs at he <;> cases he
  · exact drop
  · exact drop
  · rfl

theorem execFadeEnd_creditsView {n : SlotId} (he : execFadeEnd n s = .next t) : t.creditsView = s.creditsView := by
  unfold execFadeEnd at he; dsimp only at he; split_ifs at he <;> cases he
  · exact (creditsView_of_surroundings (State.fadeEnded_surroundings _ n) :)
  · rfl
  · rfl

theorem execRegionLive_creditsView {e : EntryId} (he : execRegionLive e s = .next t) : t.creditsView = s.creditsView := by
  have acted (q : Pool) (n : SlotId) (l : LineId) (ln : Line) : ((s.setPool q).takeLiveReport n l ln).creditsView = s.creditsView :=
    (creditsView_of_surroundings (State.takeLiveReport_surroundings _ n l ln) :)
  unfold execRegionLive at he; dsimp only at he
  split_ifs at he
  · split at he
    · split at he
      · cases he; split_ifs
        · exact acted _ _ _ _
        · rfl
      · cases he; rfl
    · cases he; rfl
  · cases he; rfl

theorem execExtensionComplete_creditsView (he : execExtensionComplete s = .next t) : t.creditsView = s.creditsView := by
  unfold execExtensionComplete at he; split at he <;> cases he
  · unfold State.extensionEnded; split
    · exact (creditsView_of_surroundings (State.growthEnd_surroundings _ _ _) :)
    · rfl
  · rfl

theorem execSlotPropagation_creditsView (he : execSlotPropagation s = .next t) : t.creditsView = s.creditsView := by
  unfold execSlotPropagation at he; split at he <;> cases he
  · exact foldl_keeps State.creditsView _ (fun t n => creditsView_of_surroundings (t.propagateTo_surroundings n _)) _ _
  · rfl

/-! #### The rows of the Tempo Unit and of the supply -/

theorem execTapRelease_creditsView {time : Nat} (he : execTapRelease time s = .next t) : t.creditsView = s.creditsView := by
  unfold execTapRelease at he; dsimp only at he; split_ifs at he <;> cases he
  · rfl
  · exact (creditsView_of_outsideTempo (State.enterTap_outsideTempo _ _) :)
  · rfl
  · rfl

theorem State.linkBytes_creditsView (s : State) (bytes : List LinkByte) (time : Nat) :
    (s.linkBytes bytes time).creditsView = s.creditsView := creditsView_of_outsideTempo (s.linkBytes_outsideTempo bytes time)

theorem State.fadeSupply_creditsView (s : State) (g : Rat) (k : Nat) : (s.fadeSupply g k).creditsView = s.creditsView := by
  unfold State.fadeSupply; split_ifs <;> rfl

/-- R178, R181: the start-up, whatever the pins and the supply. -/
theorem State.startUp_keepsCredits (s : State) (pins : StartPins) (mv : Nat) :
    s.KeepsCredits ((s.sweptUp.pinsSampled pins).firstJudgement mv) := by
  have swept : s.sweptUp.creditsView = s.creditsView := by
    unfold State.sweptUp; dsimp only; split_ifs
    · exact (creditsView_of_outsideScenes (State.storeSweep_outsideScenes _) :)
    · rfl
  have sampled : (s.sweptUp.pinsSampled pins).creditsView = s.creditsView := swept
  unfold State.firstJudgement; split_ifs
  · exact fun _ => State.enterStarting_creditsOk _ _ _
  · exact .of_view ((State.fadeSupply_creditsView _ _ _).trans sampled)
  · exact .of_view sampled

end

/-! #### Every command -/

/-- R167: every command keeps the credits in use of each port within 8. -/
theorem exec_keepsCredits {i : Instr} {s t : State} (he : exec i s = .next t) : s.KeepsCredits t := by
  cases i <;> unfold exec at he <;> dsimp only at he
  case assign p tag b => exact runCommand_keepsCredits (assignDecision_easesCredits · p b) he
  case clear p tag b => exact runCommand_keepsCredits (clearDecision_easesCredits · p b) he
  case params p tag b => exact runCommand_keepsCredits (paramsDecision_easesCredits · p b) he
  case mute p tag b => exact runCommand_keepsCredits (fun u => muteChecks_easesCredits u p b State.muteSlot_surroundings) he
  case unmute p tag b => exact runCommand_keepsCredits (fun u => muteChecks_easesCredits u p b State.unmuteSlot_surroundings) he
  case route p tag b => exact runCommand_keepsCredits (routeDecision_easesCredits · p b) he
  case readSlot p tag b => exact runCommand_keepsCredits (readSlotDecision_easesCredits · p b) he
  case readPool p tag b => exact runCommand_keepsCredits (readPoolDecision_easesCredits · b) he
  case takeHold p tag b => exact runCommand_keepsCredits (takeHoldDecision_easesCredits · p b) he
  case releaseHold p tag b => exact runCommand_keepsCredits (releaseHoldDecision_easesCredits · p b) he
  case setLease p tag b => exact runCommand_keepsCredits (setLeaseDecision_easesCredits · p b) he
  case storeScene p tag b => exact runCommand_keepsCredits (storeSceneDecision_easesCredits · b) he
  case writeSceneEntry p tag b => exact runCommand_keepsCredits (writeSceneEntryDecision_easesCredits · b) he
  case eraseScene p tag b => exact runCommand_keepsCredits (eraseSceneDecision_easesCredits · b) he
  case readScene p tag b => exact runCommand_keepsCredits (readSceneDecision_easesCredits · b) he
  case recallScene p tag g b => exact runCommand_keepsCredits (recallDecision_easesCredits · p b g) he
  case abortMorph p tag b => exact runCommand_keepsCredits (abortMorphDecision_easesCredits · p b) he
  case readRecall p tag b => exact runCommand_keepsCredits (readRecallDecision_easesCredits · b) he
  case setTempo p tag b => exact runCommand_keepsCredits (setTempoDecision_easesCredits · b) he
  case setTempoSource p tag b => exact runCommand_keepsCredits (setTempoSourceDecision_easesCredits · b) he
  case tap p tag g b v => exact runCommand_keepsCredits (tapDecision_easesCredits · b v) he
  case readTempo p tag b => exact runCommand_keepsCredits (readTempoDecision_easesCredits · b) he
  case setTapOptions p tag b => exact runCommand_keepsCredits (setTapOptionsDecision_easesCredits · b) he
  case setLfo p tag b => exact runCommand_keepsCredits (setLfoDecision_easesCredits · p b) he
  case seedRandom p tag b => exact runCommand_keepsCredits (seedRandomDecision_easesCredits · b) he
  case setRandomMode p tag b => exact runCommand_keepsCredits (setRandomModeDecision_easesCredits · b) he
  case readEvents p tag b => exact runCommand_keepsCredits (readEventsDecision_easesCredits · p b) he
  case setEventMask p tag b => exact runCommand_keepsCredits (setEventMaskDecision_easesCredits · p b) he
  case portReset p tag b => exact runCommand_keepsCredits (portResetDecision_easesCredits · p b) he
  case quiet p tag b => exact runCommand_keepsCredits (quietDecision_easesCredits · b) he
  case wake p tag b => exact runCommand_keepsCredits (wakeDecision_easesCredits · b) he
  case restart p tag b => exact execRestart_keepsCredits he
  case unknownCommand p tag c b =>
    unfold execUnknownCommand at he; split_ifs at he
    · cases he; exact .refl s
    · exact runCommand_keepsCredits .refl he
  case i2cAddress p a d => exact execI2cAddress_keepsCredits he
  case messageEnd p bs => exact .of_eases (execMessageEnd_easesCredits he)
  case resultSent r => exact .of_eases (execResultSent_easesCredits he)
  case readEnd r => exact .of_eases (execReadEnd_easesCredits he)
  case busTimeout p bs => exact .of_eases (execBusTimeout_easesCredits he)
  case busStop r => exact .of_eases (execBusStop_easesCredits he)
  case frameSync => exact .of_view (execFrameSync_creditsView he)
  case frameTaken w => exact .of_view (execFrameTaken_creditsView he)
  case clockLost => exact .of_view (execClockLost_creditsView he)
  case fadeEnd n => exact .of_view (execFadeEnd_creditsView he)
  case crossfadeEnd n l =>
    unfold execCrossfadeEnd at he; split_ifs at he <;> cases he
    · exact .of_view (creditsView_of_surroundings (State.crossfadeEnded_surroundings _ n l) :)
    · exact .refl s
  case quietFadeEnd =>
    unfold execQuietFadeEnd at he; split_ifs at he <;> cases he
    · exact .of_view (creditsView_of_surroundings (State.forceFadeEnds_surroundings _) :)
    · exact .refl s
  case regionJobComplete => cases he; exact .of_view rfl
  case regionLive e => exact .of_view (execRegionLive_creditsView he)
  case extensionComplete => exact .of_view (execExtensionComplete_creditsView he)
  case abandonedPageEnd => cases he; exact .of_view rfl
  case slotPropagation => exact .of_view (execSlotPropagation_creditsView he)
  case lfoPropagation => unfold execLfoPropagation at he; split at he <;> cases he <;> exact .of_view rfl
  case resync => unfold execResync at he; split at he <;> cases he <;> exact .of_view rfl
  case tapPress v => unfold execTapPress at he; split_ifs at he <;> cases he <;> exact .of_view rfl
  case tapRelease v => exact .of_view (execTapRelease_creditsView he)
  case longPress v => unfold execLongPress at he; split_ifs at he <;> cases he <;> exact .of_view rfl
  case stuckSwitch v => unfold execStuckSwitch at he; split_ifs at he <;> cases he <;> exact .of_view rfl
  case tapHighSample v => unfold execTapHighSample at he; split_ifs at he <;> cases he <;> exact .of_view rfl
  case tapFreshExpiry v =>
    unfold execTapFreshExpiry at he; split_ifs at he <;> cases he
    · exact .of_view (creditsView_of_outsideTempo (State.reevaluate_outsideTempo _) :)
    · exact .refl s
  case tapHistoryClear v => unfold execTapHistoryClear at he; split_ifs at he <;> cases he <;> exact .of_view rfl
  case linkTempoFrame a b c d v => cases he; exact .of_view (s.linkBytes_creditsView _ _)
  case linkStopFrame a b v => cases he; exact .of_view (s.linkBytes_creditsView _ _)
  case linkBadFrame bs v => cases he; exact .of_view (s.linkBytes_creditsView _ _)
  case linkBreak v => cases he; exact .of_view (s.linkBytes_creditsView _ _)
  case linkSilenceTimeout v =>
    unfold execLinkSilenceTimeout at he; split_ifs at he <;> cases he
    · exact .of_view (creditsView_of_outsideTempo s.linkLost_outsideTempo)
    · exact .refl s
  case leaseTick =>
    unfold execLeaseTick at he; split_ifs at he <;> cases he
    · exact .refl s
    · exact .of_eases (.of_outsideHolds (foldl_keeps State.outsideHolds State.tickHold State.tickHold_outsideHolds _ _))
  case holdExpiry n =>
    unfold execHoldExpiry at he; split_ifs at he <;> cases he
    · exact .of_eases (.of_outsideHolds (s.expireHold_outsideHolds n))
    · exact .refl s
  case supplyLow v =>
    unfold execSupplyLow at he; split_ifs at he <;> cases he
    · exact fun _ => s.enterStarting_creditsOk _ _
    · exact .of_view ((State.fadeSupply_creditsView _ _ _).trans rfl)
    · exact .refl s
  case supplyNormal v =>
    unfold execSupplyNormal at he; split_ifs at he <;> cases he
    · exact .of_view ((State.fadeSupply_creditsView _ _ _).trans rfl)
    · exact .refl s
  case powerOnReset => cases he; exact fun _ => s.enterStarting_creditsOk _ _
  case resetLow => cases he; exact fun _ => s.enterStarting_creditsOk _ _
  case startUpSweep r v => unfold execStartUpSweep at he; split_ifs at he <;> cases he <;> exact .of_view rfl
  case startUpSweepEnd pins =>
    unfold execStartUpSweepEnd at he; split_ifs at he <;> cases he
    · exact s.startUp_keepsCredits pins _
    · exact .refl s

/-- And every step keeps them. -/
theorem step_keepsCredits {s t : State} (he : step s = .next t) : s.KeepsCredits t := by
  unfold step at he; split at he
  · exact .after (exec_keepsCredits he) rfl
  · cases he
    exact .of_view ((congrArg State.creditsView s.pageTime_frame).trans rfl)

/-- Settles O53: a result takes the credit that its command left, a message the one its write reserved, and an address byte reserves one
that is free. -/
theorem stepKeepsCredits : Obligations.StepKeepsCredits := fun _ _ h he => step_keepsCredits he h

end Sys2Proof.Machine

namespace Sys2Proof.Machine

/-! ### The judgement of an address byte (R163, R164) -/

section
variable {s : State} {p : Port} {address : BitVec 7}

/-- In STARTING every address byte is ignored. -/
theorem execI2cAddress_of_starting (starting : s.power = .starting) (d : Direction) :
    execI2cAddress p address d s = .next (s.setPort p { s.port p with link := .ignoring }) := if_pos starting

/-- Past STARTING what the port was doing ends, and the byte is judged. -/
theorem execI2cAddress_of_up (up : s.power ≠ .starting) (d : Direction) :
    execI2cAddress p address d s = .next ((s.setPort p (s.port p).endTransaction).judgeAddress p address d) := if_neg up

/-- A port with no write in progress judges the byte from rest. -/
theorem execI2cAddress_of_not_writing (up : s.power ≠ .starting) (closed : (s.port p).writing = false) (d : Direction) :
    execI2cAddress p address d s = .next ((s.setPort p (s.port p).atRest).judgeAddress p address d) := by
  rw [execI2cAddress_of_up up, PortState.endTransaction_of_not_writing closed]

/-- An address byte during a write is one after the end of its message (log 8). -/
theorem execI2cAddress_of_writing (up : s.power ≠ .starting) (writing : (s.port p).writing = true) (d : Direction) :
    execI2cAddress p address d s = execI2cAddress p address d (s.setPort p (s.port p).endMessage) := by
  have ended : (s.setPort p (s.port p).endMessage).port p = (s.port p).endMessage := State.setPort_port_same s p _
  have closed : ((s.setPort p (s.port p).endMessage).port p).writing = false := by rw [ended]; exact (s.port p).endMessage_not_writing
  have upAfter : (s.setPort p (s.port p).endMessage).power ≠ .starting := by rw [State.setPort_power]; exact up
  rw [execI2cAddress_of_up up, PortState.endTransaction_of_writing writing, execI2cAddress_of_not_writing upAfter closed, ended,
    State.setPort_setPort, PortState.endMessage_atRest]

/-- R167: a port at rest has a credit free while its queues hold fewer than 8. -/
theorem PortState.atRest_creditsFree_pos (v : PortState) :
    0 < v.atRest.creditsFree ↔ v.commands.length + v.results.length < 8 := by
  rw [PortState.creditsFree, v.atRest_creditsInUse]; omega

/-! #### Writes (R163, R167): the port's record judged is `v` -/

variable {v : PortState}

theorem State.judgeAddress_own_free (own : address = v.ownAddress) (free : 0 < v.creditsFree) :
    (s.setPort p v).judgeAddress p address .write = s.setPort p (v.addressed false) := by
  simp only [State.judgeAddress, State.setPort_port_same, if_pos own, if_pos free, State.setPort_setPort]

theorem State.judgeAddress_own_full (own : address = v.ownAddress) (full : ¬ 0 < v.creditsFree) :
    (s.setPort p v).judgeAddress p address .write = s.setPort p { v with link := .ignoring } := by
  simp only [State.judgeAddress, State.setPort_port_same, if_pos own, if_neg full, State.setPort_setPort]

theorem State.judgeAddress_call_free (other : address ≠ v.ownAddress) (call : address = 0 ∧ v.callEnable = true)
    (free : 0 < v.creditsFree) : (s.setPort p v).judgeAddress p address .write = s.setPort p (v.addressed true) := by
  simp only [State.judgeAddress, State.setPort_port_same, if_neg other, if_pos call, if_pos free, State.setPort_setPort]

/-- R163: a general call that finds no credit raises GC_MISSED. -/
theorem State.judgeAddress_call_full (other : address ≠ v.ownAddress) (call : address = 0 ∧ v.callEnable = true)
    (full : ¬ 0 < v.creditsFree) : (s.setPort p v).judgeAddress p address .write
      = s.setPort p { v with link := .ignoring, flags := v.flags ||| 0x2000 } := by
  simp only [State.judgeAddress, State.raise, State.setPort_port_same, if_neg other, if_pos call, if_neg full, State.setPort_setPort]
  rfl

theorem State.judgeAddress_write_other (other : address ≠ v.ownAddress) (noCall : ¬ (address = 0 ∧ v.callEnable = true)) :
    (s.setPort p v).judgeAddress p address .write = s.setPort p { v with link := .ignoring } := by
  simp only [State.judgeAddress, State.setPort_port_same, if_neg other, if_neg noCall, State.setPort_setPort]

/-! #### Reads (R163, R169, R170) -/

theorem State.judgeAddress_read_own {k : Sending} (own : address = v.ownAddress) (chosen : (s.setPort p v).chosenRecord p = k) :
    (s.setPort p v).judgeAddress p address .read = s.setPort p { v with link := .sending k, sent := [] } := by
  simp only [State.judgeAddress, State.setPort_port_same, if_pos own, chosen, State.setPort_setPort]

theorem State.judgeAddress_read_other (other : address ≠ v.ownAddress) :
    (s.setPort p v).judgeAddress p address .read = s.setPort p { v with link := .ignoring } := by
  simp only [State.judgeAddress, State.setPort_port_same, if_neg other, State.setPort_setPort]

theorem State.chosenRecord_of_result {r : Result} {rs : List Result} (h : v.results = r :: rs) :
    (s.setPort p v).chosenRecord p = .result r := by
  unfold State.chosenRecord; rw [State.setPort_port_same, h]

/-- R170: a port at rest whose result queue is empty sends the flag word and its free credits. -/
theorem State.atRest_chosenRecord (empty : (s.port p).results = []) : (s.setPort p (s.port p).atRest).chosenRecord p
    = .idle ⟨0, 0, .none, maskBytes (s.flagWord p) ++ [BitVec.ofNat 8 (8 - (s.port p).commands.length)]⟩ := by
  have results : (s.port p).atRest.results = [] := empty
  have word : (s.setPort p (s.port p).atRest).flagWord p = s.flagWord p := by cases p <;> rfl
  have free : (s.port p).atRest.creditsFree = 8 - (s.port p).commands.length := by
    rw [PortState.creditsFree, PortState.atRest_creditsInUse, empty]; rfl
  unfold State.chosenRecord State.idleRecord
  rw [State.setPort_port_same, results, word, free]; rfl

end

/-- Settles O37: the byte is judged from rest, and a write in progress comes to rest with its message. -/
theorem addressByte : Obligations.AddressByte := by
  intro s p address
  refine ⟨fun starting d => execI2cAddress_of_starting starting d,
    fun up writing d => execI2cAddress_of_writing up ((s.port p).writing_iff.mpr writing) d, fun up notAddressed notReceiving => ?_⟩
  intro v free
  have judged {d : Direction} {t : State} (h : (s.setPort p v).judgeAddress p address d = t) : exec (.i2cAddress p address d) s = .next t :=
    (execI2cAddress_of_not_writing up ((s.port p).writing_eq_false_iff.mpr ⟨notAddressed, notReceiving⟩) d).trans (congrArg _ h)
  have room : 0 < v.creditsFree ↔ free := (s.port p).atRest_creditsFree_pos
  refine ⟨fun own credit => ?ownFree, fun own noCredit => ?ownFull, fun zero other enabled credit => ?callFree,
    fun zero other enabled noCredit => ?callFull, fun other noCall => ?writeOther, fun own r rs results => ?readResult,
    fun own empty => ?readIdle, fun other => ?readOther⟩
  case ownFree => exact judged (State.judgeAddress_own_free own (room.mpr credit))
  case ownFull => exact judged (State.judgeAddress_own_full own (mt room.mp noCredit))
  case callFree => exact judged (State.judgeAddress_call_free other ⟨zero, enabled⟩ (room.mpr credit))
  case callFull => exact judged (State.judgeAddress_call_full other ⟨zero, enabled⟩ (mt room.mp noCredit))
  case writeOther =>
    have ignored : ¬ (address = 0 ∧ v.callEnable = true) := fun ⟨zero, enabled⟩ =>
      noCall.elim (· zero) fun disabled => Bool.false_ne_true (disabled.symm.trans enabled)
    exact judged (State.judgeAddress_write_other other ignored)
  case readResult => exact judged (State.judgeAddress_read_own own (State.chosenRecord_of_result results))
  case readIdle => exact judged (State.judgeAddress_read_own own (State.atRest_chosenRecord empty))
  case readOther => exact judged (State.judgeAddress_read_other other)

end Sys2Proof.Machine

namespace Sys2Proof.Machine

/-! ### What a write holds when its data bytes are taken (R165, log 7) -/

section
variable {v : PortState} {bytes : List Byte}

theorem PortState.takeBytes_buffer (held : v.buffer.length ≤ 64) : (v.takeBytes bytes).buffer = (v.buffer ++ bytes).take 64 :=
  (congrArg PortState.buffer (PortState.takeBytes_eq bytes v held) :)

theorem PortState.takeBytes_buffer_of_fits (fits : (v.buffer ++ bytes).length ≤ 64) : (v.takeBytes bytes).buffer = v.buffer ++ bytes := by
  have held : v.buffer.length ≤ 64 := by rw [List.length_append] at fits; omega
  rw [PortState.takeBytes_buffer held, List.take_of_length_le fits]

theorem PortState.takeBytes_tooLong (held : v.buffer.length ≤ 64) :
    (v.takeBytes bytes).tooLong = (v.tooLong || decide (64 < (v.buffer ++ bytes).length)) :=
  (congrArg PortState.tooLong (PortState.takeBytes_eq bytes v held) :)

theorem PortState.takeBytes_callMark (held : v.buffer.length ≤ 64) : (v.takeBytes bytes).callMark = v.callMark :=
  (congrArg PortState.callMark (PortState.takeBytes_eq bytes v held) :)

/-- The end of a message forgets its data bytes. -/
theorem PortState.takeBytes_atRest (held : v.buffer.length ≤ 64) : (v.takeBytes bytes).atRest = v.atRest :=
  (congrArg PortState.atRest (PortState.takeBytes_eq bytes v held) :)

/-- The bytes beyond the 64 held are none of the tag and the code. -/
theorem PortState.takeBytes_getD (held : v.buffer.length ≤ 64) {i : Nat} (h : i < 64) :
    (v.takeBytes bytes).buffer.getD i 0 = (v.buffer ++ bytes).getD i 0 := by
  rw [PortState.takeBytes_buffer held, List.getD_eq_getElem?_getD, List.getElem?_take_of_lt h, List.getD_eq_getElem?_getD]

/-- R166, R171: the result that a port makes of the bytes of a write. -/
theorem PortState.takeBytes_portResult (held : v.buffer.length ≤ 64) (st : Status) :
    (v.takeBytes bytes).portResult st = ⟨(v.buffer ++ bytes).getD 0 0, (v.buffer ++ bytes).getD 1 0, st, []⟩ := by
  rw [PortState.portResult, PortState.heldTag, PortState.heldCode, PortState.takeBytes_getD held (by decide),
    PortState.takeBytes_getD held (by decide)]

/-! ### The checks of a message (R166) -/

/-- R166: the length byte counts the body. -/
def PortState.lengthOk (v : PortState) : Prop := (v.buffer.getD 2 0).toNat + 4 = v.buffer.length

/-- R166: the last byte is the CRC-8 of the others. -/
def PortState.crcOk (v : PortState) : Prop := v.buffer.getD (v.buffer.length - 1) 0 = crc8 v.buffer.dropLast

/-- R166: a general call carries RECALL or TAP. -/
def PortState.codeOk (v : PortState) : Prop := v.callMark = false ∨ v.heldCode = 0x24 ∨ v.heldCode = 0x32

theorem PortState.badCode_iff (v : PortState) : (v.callMark && !generalCallCodes.contains v.heldCode) = true ↔ ¬ v.codeOk := by
  simp [PortState.codeOk, generalCallCodes]

theorem PortState.framingFault_short (short : v.buffer.length < 4) : v.framingFault = some .badFrame := if_pos short

theorem PortState.framingFault_tooLong (long : 4 ≤ v.buffer.length) (mark : v.tooLong = true) : v.framingFault = some .tooLong :=
  (if_neg (Nat.not_lt.mpr long)).trans (if_pos mark)

section
variable (long : 4 ≤ v.buffer.length) (noMark : v.tooLong = false)
include long

theorem PortState.lengthOk_iff : v.lengthOk ↔ (v.buffer.getD 2 0).toNat = v.buffer.length - 4 := by
  unfold PortState.lengthOk; omega

include noMark

theorem PortState.framingFault_length (badLength : ¬ v.lengthOk) : v.framingFault = some .badFrame := by
  rw [PortState.lengthOk_iff long] at badLength
  simp only [PortState.framingFault, if_neg (Nat.not_lt.mpr long), noMark, Bool.false_eq_true, if_false, ne_eq, badLength,
    not_false_eq_true, if_true]

/-- R166: what is left to check past the length byte. -/
theorem PortState.framingFault_of_length (length : v.lengthOk) :
    v.framingFault = if v.buffer.getD (v.buffer.length - 1) 0 ≠ crc8 v.buffer.dropLast then some .badCrc
      else if v.callMark && !generalCallCodes.contains v.heldCode then some .notGeneral else none := by
  rw [PortState.lengthOk_iff long] at length
  simp only [PortState.framingFault, if_neg (Nat.not_lt.mpr long), noMark, Bool.false_eq_true, if_false, ne_eq, length,
    not_true_eq_false]

theorem PortState.framingFault_crc (length : v.lengthOk) (badCrc : ¬ v.crcOk) : v.framingFault = some .badCrc :=
  (PortState.framingFault_of_length long noMark length).trans (if_pos badCrc)

/-- R166: what is left to check past the CRC. -/
theorem PortState.framingFault_of_crc (length : v.lengthOk) (crc : v.crcOk) :
    v.framingFault = if v.callMark && !generalCallCodes.contains v.heldCode then some .notGeneral else none :=
  (PortState.framingFault_of_length long noMark length).trans (if_neg (not_not_intro crc))

theorem PortState.framingFault_code (length : v.lengthOk) (crc : v.crcOk) (badCode : ¬ v.codeOk) : v.framingFault = some .notGeneral :=
  (PortState.framingFault_of_crc long noMark length crc).trans (if_pos (v.badCode_iff.mpr badCode))

theorem PortState.framingFault_sound (length : v.lengthOk) (crc : v.crcOk) (code : v.codeOk) : v.framingFault = none :=
  (PortState.framingFault_of_crc long noMark length crc).trans (if_neg fun bad => v.badCode_iff.mp bad code)

end

/-! ### The end of a message (R164 to R166) -/

variable {s : State} {p : Port}

theorem execMessageEnd_of_writing (writing : (s.port p).writing = true) :
    execMessageEnd p bytes s = .next (s.setPort p ((s.port p).takeBytes bytes).endMessage) := if_pos writing

/-- R166: a message that fails a check becomes a result made at the port. -/
theorem execMessageEnd_of_fault {st : Status} (writing : (s.port p).writing = true) (held : (s.port p).buffer.length ≤ 64)
    (fault : ((s.port p).takeBytes bytes).framingFault = some st) :
    execMessageEnd p bytes s = .next (s.setPort p { (s.port p).atRest with results := (s.port p).results
      ++ [⟨((s.port p).buffer ++ bytes).getD 0 0, ((s.port p).buffer ++ bytes).getD 1 0, st, []⟩] }) := by
  obtain ⟨_, results⟩ := Prod.mk.inj ((s.port p).takeBytes_queues bytes)
  rw [execMessageEnd_of_writing writing, PortState.endMessage_of_fault fault, PortState.takeBytes_atRest held, results,
    PortState.takeBytes_portResult held]

/-- R166: a good message becomes a command. -/
theorem execMessageEnd_of_sound (writing : (s.port p).writing = true) (fits : ((s.port p).buffer ++ bytes).length ≤ 64)
    (sound : ((s.port p).takeBytes bytes).framingFault = none) :
    execMessageEnd p bytes s = .next (s.setPort p { (s.port p).atRest with commands := (s.port p).commands
      ++ [⟨((s.port p).buffer ++ bytes).getD 0 0, ((s.port p).buffer ++ bytes).getD 1 0, (s.port p).callMark,
        (((s.port p).buffer ++ bytes).drop 3).dropLast⟩] }) := by
  have held : (s.port p).buffer.length ≤ 64 := by rw [List.length_append] at fits; omega
  obtain ⟨commands, _⟩ := Prod.mk.inj ((s.port p).takeBytes_queues bytes)
  rw [execMessageEnd_of_writing writing, PortState.endMessage_of_sound sound, PortState.takeBytes_atRest held, commands,
    PortState.heldCommand, PortState.heldTag, PortState.heldCode, PortState.takeBytes_callMark held,
    PortState.takeBytes_buffer_of_fits fits]

end

/-- Settles O38: the bytes that the row carries make the message held, whose first failing check is its status. -/
theorem messageIsFramed : Obligations.MessageIsFramed := by
  intro s p bytes link noMark held v b rest fails lengthOk crcOk codeOk
  have writing : v.writing = true := v.writing_iff.mpr link
  have buffer : b.length ≤ 64 → (v.takeBytes bytes).buffer = b := PortState.takeBytes_buffer_of_fits
  have failing {st : Status} (fault : (v.takeBytes bytes).framingFault = some st) : fails st :=
    execMessageEnd_of_fault writing held fault
  refine ⟨fun short => failing (PortState.framingFault_short ?short), fun excess => failing (PortState.framingFault_tooLong ?long ?mark),
    fun long fits => ?checked⟩
  case short => rw [buffer (by omega)]; exact short
  case long => rw [PortState.takeBytes_buffer held, List.length_take]; exact le_min (by decide) (show 4 ≤ b.length by omega)
  case mark => rw [PortState.takeBytes_tooLong held, decide_eq_true excess, Bool.or_true]
  case checked =>
    have unmarked : (v.takeBytes bytes).tooLong = false := by
      rw [PortState.takeBytes_tooLong held, decide_eq_false (Nat.not_lt.mpr fits), Bool.or_false]; exact noMark
    have atLeast : 4 ≤ (v.takeBytes bytes).buffer.length := by rw [buffer fits]; exact long
    have ofLength : (v.takeBytes bytes).lengthOk ↔ lengthOk := by unfold PortState.lengthOk; rw [buffer fits]
    have ofCrc : (v.takeBytes bytes).crcOk ↔ crcOk := by unfold PortState.crcOk; rw [buffer fits]
    have ofCode : (v.takeBytes bytes).codeOk ↔ codeOk := by
      unfold PortState.codeOk PortState.heldCode; rw [PortState.takeBytes_callMark held, buffer fits]
    rw [← ofLength, ← ofCrc, ← ofCode]
    exact ⟨fun badLength => failing (PortState.framingFault_length atLeast unmarked badLength),
      fun length badCrc => failing (PortState.framingFault_crc atLeast unmarked length badCrc),
      fun length crc badCode => failing (PortState.framingFault_code atLeast unmarked length crc badCode),
      fun length crc code => execMessageEnd_of_sound writing fits (PortState.framingFault_sound atLeast unmarked length crc code)⟩

end Sys2Proof.Machine

namespace Sys2Proof.Machine

/-! ### The bytes that a read puts out (R169, log 34) -/

/-- R169: the first `k` bytes of a read of a record: its bytes, and 0xFF past its end. -/
def Result.stream (r : Result) (k : Nat) : List Byte := (r.bytes ++ List.replicate k 0xFF).take k

section
variable (r : Result) (k : Nat)

theorem Result.stream_length : (r.stream k).length = k := by
  rw [Result.stream, List.length_take, List.length_append, List.length_replicate]; omega

theorem Result.stream_succ : r.stream (k + 1) = r.stream k ++ [r.bytes.getD k 0xFF] := by
  have padded : r.bytes ++ List.replicate (k + 1) 0xFF = (r.bytes ++ List.replicate k 0xFF) ++ [0xFF] := by
    rw [List.replicate_succ', List.append_assoc]
  have next : (r.bytes ++ List.replicate (k + 1) 0xFF)[k]? = some (r.bytes.getD k 0xFF) := by
    rw [List.getD_eq_getElem?_getD]
    by_cases inside : k < r.bytes.length
    · rw [List.getElem?_append_left inside, List.getElem?_eq_getElem inside]; rfl
    · rw [List.getElem?_append_right (Nat.not_lt.mp inside), List.getElem?_replicate, if_pos (by omega),
        List.getElem?_eq_none (Nat.not_lt.mp inside)]; rfl
  have room : k ≤ (r.bytes ++ List.replicate k 0xFF).length := by rw [List.length_append, List.length_replicate]; omega
  rw [Result.stream, List.take_add_one, next, padded, List.take_append_of_le_length room]; rfl

/-- R169: at its CRC byte the read has put out the record. -/
theorem Result.stream_of_length {k : Nat} (h : r.bytes.length = k) : r.stream k = r.bytes := by
  rw [Result.stream, ← h, List.take_left]

theorem Result.bytes_length_pos : 0 < r.bytes.length := by simp [Result.bytes]

/-! #### How many bytes the controller clocks -/

variable (acks : List Bool)

theorem bytesOut_acked : bytesOut (true :: acks) = bytesOut acks + 1 := by
  simp only [bytesOut, List.length_cons, List.takeWhile_cons, id, if_true]; omega

theorem bytesOut_released : bytesOut (false :: acks) = 1 := by
  simp only [bytesOut, List.length_cons, List.takeWhile_cons, id, Bool.false_eq_true, if_false, List.length_nil]; omega

end

/-! #### A read, byte by byte -/

/-- R169: the port after the controller's acknowledge of a byte, which releases SDA when it fails to come. -/
def PortState.acknowledged (v : PortState) (acked : Bool) : PortState := if acked then v else { v with link := .sending .released }

section
variable {v : PortState} {r : Result}

/-- A port that no byte clocked changes. -/
theorem PortState.sendBytes_fixed (h : ∀ acked, v.sendByte acked = v) (acks : List Bool) : v.sendBytes acks = v :=
  foldl_holds (· = v) PortState.sendByte (fun w acked hw => by rw [hw]; exact h acked) acks v rfl

/-- R169: once SDA is released a read puts out nothing. -/
theorem PortState.sendBytes_released (h : v.link = .sending .released) (acks : List Bool) : v.sendBytes acks = v :=
  PortState.sendBytes_fixed (fun acked => by unfold PortState.sendByte; rw [h]) acks

/-- R169: a read whose port is `R k` when `k` bytes are out and acknowledged is `R` of the bytes clocked, but for its link. -/
theorem PortState.sendBytes_of_clocks {R : Nat → PortState} (clocks : ∀ k acked, (R k).sendByte acked = (R (k + 1)).acknowledged acked)
    (acks : List Bool) : ∀ k, ∃ link, (R k).sendBytes acks = { R (k + bytesOut acks) with link := link } := by
  induction acks with
  | nil => exact fun k => ⟨(R k).link, rfl⟩
  | cons acked acks ih =>
    intro k
    show ∃ link, ((R k).sendByte acked).sendBytes acks = _
    rw [clocks]
    cases acked with
    | true =>
      obtain ⟨link, rest⟩ := ih (k + 1)
      exact ⟨link, by rw [bytesOut_acked, ← Nat.add_assoc, Nat.add_right_comm]; exact rest⟩
    | false => exact ⟨.sending .released, by rw [bytesOut_released]; exact PortState.sendBytes_released rfl acks⟩

/-- R169: a read goes on until the row that ends it. -/
theorem PortState.sendBytes_reading (h : v.link.reading = true) (acks : List Bool) : (v.sendBytes acks).link.reading = true :=
  foldl_holds (fun w => w.link.reading = true) PortState.sendByte
    (fun w acked hw => by
      unfold PortState.sendByte; split
      · split_ifs <;> rfl
      · rfl
      · rfl
      · rfl
      · exact hw) acks v h

theorem PortState.not_writing_of_reading (h : v.link.reading = true) : v.writing = false := by
  refine v.writing_eq_false_iff.mpr ⟨fun link => ?_, fun link => ?_⟩ <;> rw [link] at h <;> exact Bool.false_ne_true h

/-! #### Reads of each record -/

/-- R169: the port when `k` bytes of a read of its oldest result are out: with the CRC byte the result is gone. -/
def PortState.resultRead (v : PortState) (r : Result) (k : Nat) : PortState :=
  { v with
    link := .sending (if r.bytes.length ≤ k then .whole else .result r), sent := r.stream k,
    results := if r.bytes.length ≤ k then v.results.tail else v.results }

theorem PortState.resultRead_of_lt {k : Nat} (h : k < r.bytes.length) :
    v.resultRead r k = { v with link := .sending (.result r), sent := r.stream k } := by
  simp only [PortState.resultRead, if_neg (Nat.not_le.mpr h)]

theorem PortState.resultRead_of_le {k : Nat} (h : r.bytes.length ≤ k) :
    v.resultRead r k = { v with link := .sending .whole, sent := r.stream k, results := v.results.tail } := by
  simp only [PortState.resultRead, if_pos h]

theorem PortState.resultRead_sendByte (k : Nat) (acked : Bool) :
    (v.resultRead r k).sendByte acked = (v.resultRead r (k + 1)).acknowledged acked := by
  have sent := r.stream_length k
  rcases Nat.lt_trichotomy (k + 1) r.bytes.length with inside | crc | past
  · rw [PortState.resultRead_of_lt (Nat.lt_of_succ_lt inside), PortState.resultRead_of_lt inside, r.stream_succ k]
    simp only [PortState.sendByte, PortState.nextByte, sent, if_neg (Nat.not_le.mpr inside)]
    cases acked <;> rfl
  · rw [PortState.resultRead_of_lt (Nat.lt_of_succ_le crc.le), PortState.resultRead_of_le crc.ge, r.stream_of_length crc.symm]
    simp only [PortState.sendByte, PortState.resultOut, sent, if_pos crc.ge]
    cases acked <;> rfl
  · have out : r.bytes.getD k 0xFF = 0xFF := by
      rw [List.getD_eq_getElem?_getD, List.getElem?_eq_none (Nat.le_of_lt_succ past)]; rfl
    rw [PortState.resultRead_of_le (Nat.le_of_lt_succ past), PortState.resultRead_of_le past.le, r.stream_succ k, out]
    cases acked <;> rfl

/-- R170: the port when `k` bytes of a read of an idle record are out. -/
def PortState.idleRead (v : PortState) (r : Result) (k : Nat) : PortState :=
  { v with link := .sending (.idle r), sent := r.stream k }

theorem PortState.idleRead_sendByte (k : Nat) (acked : Bool) :
    (v.idleRead r k).sendByte acked = (v.idleRead r (k + 1)).acknowledged acked := by
  unfold PortState.idleRead
  simp only [PortState.sendByte, PortState.nextByte, r.stream_length k, r.stream_succ k]
  cases acked <;> rfl

/-- R169, R175: the port when `k` more bytes are out after a whole result, or after a PORT RESET. -/
def PortState.fillRead (v : PortState) (k : Nat) : PortState := { v with sent := v.sent ++ List.replicate k 0xFF }

theorem PortState.fillRead_sendByte (h : v.link = .sending .whole ∨ v.link = .sending .voided) (k : Nat) (acked : Bool) :
    (v.fillRead k).sendByte acked = (v.fillRead (k + 1)).acknowledged acked := by
  unfold PortState.fillRead
  rw [List.replicate_succ', ← List.append_assoc]
  obtain ⟨address, link⟩ := v
  rcases h with rfl | rfl
  · cases acked <;> rfl
  · cases acked <;> rfl

end

/-! ### The rows that end a transaction (R164, R169, R171) -/

section
variable {s : State} {p : Port} {acks : List Bool} {bytes : List Byte}

theorem execResultSent_of_sending {r : Result} {acked : Bool} (h : (s.port p).link = .sending (.result r)) :
    execResultSent ⟨p, acked⟩ s = .next (s.setPort p ((s.port p).resultOut r acked)) := by
  unfold execResultSent; rw [h]

theorem execReadEnd_of_reading (h : (s.port p).link.reading = true) :
    execReadEnd ⟨p, acks⟩ s = .next (s.setPort p { (s.port p).sendBytes acks with link := .idle }) := if_pos h

theorem execBusStop_of_reading (h : (s.port p).link.reading = true) :
    execBusStop ⟨p, acks⟩ s = .next (s.setPort p ((s.port p).sendBytes acks).atRest) := by
  unfold execBusStop
  rw [PortState.endTransaction_of_not_writing (PortState.not_writing_of_reading (PortState.sendBytes_reading h acks))]

/-- A STOP outside a read comes without bytes. -/
theorem execBusStop_of_not_reading (h : (s.port p).link.reading = false) :
    execBusStop ⟨p, acks⟩ s = .next (s.setPort p (s.port p).endTransaction) := by
  unfold execBusStop
  rw [PortState.sendBytes_idle h]

/-- R164: a STOP ends a write as MESSAGE_END does, with the bytes already held. -/
theorem execBusStop_of_writing (h : (s.port p).writing = true) (notReading : (s.port p).link.reading = false) :
    execBusStop ⟨p, acks⟩ s = execMessageEnd p [] s := by
  rw [execBusStop_of_not_reading notReading, PortState.endTransaction_of_writing h, execMessageEnd_of_writing h]; rfl

/-- R171: a timeout makes an ABORTED result of a write. -/
theorem execBusTimeout_of_writing (up : s.power ≠ .starting) (h : (s.port p).writing = true) (held : (s.port p).buffer.length ≤ 64) :
    execBusTimeout p bytes s = .next (s.setPort p { (s.port p).atRest with results := (s.port p).results
      ++ [⟨((s.port p).buffer ++ bytes).getD 0 0, ((s.port p).buffer ++ bytes).getD 1 0, .aborted, []⟩] }) := by
  obtain ⟨_, results⟩ := Prod.mk.inj ((s.port p).takeBytes_queues bytes)
  have row : execBusTimeout p bytes s = .next (s.setPort p { ((s.port p).takeBytes bytes).atRest with
      results := ((s.port p).takeBytes bytes).results ++ [((s.port p).takeBytes bytes).portResult .aborted] }) :=
    (if_neg up).trans (if_pos h)
  rw [row, PortState.takeBytes_atRest held, results, PortState.takeBytes_portResult held]

theorem execBusTimeout_of_not_writing (up : s.power ≠ .starting) (h : (s.port p).writing = false) :
    execBusTimeout p bytes s = .next (s.setPort p { s.port p with link := .idle }) :=
  (if_neg up).trans (if_neg (by rw [h]; exact Bool.false_ne_true))

end

/-! #### What a whole read has sent -/

section
variable {v : PortState} {r : Result}

/-- R169: a read of a result, from its first byte. -/
theorem PortState.sendBytes_result (link : v.link = .sending (.result r)) (fresh : v.sent = []) (acks : List Bool) :
    (v.sendBytes acks).sent = r.stream (bytesOut acks)
      ∧ (v.sendBytes acks).results = if r.bytes.length ≤ bytesOut acks then v.results.tail else v.results := by
  have start : v.resultRead r 0 = v := by
    rw [PortState.resultRead_of_lt r.bytes_length_pos, ← link, show r.stream 0 = v.sent from fresh.symm]
  obtain ⟨after, ends⟩ := PortState.sendBytes_of_clocks (R := v.resultRead r) PortState.resultRead_sendByte acks 0
  rw [start, Nat.zero_add] at ends
  rw [ends]; exact ⟨rfl, rfl⟩

/-- R170: a read of an idle record, from its first byte. -/
theorem PortState.sendBytes_idleRecord (link : v.link = .sending (.idle r)) (fresh : v.sent = []) (acks : List Bool) :
    (v.sendBytes acks).sent = r.stream (bytesOut acks) ∧ (v.sendBytes acks).results = v.results := by
  have start : v.idleRead r 0 = v := by
    rw [PortState.idleRead, ← link, show r.stream 0 = v.sent from fresh.symm]
  obtain ⟨after, ends⟩ := PortState.sendBytes_of_clocks (R := v.idleRead r) PortState.idleRead_sendByte acks 0
  rw [start, Nat.zero_add] at ends
  rw [ends]; exact ⟨rfl, rfl⟩

/-- R169, R175: a read past a whole result or after a PORT RESET puts out 0xFF alone. -/
theorem PortState.sendBytes_fill (link : v.link = .sending .whole ∨ v.link = .sending .voided) (acks : List Bool) :
    (v.sendBytes acks).sent = v.sent ++ List.replicate (bytesOut acks) 0xFF ∧ (v.sendBytes acks).results = v.results := by
  have start : v.fillRead 0 = v := by
    rw [PortState.fillRead, List.replicate_zero, List.append_nil]
  obtain ⟨after, ends⟩ := PortState.sendBytes_of_clocks (R := v.fillRead) (PortState.fillRead_sendByte link) acks 0
  rw [start, Nat.zero_add] at ends
  rw [ends]; exact ⟨rfl, rfl⟩

end

/-- Settles O39: a read's bytes are those of its record's stream, and each other transaction ends by its own row's rule. -/
theorem transactionsEnd : Obligations.TransactionsEnd := by
  intro s p bytes acks count
  refine ⟨fun r acked link => execResultSent_of_sending link, fun w link => ?read, fun link => ?ignored, fun link => ?stopped,
    fun up link room => ?aborted, fun up notAddressed notReceiving => ?timedOut⟩
  case read =>
    have reading : (s.port p).link.reading = true := by rw [link]; rfl
    refine ⟨(s.port p).sendBytes acks, execReadEnd_of_reading reading, execBusStop_of_reading reading,
      (s.port p).sendBytes_frame acks, fun r record fresh => ?_, fun r record fresh => ?_, fun record => ?_, fun record => ?_⟩
    · exact PortState.sendBytes_result (link.trans (congrArg _ record)) fresh acks
    · exact PortState.sendBytes_idleRecord (link.trans (congrArg _ record)) fresh acks
    · exact PortState.sendBytes_fill (record.imp (link.trans <| congrArg _ ·) (link.trans <| congrArg _ ·)) acks
    · exact PortState.sendBytes_released (link.trans (congrArg _ record)) acks
  case ignored =>
    have notReading : (s.port p).link.reading = false := by rcases link with h | h <;> rw [h] <;> rfl
    have closed : (s.port p).writing = false := by
      refine (s.port p).writing_eq_false_iff.mpr ?_
      rcases link with h | h <;> rw [h] <;> exact ⟨nofun, nofun⟩
    exact (execBusStop_of_not_reading notReading).trans
      (by rw [PortState.endTransaction_of_not_writing closed]; rfl)
  case stopped =>
    have notReading : (s.port p).link.reading = false := by rcases link with h | h <;> rw [h] <;> rfl
    exact execBusStop_of_writing ((s.port p).writing_iff.mpr link) notReading
  case aborted =>
    exact ⟨_, execBusTimeout_of_writing up ((s.port p).writing_iff.mpr link) (by omega), rfl, rfl, rfl⟩
  case timedOut =>
    exact execBusTimeout_of_not_writing up ((s.port p).writing_eq_false_iff.mpr ⟨notAddressed, notReceiving⟩)

end Sys2Proof.Machine

namespace Sys2Proof.Machine

/-! ### The machine right after a power-on reset (R177) -/

/-- A power-on reset is the entry to STARTING with every scene record at its reset value, over pages never written. -/
theorem State.enterStarting_reset : State.reset.enterStarting .power State.reset.scenes = State.reset := rfl

/-- R1, R24: every slot is EMPTY and without algorithm. -/
theorem State.reset_loadOk : State.reset.loadOk :=
  State.enterStarting_reset ▸ State.reset.enterStarting_loadOk .power State.reset.scenes

/-- R162, R167: no credit is in use. -/
theorem State.reset_creditsOk : State.reset.creditsOk :=
  State.enterStarting_reset ▸ State.reset.enterStarting_creditsOk .power State.reset.scenes

/-- R130: no slot is held, and both lease lengths are 40. -/
theorem State.reset_holdsOk : State.reset.holdsOk := by
  have free : ∀ n : SlotId, State.reset.holds[n] = Hold.none := fun _ => Vector.getElem_replicate ..
  have lease : ∀ p, (State.reset.port p).lease = 40 := fun p => by cases p <;> rfl
  refine ⟨fun n => ?_, fun p => ?_⟩
  · rw [free]; exact Hold.none_ok
  · rw [lease]; decide

/-- R57: no frame waits, and the LOST clock leaves nothing to send and the output at zero. -/
theorem State.reset_audioOk : State.reset.audioOk := ⟨Nat.zero_lt_succ _, fun _ => ⟨rfl, rfl, rfl⟩⟩

/-- R60: a voice starts at gain 0 with no fade. -/
theorem Voice.reset_gainsOk : Voice.reset.gainsOk := ⟨gainOk_zero, nofun⟩

/-- R68: a return gain starts at 1 with no fade. -/
theorem GainFade.reset_gainsOk : GainFade.reset.gainsOk := GainFade.gainsOk_settledAt gainOk_one

/-- R60, R68: no gain of the reset state is moving. -/
theorem State.reset_gainsOk : State.reset.gainsOk := by
  have voice : ∀ n : SlotId, State.reset.voices[n] = Voice.reset := fun _ => Vector.getElem_replicate ..
  refine (State.gainsOk_iff _).mpr ⟨fun n => ?_, GainFade.reset_gainsOk, GainFade.reset_gainsOk⟩
  rw [voice]; exact Voice.reset_gainsOk

/-- R102: the generator does not start in the all-zero state, which it would never leave. -/
theorem ModulationUnit.reset_lfsr_ne_zero : ModulationUnit.reset.lfsr ≠ 0 := by
  show (0x9C3B : BitVec 16) ≠ 0
  decide

/-- R124: the Morph Table is empty. -/
theorem State.reset_morphsOk : State.reset.morphsOk := by
  have none : ∀ n : SlotId, State.reset.morphs[n] = Option.none := fun _ => Vector.getElem_replicate ..
  intro n m hm
  rw [none] at hm
  cases hm

/-- R106, R107: no scene record has an entry. -/
theorem State.reset_scenesOk : State.reset.scenesOk := by
  have empty : ∀ k : SceneId, State.reset.scenes[k] = Scene.reset := fun _ => Vector.getElem_replicate ..
  intro k
  rw [empty]
  exact .nil

/-- Settles O59: every block at its reset value meets its own invariant. -/
theorem resetSatisfiesInvariants : Obligations.ResetSatisfiesInvariants :=
  ⟨State.reset_loadOk, State.reset_creditsOk, Pool.tiled_reset [], Memory.wf_nil, State.reset_holdsOk, TempoUnit.reset_settled,
    State.reset_audioOk, State.reset_gainsOk, TempoUnit.tapsOk_of_nil rfl, ModulationUnit.reset_lfsr_ne_zero, State.reset_morphsOk,
    State.reset_scenesOk⟩

end Sys2Proof.Machine

namespace Sys2Proof.Machine

/-! ### The queue of commands not yet taken, and what leaves it alone (log 24) -/

section
variable {s t : State}

theorem pending_of_surroundings (h : t.surroundings = s.surroundings) : t.pending = s.pending :=
  (congrArg State.pending h : t.surroundings.pending = s.surroundings.pending)
theorem pending_of_outsideTempo (h : t.outsideTempo = s.outsideTempo) : t.pending = s.pending :=
  (congrArg State.pending h : t.outsideTempo.pending = s.outsideTempo.pending)
theorem pending_of_outsideHolds (h : t.outsideHolds = s.outsideHolds) : t.pending = s.pending :=
  (congrArg State.pending h : t.outsideHolds.pending = s.outsideHolds.pending)
theorem pending_of_outsideScenes (h : t.outsideScenes = s.outsideScenes) : t.pending = s.pending :=
  (congrArg State.pending h : t.outsideScenes.pending = s.outsideScenes.pending)

/-- The answer is a next state, and its queue is the one of `s`. -/
def State.AnswersNext (s : State) (a : Answer) : Prop := ∃ t, a = .next t ∧ t.pending = s.pending

theorem State.AnswersNext.kept (h : t.pending = s.pending) : s.AnswersNext (.next t) := ⟨t, rfl, h⟩

/-- A command that the arbiter takes leaves its port's queue, not the queue of the rows. -/
theorem State.takeCommand_pending {p : Port} {c : Command} (h : s.takeCommand p c = some t) : t.pending = s.pending := by
  rcases State.takeCommand_spec h with ⟨_, _, ⟨rfl, _⟩ | ⟨rfl, _⟩⟩
  · exact s.setPort_pending p _
  · rfl

/-- A command's row answers next, and leaves the queue alone when its decision does. -/
theorem runCommand_answersNext {d : State → Verdict} (hd : ∀ u : State, (d u).state.pending = u.pending) (s : State) (p : Port)
    (c : Command) : s.AnswersNext (runCommand p c d s) := by
  cases taken : s.takeCommand p c with
  | none => unfold runCommand; rw [taken]; exact .kept rfl
  | some u =>
    rw [runCommand_taken taken]
    exact .kept ((State.placeResult_pending _ p _).trans ((hd u).trans (State.takeCommand_pending taken)))

end

end Sys2Proof.Machine

namespace Sys2Proof.Machine

/-! ### Every decision leaves the queue alone (R146) -/

section
variable (s : State) (p : Port) (b : List Byte)

/-! #### Decisions on slots -/

theorem Verdict.renewed_pending (v : Verdict) (n : SlotId) : (v.renewed p n).state.pending = v.state.pending := by
  unfold Verdict.renewed; split_ifs
  · exact pending_of_outsideHolds (State.renew_outsideHolds _ n p)
  · rfl

/-- A slot command taken, whose decision keeps the surroundings of the slots. -/
theorem Verdict.renewed_pending_of_surroundings {v : Verdict} (h : v.state.surroundings = s.surroundings) (n : SlotId) :
    (v.renewed p n).state.pending = s.pending := (v.renewed_pending p n).trans (pending_of_surroundings h)

theorem assignDecision_pending : (assignDecision p b s).state.pending = s.pending := by
  unfold assignDecision; split
  · split_ifs
    · rfl
    · split
      · split_ifs
        · rfl
        · exact Verdict.renewed_pending_of_surroundings s p (s.assignByState_losesMorphs _ _).surroundings _
      · rfl
  · rfl

theorem clearDecision_pending : (clearDecision p b s).state.pending = s.pending := by
  unfold clearDecision; split
  · split_ifs
    · rfl
    · split
      · split_ifs
        · rfl
        · exact Verdict.renewed_pending_of_surroundings s p (s.clearByState_losesMorphs _).surroundings _
      · rfl
  · rfl

theorem paramsDecision_pending : (paramsDecision p b s).state.pending = s.pending := by
  unfold paramsDecision; split
  · split
    · split_ifs
      · rfl
      · exact Verdict.renewed_pending_of_surroundings s p (s.paramsByState_surroundings _ _) _
    · rfl
  · rfl

/-- MUTE and UNMUTE, whose changes keep the surroundings of the slots. -/
theorem muteChecks_pending {f : State → SlotId → State} (hf : ∀ (t : State) n, (f t n).surroundings = t.surroundings) :
    (muteChecks p b f s).state.pending = s.pending := by
  unfold muteChecks; split
  · split
    · split_ifs
      · rfl
      · exact Verdict.renewed_pending_of_surroundings s p (hf s _) _
      · rfl
    · rfl
  · rfl

theorem routeDecision_pending : (routeDecision p b s).state.pending = s.pending := by
  unfold routeDecision; split
  · split
    · split_ifs
      · rfl
      · rfl
      · exact Verdict.renewed_pending_of_surroundings s p (s.routeSlot_surroundings _ _ _) _
    · rfl
  · rfl

theorem readSlotDecision_pending : (readSlotDecision p b s).state.pending = s.pending := by
  unfold readSlotDecision State.clearClip; split
  · split
    · dsimp only; split_ifs <;> rfl
    · rfl
  · rfl

/-! #### The pool report and the holds -/

theorem readPoolDecision_pending : (readPoolDecision b s).state.pending = s.pending := by
  unfold readPoolDecision; split <;> rfl

theorem takeHoldDecision_pending : (takeHoldDecision p b s).state.pending = s.pending := by
  unfold takeHoldDecision; split
  · dsimp only; split_ifs
    · rfl
    · exact pending_of_outsideHolds (s.takeHolds_outsideHolds p _)
  · rfl

theorem releaseHoldDecision_pending : (releaseHoldDecision p b s).state.pending = s.pending := by
  unfold releaseHoldDecision; split
  · exact pending_of_outsideHolds (s.releaseHolds_outsideHolds p _)
  · rfl

theorem setLeaseDecision_pending : (setLeaseDecision p b s).state.pending = s.pending := by
  unfold setLeaseDecision; split
  · split
    · exact s.setPort_pending p _
    · rfl
  · rfl

/-! #### Scenes, recalls and morphs -/

theorem storeSceneDecision_pending : (storeSceneDecision b s).state.pending = s.pending := by
  unfold storeSceneDecision; split
  · split
    · dsimp only; split_ifs <;> rfl
    · rfl
  · rfl

theorem writeSceneEntryDecision_pending : (writeSceneEntryDecision b s).state.pending = s.pending := by
  unfold writeSceneEntryDecision; split
  · split_ifs
    · split
      · split
        · rfl
        · split_ifs
          · exact pending_of_outsideScenes (s.verifyScene_outsideScenes _)
          · rfl
        · rfl
      · rfl
    · rfl
  · rfl

theorem eraseSceneDecision_pending : (eraseSceneDecision b s).state.pending = s.pending := by
  unfold eraseSceneDecision; split
  · split <;> rfl
  · rfl

theorem readSceneDecision_pending : (readSceneDecision b s).state.pending = s.pending := by
  unfold readSceneDecision; split
  · split
    · split
      · rfl
      · split_ifs
        · exact pending_of_outsideScenes (s.verifyScene_outsideScenes _)
        · rfl
      · rfl
    · rfl
  · rfl

/-- R117, R139: an entry of a recall. -/
theorem State.recallEntry_pending (g : Bool) (k : Nat) (e : SceneEntry) : (State.recallEntry p g k s e).pending = s.pending := by
  have entry : (s.recallByState e k).1.pending = s.pending := pending_of_surroundings (s.recallByState_surroundings e k)
  have renewed := (pending_of_outsideHolds (State.renew_outsideHolds _ e.slot p)).trans entry
  unfold State.recallEntry; dsimp only; split_ifs
  · rfl
  · exact entry
  · exact renewed
  · exact entry
  · exact renewed

theorem State.carryOutRecall_pending (g : Bool) (k : SceneId) (time : Option Nat) :
    (s.carryOutRecall p g k time).state.pending = s.pending := by
  have opened : (s.abortRecall.openRecall k (recallOrigin p g)).pending = s.pending := pending_of_surroundings (by simp)
  have offered := (pending_of_outsideTempo (State.offerTempo_outsideTempo _ s.scenes[k].tempo)).trans opened
  have settled := (foldl_keeps State.pending _
    (fun t e => t.recallEntry_pending p g (s.rate.blocks (time.getD s.scenes[k].morphTime)) e) s.scenes[k].entries _).trans offered
  unfold State.carryOutRecall; dsimp only; split_ifs <;> exact settled

theorem recallDecision_pending (g : Bool) : (recallDecision p g b s).state.pending = s.pending := by
  unfold recallDecision; split
  · split_ifs
    · rfl
    · split
      · split
        · rfl
        · split_ifs
          · exact pending_of_outsideScenes (s.verifyScene_outsideScenes _)
          · exact s.carryOutRecall_pending p g _ _
        · rfl
      · rfl
  · rfl

theorem abortMorphDecision_pending : (abortMorphDecision p b s).state.pending = s.pending := by
  unfold abortMorphDecision; split
  · dsimp only; split_ifs
    · rfl
    · exact (pending_of_outsideHolds (State.renewAll_outsideHolds _ p _)).trans
        (pending_of_surroundings (s.abortMorphs_surroundings _))
  · rfl

theorem readRecallDecision_pending : (readRecallDecision b s).state.pending = s.pending := by
  unfold readRecallDecision; split <;> rfl

/-! #### Tempo and modulation -/

theorem setTempoDecision_pending : (setTempoDecision b s).state.pending = s.pending := by
  unfold setTempoDecision; split
  · split
    · exact pending_of_outsideTempo (s.writeControl_outsideTempo _)
    · rfl
  · rfl

theorem setTempoSourceDecision_pending : (setTempoSourceDecision b s).state.pending = s.pending := by
  unfold setTempoSourceDecision; split
  · split
    · exact (pending_of_outsideTempo (State.reevaluate_outsideTempo _) :)
    · rfl
  · rfl

theorem tapDecision_pending (time : Nat) : (tapDecision b time s).state.pending = s.pending := by
  unfold tapDecision; split
  · exact pending_of_outsideTempo (s.enterTap_outsideTempo time)
  · rfl

theorem readTempoDecision_pending : (readTempoDecision b s).state.pending = s.pending := by
  unfold readTempoDecision; split <;> rfl

theorem setTapOptionsDecision_pending : (setTapOptionsDecision b s).state.pending = s.pending := by
  unfold setTapOptionsDecision; split
  · split <;> rfl
  · rfl

theorem setLfoDecision_pending : (setLfoDecision p b s).state.pending = s.pending := by
  unfold setLfoDecision; split
  · split
    · split_ifs <;> rfl
    · rfl
  · rfl

theorem seedRandomDecision_pending : (seedRandomDecision b s).state.pending = s.pending := by
  unfold seedRandomDecision; split
  · split_ifs <;> rfl
  · rfl

theorem setRandomModeDecision_pending : (setRandomModeDecision b s).state.pending = s.pending := by
  unfold setRandomModeDecision; split
  · split <;> rfl
  · rfl

/-! #### The port commands, QUIET and WAKE -/

theorem readEventsDecision_pending : (readEventsDecision p b s).state.pending = s.pending := by
  unfold readEventsDecision; split
  · exact s.setPort_pending p _
  · rfl

theorem setEventMaskDecision_pending : (setEventMaskDecision p b s).state.pending = s.pending := by
  unfold setEventMaskDecision; split
  · split
    · exact s.setPort_pending p _
    · rfl
  · rfl

theorem portResetDecision_pending : (portResetDecision p b s).state.pending = s.pending := by
  unfold portResetDecision; split
  · exact (State.setPort_pending _ p _).trans (pending_of_outsideHolds (s.releaseHolds_outsideHolds p allSlots))
  · rfl

theorem State.enterQuiet_pending : s.enterQuiet.pending = s.pending := by
  rw [State.enterQuiet_eq, State.startQuietFade_frame]
  exact (pending_of_surroundings s.abortRecall_surroundings :)

theorem quietDecision_pending : (quietDecision b s).state.pending = s.pending := by
  unfold quietDecision; split
  · split_ifs
    · rfl
    · exact s.enterQuiet_pending
  · rfl

theorem State.wakeUp_pending : s.wakeUp.pending = s.pending := by
  have swept : s.storeSweep.pending = s.pending := pending_of_outsideScenes s.storeSweep_outsideScenes
  have ended : s.storeSweep.endQuietPeriod.pending = s.storeSweep.pending :=
    (pending_of_surroundings (State.forceFadeEnds_surroundings _) :)
  have rezeroed (t : State) : t.rezeroSlots.pending = t.pending :=
    foldl_keeps State.pending State.rezeroSlot (fun u n => pending_of_surroundings (u.rezeroSlot_surroundings n)) allSlots t
  have restarted (t : State) : t.restartSound.pending = t.pending := (congrArg State.pending t.restartSound_spec.1 :)
  calc s.wakeUp.pending
      = s.storeSweep.endQuietPeriod.rezeroSlots.pending := restarted _
    _ = s.storeSweep.endQuietPeriod.pending := rezeroed _
    _ = s.pending := ended.trans swept

theorem wakeDecision_pending : (wakeDecision b s).state.pending = s.pending := by
  unfold wakeDecision; split
  · split_ifs
    · exact s.wakeUp_pending
    · rfl
  · rfl

end

end Sys2Proof.Machine

namespace Sys2Proof.Machine

/-! ### Every row answers next -/

section
variable (s : State) (p : Port)

/-! #### RESTART, unknown codes and the bus -/

/-- R161: a RESTART taken enters STARTING, which keeps the queue (log 31). -/
theorem execRestart_answersNext (tag : Byte) (b : List Byte) : s.AnswersNext (execRestart p tag b s) := by
  unfold execRestart; split
  · exact .kept rfl
  · rename_i taken
    split_ifs
    · exact .kept (State.takeCommand_pending taken :)
    · exact .kept ((State.placeResult_pending _ p _).trans (State.takeCommand_pending taken))

theorem execUnknownCommand_answersNext (tag code : Byte) (b : List Byte) : s.AnswersNext (execUnknownCommand p tag code b s) := by
  unfold execUnknownCommand; split_ifs
  · exact .kept rfl
  · exact runCommand_answersNext (fun _ => rfl) s p _

theorem State.judgeAddress_pending (a : BitVec 7) (d : Direction) : (s.judgeAddress p a d).pending = s.pending := by
  unfold State.judgeAddress; cases d with
  | write =>
    dsimp only; split_ifs
    · exact s.setPort_pending p _
    · exact s.setPort_pending p _
    · exact s.setPort_pending p _
    · exact (State.raise_pending _ p _).trans (s.setPort_pending p _)
    · exact s.setPort_pending p _
  | read => dsimp only; split_ifs <;> exact s.setPort_pending p _

theorem execI2cAddress_answersNext (a : BitVec 7) (d : Direction) : s.AnswersNext (execI2cAddress p a d s) := by
  unfold execI2cAddress; split_ifs
  · exact .kept (s.setPort_pending p _)
  · exact .kept ((State.judgeAddress_pending _ p a d).trans (s.setPort_pending p _))

theorem execMessageEnd_answersNext (bs : List Byte) : s.AnswersNext (execMessageEnd p bs s) := by
  unfold execMessageEnd; split_ifs
  · exact .kept (s.setPort_pending p _)
  · exact .kept rfl

theorem execResultSent_answersNext (r : LastByte) : s.AnswersNext (execResultSent r s) := by
  unfold execResultSent; split
  · exact .kept (s.setPort_pending r.port _)
  · exact .kept rfl

theorem execReadEnd_answersNext (r : ReadClocks) : s.AnswersNext (execReadEnd r s) := by
  unfold execReadEnd; split_ifs
  · exact .kept (s.setPort_pending r.port _)
  · exact .kept rfl

theorem execBusTimeout_answersNext (bs : List Byte) : s.AnswersNext (execBusTimeout p bs s) := by
  unfold execBusTimeout; dsimp only; split_ifs
  · exact .kept rfl
  · exact .kept (s.setPort_pending p _)
  · exact .kept (s.setPort_pending p _)

/-! #### The Audio Port and the Voice Engine -/

theorem State.blockEnd_pending (sends : List (Vector Sample 8)) : (s.blockEnd sends).pending = s.pending := by
  have handed (t : State) : t.handOff.pending = t.pending := (pending_of_surroundings t.handOff_surroundings :)
  have processed (t : State) : (t.soundingBlockEnd sends).pending = t.handOff.pending :=
    ((t.soundingBlockEnd_keeps sends State.pending (fun _ => rfl) (fun _ => rfl) (fun _ => rfl)).trans
      (State.finishFades_keeps _ State.pending (fun _ _ _ => rfl) (fun _ _ => rfl) (fun _ _ => rfl))).trans
      (State.takeUp_keeps _ State.pending (fun _ _ _ => rfl) (fun _ _ _ => rfl) (fun _ => rfl))
  unfold State.blockEnd; dsimp only; split_ifs
  · rfl
  · exact (processed _).trans (handed _)

theorem execFrameSync_answersNext : s.AnswersNext (execFrameSync s) := by
  unfold execFrameSync; split_ifs
  · exact .kept rfl
  · split <;> exact .kept rfl

theorem execFrameTaken_answersNext (w : Vector AudioWord 16) : s.AnswersNext (execFrameTaken w s) := by
  unfold execFrameTaken; dsimp only; split_ifs
  · exact .kept rfl
  · exact .kept (State.blockEnd_pending _ _)
  · exact .kept rfl

theorem execClockLost_answersNext : s.AnswersNext (execClockLost s) := by
  have dropped : s.dropModulation.pending = s.pending := foldl_keeps State.pending State.dropModulationOf (fun _ _ => rfl) _ _
  unfold execClockLost; dsimp only; split_ifs
  · exact .kept dropped
  · exact .kept dropped
  · exact .kept rfl

theorem execFadeEnd_answersNext (n : SlotId) : s.AnswersNext (execFadeEnd n s) := by
  unfold execFadeEnd; dsimp only; split_ifs
  · exact .kept (pending_of_surroundings (State.fadeEnded_surroundings _ n) :)
  · exact .kept rfl
  · exact .kept rfl

theorem execCrossfadeEnd_answersNext (n : SlotId) (l : LineId) : s.AnswersNext (execCrossfadeEnd n l s) := by
  unfold execCrossfadeEnd; split_ifs
  · exact .kept (pending_of_surroundings (State.crossfadeEnded_surroundings _ n l) :)
  · exact .kept rfl

theorem execQuietFadeEnd_answersNext : s.AnswersNext (execQuietFadeEnd s) := by
  unfold execQuietFadeEnd; split_ifs
  · exact .kept (pending_of_surroundings (State.forceFadeEnds_surroundings _) :)
  · exact .kept rfl

/-! #### The pool's reports and the propagation -/

theorem execRegionLive_answersNext (e : EntryId) : s.AnswersNext (execRegionLive e s) := by
  unfold execRegionLive; dsimp only; split_ifs
  · split
    · split
      · split_ifs
        · exact .kept (pending_of_surroundings (State.takeLiveReport_surroundings _ _ _ _) :)
        · exact .kept rfl
      · exact .kept rfl
    · exact .kept rfl
  · exact .kept rfl

theorem execExtensionComplete_answersNext : s.AnswersNext (execExtensionComplete s) := by
  unfold execExtensionComplete; split
  · unfold State.extensionEnded; split
    · exact .kept (pending_of_surroundings (State.growthEnd_surroundings _ _ _) :)
    · exact .kept rfl
  · exact .kept rfl

theorem execSlotPropagation_answersNext : s.AnswersNext (execSlotPropagation s) := by
  unfold execSlotPropagation; split
  · exact .kept (foldl_keeps State.pending _ (fun t n => pending_of_surroundings (t.propagateTo_surroundings n _)) _ _ :)
  · exact .kept rfl

theorem execLfoPropagation_answersNext : s.AnswersNext (execLfoPropagation s) := by
  unfold execLfoPropagation; split <;> exact .kept rfl

theorem execResync_answersNext : s.AnswersNext (execResync s) := by
  unfold execResync; split <;> exact .kept rfl

/-! #### The footswitch and the link -/

section
variable (time : Nat)

theorem execTapPress_answersNext : s.AnswersNext (execTapPress time s) := by
  unfold execTapPress; split_ifs <;> exact .kept rfl

theorem execTapRelease_answersNext : s.AnswersNext (execTapRelease time s) := by
  unfold execTapRelease; dsimp only; split_ifs
  · exact .kept rfl
  · exact .kept (pending_of_outsideTempo (State.enterTap_outsideTempo _ _) :)
  · exact .kept rfl
  · exact .kept rfl

theorem execLongPress_answersNext : s.AnswersNext (execLongPress time s) := by
  unfold execLongPress; split_ifs <;> exact .kept rfl

theorem execStuckSwitch_answersNext : s.AnswersNext (execStuckSwitch time s) := by
  unfold execStuckSwitch; split_ifs <;> exact .kept rfl

theorem execTapHighSample_answersNext : s.AnswersNext (execTapHighSample s time) := by
  unfold execTapHighSample; split_ifs <;> exact .kept rfl

theorem execTapFreshExpiry_answersNext : s.AnswersNext (execTapFreshExpiry time s) := by
  unfold execTapFreshExpiry; split_ifs
  · exact .kept (pending_of_outsideTempo (State.reevaluate_outsideTempo _) :)
  · exact .kept rfl

theorem execTapHistoryClear_answersNext : s.AnswersNext (execTapHistoryClear time s) := by
  unfold execTapHistoryClear; split_ifs <;> exact .kept rfl

theorem State.linkBytes_pending (bytes : List LinkByte) : (s.linkBytes bytes time).pending = s.pending :=
  pending_of_outsideTempo (s.linkBytes_outsideTempo bytes time)

theorem execLinkSilenceTimeout_answersNext : s.AnswersNext (execLinkSilenceTimeout time s) := by
  unfold execLinkSilenceTimeout; split_ifs
  · exact .kept (pending_of_outsideTempo s.linkLost_outsideTempo)
  · exact .kept rfl

end

/-! #### Leases, the supply and the start-up -/

theorem execLeaseTick_answersNext : s.AnswersNext (execLeaseTick s) := by
  unfold execLeaseTick; split_ifs
  · exact .kept rfl
  · exact .kept (pending_of_outsideHolds (foldl_keeps State.outsideHolds State.tickHold State.tickHold_outsideHolds _ _))

theorem execHoldExpiry_answersNext (n : SlotId) : s.AnswersNext (execHoldExpiry n s) := by
  unfold execHoldExpiry; split_ifs
  · exact .kept (pending_of_outsideHolds (s.expireHold_outsideHolds n))
  · exact .kept rfl

theorem State.fadeSupply_pending (g : Rat) (k : Nat) : (s.fadeSupply g k).pending = s.pending := by
  unfold State.fadeSupply; split_ifs <;> rfl

theorem State.supplyFalls_pending : s.supplyFalls.pending = s.pending := State.fadeSupply_pending _ 0 1

theorem execSupplyLow_answersNext (mv : Nat) : s.AnswersNext (execSupplyLow mv s) := by
  unfold execSupplyLow; split_ifs
  · exact .kept rfl
  · exact .kept s.supplyFalls_pending
  · exact .kept rfl

theorem execSupplyNormal_answersNext (mv : Nat) : s.AnswersNext (execSupplyNormal mv s) := by
  unfold execSupplyNormal; split_ifs
  · exact .kept (State.fadeSupply_pending _ 1 8)
  · exact .kept rfl

theorem execStartUpSweep_answersNext (high : Bool) (mv : Nat) : s.AnswersNext (execStartUpSweep high mv s) := by
  unfold execStartUpSweep; split_ifs <;> exact .kept rfl

theorem State.sweptUp_pending : s.sweptUp.pending = s.pending := by
  unfold State.sweptUp; dsimp only; split_ifs
  · exact (pending_of_outsideScenes (State.storeSweep_outsideScenes _) :)
  · rfl

theorem State.firstJudgement_pending (mv : Nat) : (s.firstJudgement mv).pending = s.pending := by
  unfold State.firstJudgement; split_ifs
  · rfl
  · exact s.supplyFalls_pending
  · rfl

theorem execStartUpSweepEnd_answersNext (pins : StartPins) : s.AnswersNext (execStartUpSweepEnd pins s) := by
  unfold execStartUpSweepEnd; split_ifs
  · exact .kept ((State.firstJudgement_pending _ _).trans s.sweptUp_pending)
  · exact .kept rfl

end

end Sys2Proof.Machine

namespace Sys2Proof.Machine

/-- Log 24: every command answers a next state, and leaves the queue alone. -/
theorem exec_answersNext (i : Instr) (s : State) : s.AnswersNext (exec i s) := by
  cases i with
  | assign p tag b => exact runCommand_answersNext (assignDecision_pending · p b) s p _
  | clear p tag b => exact runCommand_answersNext (clearDecision_pending · p b) s p _
  | params p tag b => exact runCommand_answersNext (paramsDecision_pending · p b) s p _
  | mute p tag b => exact runCommand_answersNext (muteChecks_pending · p b State.muteSlot_surroundings) s p _
  | unmute p tag b => exact runCommand_answersNext (muteChecks_pending · p b State.unmuteSlot_surroundings) s p _
  | route p tag b => exact runCommand_answersNext (routeDecision_pending · p b) s p _
  | readSlot p tag b => exact runCommand_answersNext (readSlotDecision_pending · p b) s p _
  | readPool p tag b => exact runCommand_answersNext (readPoolDecision_pending · b) s p _
  | takeHold p tag b => exact runCommand_answersNext (takeHoldDecision_pending · p b) s p _
  | releaseHold p tag b => exact runCommand_answersNext (releaseHoldDecision_pending · p b) s p _
  | setLease p tag b => exact runCommand_answersNext (setLeaseDecision_pending · p b) s p _
  | storeScene p tag b => exact runCommand_answersNext (storeSceneDecision_pending · b) s p _
  | writeSceneEntry p tag b => exact runCommand_answersNext (writeSceneEntryDecision_pending · b) s p _
  | eraseScene p tag b => exact runCommand_answersNext (eraseSceneDecision_pending · b) s p _
  | readScene p tag b => exact runCommand_answersNext (readSceneDecision_pending · b) s p _
  | recallScene p tag g b => exact runCommand_answersNext (recallDecision_pending · p b g) s p _
  | abortMorph p tag b => exact runCommand_answersNext (abortMorphDecision_pending · p b) s p _
  | readRecall p tag b => exact runCommand_answersNext (readRecallDecision_pending · b) s p _
  | setTempo p tag b => exact runCommand_answersNext (setTempoDecision_pending · b) s p _
  | setTempoSource p tag b => exact runCommand_answersNext (setTempoSourceDecision_pending · b) s p _
  | tap p tag g b time => exact runCommand_answersNext (tapDecision_pending · b time) s p _
  | readTempo p tag b => exact runCommand_answersNext (readTempoDecision_pending · b) s p _
  | setTapOptions p tag b => exact runCommand_answersNext (setTapOptionsDecision_pending · b) s p _
  | setLfo p tag b => exact runCommand_answersNext (setLfoDecision_pending · p b) s p _
  | seedRandom p tag b => exact runCommand_answersNext (seedRandomDecision_pending · b) s p _
  | setRandomMode p tag b => exact runCommand_answersNext (setRandomModeDecision_pending · b) s p _
  | readEvents p tag b => exact runCommand_answersNext (readEventsDecision_pending · p b) s p _
  | setEventMask p tag b => exact runCommand_answersNext (setEventMaskDecision_pending · p b) s p _
  | portReset p tag b => exact runCommand_answersNext (portResetDecision_pending · p b) s p _
  | quiet p tag b => exact runCommand_answersNext (quietDecision_pending · b) s p _
  | wake p tag b => exact runCommand_answersNext (wakeDecision_pending · b) s p _
  | restart p tag b => exact execRestart_answersNext s p tag b
  | unknownCommand p tag code b => exact execUnknownCommand_answersNext s p tag code b
  | i2cAddress p a d => exact execI2cAddress_answersNext s p a d
  | messageEnd p bs => exact execMessageEnd_answersNext s p bs
  | resultSent r => exact execResultSent_answersNext s r
  | readEnd r => exact execReadEnd_answersNext s r
  | busTimeout p bs => exact execBusTimeout_answersNext s p bs
  | busStop r => exact .kept (s.setPort_pending r.port _)
  | frameSync => exact execFrameSync_answersNext s
  | frameTaken w => exact execFrameTaken_answersNext s w
  | clockLost => exact execClockLost_answersNext s
  | fadeEnd n => exact execFadeEnd_answersNext s n
  | crossfadeEnd n l => exact execCrossfadeEnd_answersNext s n l
  | quietFadeEnd => exact execQuietFadeEnd_answersNext s
  | regionJobComplete => exact .kept (s.setPool_pending _)
  | regionLive e => exact execRegionLive_answersNext s e
  | extensionComplete => exact execExtensionComplete_answersNext s
  | abandonedPageEnd => exact .kept (s.setPool_pending _)
  | slotPropagation => exact execSlotPropagation_answersNext s
  | lfoPropagation => exact execLfoPropagation_answersNext s
  | resync => exact execResync_answersNext s
  | tapPress time => exact execTapPress_answersNext s time
  | tapRelease time => exact execTapRelease_answersNext s time
  | longPress time => exact execLongPress_answersNext s time
  | stuckSwitch time => exact execStuckSwitch_answersNext s time
  | tapHighSample time => exact execTapHighSample_answersNext s time
  | tapFreshExpiry time => exact execTapFreshExpiry_answersNext s time
  | tapHistoryClear time => exact execTapHistoryClear_answersNext s time
  | linkTempoFrame hi lo position crc time => exact .kept (s.linkBytes_pending time _)
  | linkStopFrame zero crc time => exact .kept (s.linkBytes_pending time _)
  | linkBadFrame bytes time => exact .kept (s.linkBytes_pending time _)
  | linkBreak time => exact .kept (s.linkBytes_pending time _)
  | linkSilenceTimeout time => exact execLinkSilenceTimeout_answersNext s time
  | leaseTick => exact execLeaseTick_answersNext s
  | holdExpiry n => exact execHoldExpiry_answersNext s n
  | supplyLow mv => exact execSupplyLow_answersNext s mv
  | supplyNormal mv => exact execSupplyNormal_answersNext s mv
  | powerOnReset => exact .kept rfl
  | resetLow => exact .kept rfl
  | startUpSweep high mv => exact execStartUpSweep_answersNext s high mv
  | startUpSweepEnd pins => exact execStartUpSweepEnd_answersNext s pins

/-- Settles O2: every row is a command's, whose decision leaves the queue alone, or an event's, all of whose branches answer next. -/
theorem everyCommandAnswersNext : Obligations.EveryCommandAnswersNext := exec_answersNext

end Sys2Proof.Machine
